-- ==== Sys2Proof/Word.lean ====
section
/-! DEFINITION. The word types of the machine and their plainest arithmetic (R4: bits are numbered
from 0 at the least significant end; multi-byte quantities are little-endian). -/

namespace Sys2Proof

/-- One byte of a memory. -/
abbrev Byte := BitVec 8

/-- One 32-bit element of a vector register, one instruction word, one literal. -/
abbrev Word := BitVec 32

/-- One scalar register, one mask, one address in a scalar register. -/
abbrev DWord := BitVec 64

/-- Field `[hi:lo]` of a bit vector, as a natural number (R4). -/
def bits {w : Nat} (v : BitVec w) (hi lo : Nat) : Nat :=
  (v.toNat >>> lo) % 2 ^ (hi + 1 - lo)

/-- Bit `n` of a bit vector (R4). -/
def bit {w : Nat} (v : BitVec w) (n : Nat) : Bool :=
  v.getLsbD n

/-- `b` as 0 or 1. -/
def b2n (b : Bool) : Nat := if b then 1 else 0

/-- The least multiple of `m` that is at least `n` (`m` > 0). -/
def roundUp (n m : Nat) : Nat := ((n + m - 1) / m) * m

end Sys2Proof
end

