-- ==== Sys2Proof/Machine/Numbers.lean ====
section
/-! DEFINITION. Number formats and arithmetic rules (R140-R155): exact values, the rounding function
`res`, conversions between the formats, block scales, quantisation and codebooks. -/

namespace Sys2Proof.Machine

open Sys2Proof

/-- The float formats (R140, R142). -/
inductive FloatFormat where
  | b32 | b16 | bf16 | e4m3 | e5m2 | e2m1
  deriving DecidableEq, Repr

/-- Width of the exponent field. -/
def FloatFormat.ebits : FloatFormat → Nat
  | .b32 => 8
  | .b16 => 5
  | .bf16 => 8
  | .e4m3 => 4
  | .e5m2 => 5
  | .e2m1 => 2

/-- Width of the fraction field. -/
def FloatFormat.fbits : FloatFormat → Nat
  | .b32 => 23
  | .b16 => 10
  | .bf16 => 7
  | .e4m3 => 3
  | .e5m2 => 2
  | .e2m1 => 1

/-- Width of the format, its sign included. -/
def FloatFormat.width (f : FloatFormat) : Nat := 1 + f.ebits + f.fbits

/-- Exponent bias (R140, R142). -/
def FloatFormat.bias (f : FloatFormat) : Nat := 2 ^ (f.ebits - 1) - 1

/-- Formats with infinities (R142). -/
def FloatFormat.hasInf : FloatFormat → Bool
  | .e4m3 | .e2m1 => false
  | _ => true

/-- Bits of the largest finite magnitude M (R140, R142). -/
def FloatFormat.maxBits : FloatFormat → Nat
  | .b32 => 0x7F7FFFFF
  | .b16 => 0x7BFF
  | .bf16 => 0x7F7F
  | .e4m3 => 0x7E
  | .e5m2 => 0x7B
  | .e2m1 => 0x7

/-- Bits of +infinity, for the formats that have it. -/
def FloatFormat.infBits : FloatFormat → Nat
  | .b32 => 0x7F800000
  | .b16 => 0x7C00
  | .bf16 => 0x7F80
  | .e5m2 => 0x7C
  | .e4m3 => 0x7E
  | .e2m1 => 0x7

/-- The canonical NaN of the format (R141); +0 for E2M1, which has none (R143). -/
def FloatFormat.nanBits : FloatFormat → Nat
  | .b32 => 0x7FC00000
  | .b16 => 0x7E00
  | .bf16 => 0x7FC0
  | .e4m3 => 0x7F
  | .e5m2 => 0x7E
  | .e2m1 => 0

/-- An exact value: NaN, an infinity, or ± m × 2^e (m may be 0: a signed zero). -/
inductive FVal where
  | nan
  | inf (neg : Bool)
  | fin (neg : Bool) (m : Nat) (e : Int)
  deriving DecidableEq, Repr

/-- Exponent of the least significant bit of a subnormal. -/
def FloatFormat.emin (f : FloatFormat) : Int := 1 - (f.bias : Int) - (f.fbits : Int)

/-- The value of an encoding (R140, R142). -/
def FloatFormat.decode (f : FloatFormat) (n : Nat) : FVal :=
  let fr := n % 2 ^ f.fbits
  let ex := n / 2 ^ f.fbits % 2 ^ f.ebits
  let neg := n / 2 ^ (f.ebits + f.fbits) % 2 = 1
  if f = .e4m3 ∧ ex = 15 ∧ fr = 7 then .nan
  else if f.hasInf ∧ ex = 2 ^ f.ebits - 1 then (if fr = 0 then .inf neg else .nan)
  else if ex = 0 then .fin neg fr f.emin
  else .fin neg (2 ^ f.fbits + fr) (f.emin + (ex : Int) - 1)

/-- Is the value a subnormal of the format: nonzero, below the smallest normal? -/
def FloatFormat.isSubnormal (f : FloatFormat) (n : Nat) : Bool :=
  n / 2 ^ f.fbits % 2 ^ f.ebits == 0 && n % 2 ^ f.fbits != 0

/-- An operand as arithmetic reads it: under SUB 2 a subnormal is zero with its own sign (R146). -/
def FloatFormat.operand (f : FloatFormat) (sub n : Nat) : FVal :=
  if sub = 2 ∧ f.isSubnormal n then .fin (n / 2 ^ (f.ebits + f.fbits) % 2 = 1) 0 f.emin
  else f.decode n

/-- Does rounding in mode `r` (R144) add one to the truncated magnitude? `rem` against `half` says
where the exact magnitude lies; `odd` is the parity of the truncated one. -/
def roundsUp (r : Nat) (neg odd inexact atHalf aboveHalf : Bool) : Bool :=
  match r with
  | 1 => aboveHalf || (atHalf && odd)
  | 2 => false
  | 3 => inexact && !neg
  | 4 => inexact && neg
  | _ => aboveHalf || atHalf

/-- `m × 2^(-shift)` rounded to an integer; `sticky`: the exact magnitude is strictly between `m` and
`m + 1`. -/
def roundShift (r : Nat) (neg : Bool) (m shift : Nat) (sticky : Bool) : Nat :=
  let n := m >>> shift
  let rem := m % 2 ^ shift
  let half := if shift = 0 then 0 else 2 ^ (shift - 1)
  let inexact := rem != 0 || sticky
  let above := shift != 0 && (half < rem || (half == rem && sticky))
  let at_ := shift != 0 && half == rem && !sticky
  if roundsUp r neg (n % 2 = 1) inexact at_ above then n + 1 else n

/-- The magnitude rounded to the format's grid with the exponent range unbounded above (`round` of
R147): significand and exponent. -/
def roundSig (f : FloatFormat) (r : Nat) (neg : Bool) (m : Nat) (e : Int) (sticky : Bool) :
    Nat × Int :=
  let p := f.fbits + 1
  let q := max (e + (Nat.log2 m : Int) + 1 - (p : Int)) f.emin
  if q ≤ e then (m <<< (e - q).toNat, q)
  else
    let n := roundShift r neg m (q - e).toNat sticky
    if n = 2 ^ p then (2 ^ (p - 1), q + 1) else (n, q)

/-- Encoding of a rounded magnitude within range, without its sign. -/
def sigBits (f : FloatFormat) (n : Nat) (q : Int) : Nat :=
  if n < 2 ^ f.fbits then n
  else ((q - f.emin).toNat + 1) * 2 ^ f.fbits + (n - 2 ^ f.fbits)

/-- Does a rounded magnitude exceed M (R145)? -/
def exceedsMax (f : FloatFormat) (n : Nat) (q : Int) : Bool :=
  f.maxBits < sigBits f n q

/-- The sign bit of the format. -/
def signBits (f : FloatFormat) (neg : Bool) : Nat :=
  if neg then 2 ^ (f.ebits + f.fbits) else 0

/-- Overflow under IEEE rules (R145). -/
def ieeeOvf (f : FloatFormat) (r : Nat) (neg : Bool) : Nat :=
  let toInf := r = 1 ∨ r = 5 ∨ (r = 3 ∧ neg = false) ∨ (r = 4 ∧ neg = true)
  signBits f neg + (if toInf then f.infBits else f.maxBits)

/-- `res` of R147 on an exact nonzero magnitude, as encoding bits. -/
def resMag (f : FloatFormat) (r s sub : Nat) (neg : Bool) (m : Nat) (e : Int) (sticky : Bool) : Nat :=
  let (n, q) := roundSig f r neg m e sticky
  if exceedsMax f n q then (if s = 1 then signBits f neg + f.maxBits else ieeeOvf f r neg)
  else if 1 ≤ sub ∧ n < 2 ^ f.fbits then signBits f neg
  else signBits f neg + sigBits f n q

/-- `res` of R147 on an exact value, with the canonical NaN of R141: infinities stay infinities. -/
def resVal (f : FloatFormat) (r s sub : Nat) (x : FVal) : Nat :=
  match x with
  | .nan => f.nanBits
  | .inf neg => signBits f neg + f.infBits
  | .fin neg m e => if m = 0 then signBits f neg else resMag f r s sub neg m e false

/-- Negation of an exact value. -/
def FVal.neg : FVal → FVal
  | .nan => .nan
  | .inf n => .inf (!n)
  | .fin n m e => .fin (!n) m e

/-- Magnitude of an exact value. -/
def FVal.abs : FVal → FVal
  | .nan => .nan
  | .inf _ => .inf false
  | .fin _ m e => .fin false m e

def FVal.isNan : FVal → Bool
  | .nan => true
  | _ => false

def FVal.isInf : FVal → Bool
  | .inf _ => true
  | _ => false

def FVal.isZero : FVal → Bool
  | .fin _ m _ => m == 0
  | _ => false

/-- The sign of a value that is no NaN. -/
def FVal.isNeg : FVal → Bool
  | .nan => false
  | .inf n => n
  | .fin n _ _ => n

/-- Exact product; 0 × ∞ and a NaN are invalid (R184). -/
def FVal.mul (a b : FVal) : FVal :=
  match a, b with
  | .nan, _ => .nan
  | _, .nan => .nan
  | .inf n, .inf k => .inf (n != k)
  | .inf n, .fin k m _ => if m = 0 then .nan else .inf (n != k)
  | .fin k m _, .inf n => if m = 0 then .nan else .inf (n != k)
  | .fin n m e, .fin k p g => .fin (n != k) (m * p) (e + g)

/-- ± m × 2^e as an integer multiple of 2^e0 (e0 ≤ e). -/
def alignTo (neg : Bool) (m : Nat) (e e0 : Int) : Int :=
  let v : Int := ((m <<< (e - e0).toNat : Nat) : Int)
  if neg then -v else v

/-- The least exponent among the finite nonzero terms. -/
def minExp : List FVal → Option Int
  | [] => none
  | .fin _ m e :: t =>
    if m = 0 then minExp t
    else match minExp t with
      | none => some e
      | some g => some (min e g)
  | _ :: t => minExp t

/-- Sum of the finite terms as an integer multiple of 2^e0. -/
def sumAligned (e0 : Int) : List FVal → Int
  | [] => 0
  | .fin n m e :: t => (if m = 0 then 0 else alignTo n m e e0) + sumAligned e0 t
  | _ :: t => sumAligned e0 t

/-- The exact sum of terms as a value, zero results signed by R184: a zero of the terms' common sign,
otherwise +0, or −0 under RDN (`r` = 4). -/
def sumVals (r : Nat) (ts : List FVal) : FVal :=
  if ts.any FVal.isNan then .nan
  else if ts.any FVal.isInf then
    let infs := ts.filter FVal.isInf
    if infs.all FVal.isNeg then .inf true
    else if infs.any FVal.isNeg then .nan
    else .inf false
  else
    match minExp ts with
    | none =>
      if ts.all FVal.isNeg then .fin true 0 0
      else if ts.any FVal.isNeg then .fin (r = 4) 0 0
      else .fin false 0 0
    | some e0 =>
      let z := sumAligned e0 ts
      if z = 0 then .fin (r = 4) 0 0 else .fin (z < 0) z.natAbs e0

/-- Every float add of the device: the exact sum of the terms, delivered by `res` (R147, R184). -/
def sumRes (f : FloatFormat) (r s sub : Nat) (ts : List FVal) : Nat :=
  resVal f r s sub (sumVals r ts)

/-- Integer square root by bits: `root` with bits from `i - 1` down still to try. -/
def isqrtLoop (n : Nat) : Nat → Nat → Nat
  | 0, root => root
  | i + 1, root =>
    let c := root + 2 ^ i
    isqrtLoop n i (if c * c ≤ n then c else root)

/-- ⌊√n⌋. -/
def isqrt (n : Nat) : Nat := isqrtLoop n (Nat.log2 n / 2 + 1) 0

/-- 1 / a, correctly rounded (R185). -/
def rcpRes (f : FloatFormat) (r s sub : Nat) (a : FVal) : Nat :=
  match a with
  | .nan => f.nanBits
  | .inf n => signBits f n
  | .fin n m e =>
    if m = 0 then signBits f n + f.infBits
    else
      let k := f.fbits + 5 + Nat.log2 m
      resMag f r s sub n (2 ^ k / m) (-(k : Int) - e) (2 ^ k % m != 0)

/-- √a, correctly rounded (R185). -/
def sqrtRes (f : FloatFormat) (r s sub : Nat) (a : FVal) : Nat :=
  match a with
  | .nan => f.nanBits
  | .inf n => if n then f.nanBits else f.infBits
  | .fin n m e =>
    if m = 0 then signBits f n
    else if n then f.nanBits
    else
      let t := 2 * (f.fbits + 5)
      let k := if (e - (t : Int)) % 2 = 0 then t else t + 1
      let m' := m <<< k
      let q := isqrt m'
      resMag f r s sub false q ((e - (k : Int)) / 2) (q * q != m')

/-- 1 / √a, correctly rounded (R185). -/
def rsqRes (f : FloatFormat) (r s sub : Nat) (a : FVal) : Nat :=
  match a with
  | .nan => f.nanBits
  | .inf n => if n then f.nanBits else 0
  | .fin n m e =>
    if m = 0 then signBits f n + f.infBits
    else if n then f.nanBits
    else
      let m' := if e % 2 = 0 then m else 2 * m
      let e' := if e % 2 = 0 then e else e - 1
      let t := f.fbits + 6 + Nat.log2 m'
      let q := isqrt (2 ^ (2 * t) / m')
      resMag f r s sub false q (-(t : Int) - e' / 2) (q * q * m' != 2 ^ (2 * t))

/-- An exact finite value rounded to an integer in mode `r` (R144). -/
def roundToInt (r : Nat) (neg : Bool) (m : Nat) (e : Int) : Int :=
  let n : Nat := if 0 ≤ e then m <<< e.toNat else roundShift r neg m (-e).toNat false
  if neg then -(n : Int) else (n : Int)

/-- A value rounded to an integral value of its format (FROUND, R185). -/
def froundRes (f : FloatFormat) (r : Nat) (a : FVal) : Nat :=
  match a with
  | .nan => f.nanBits
  | .inf n => signBits f n + f.infBits
  | .fin n m e =>
    let z := (roundToInt r n m e).natAbs
    if z = 0 then signBits f n else resMag f 1 2 0 n z 0 false

/-- a < b for values that are no NaN, −0 equal to +0. -/
def FVal.lt (a b : FVal) : Bool :=
  match a, b with
  | .nan, _ | _, .nan => false
  | .inf n, .inf k => n && !k
  | .inf n, .fin _ _ _ => n
  | .fin _ _ _, .inf k => !k
  | .fin n m e, .fin k p g =>
    let e0 := min e g
    decide (alignTo n m e e0 < alignTo k p g e0)

/-- Equal values: −0 equals +0, a NaN equals nothing. -/
def FVal.eqv (a b : FVal) : Bool :=
  !a.isNan && !b.isNan && !a.lt b && !b.lt a

/-- a below b with −0 below +0 (FMIN, FMAX, R185). -/
def FVal.below (a b : FVal) : Bool :=
  a.lt b || (a.isZero && b.isZero && a.isNeg && !b.isNeg)

/-- FMIN (`max` = false) and FMAX on operand bits: one NaN gives the other operand, two the canonical
NaN; the operand flush of SUB 2 applies and the operand is delivered as read (R185). -/
def fminmax (f : FloatFormat) (isMax : Bool) (sub a b : Nat) : Nat :=
  let rd (n : Nat) : Nat :=
    if sub = 2 ∧ f.isSubnormal n then signBits f (n / 2 ^ (f.ebits + f.fbits) % 2 = 1) else n
  let va := f.operand sub a
  let vb := f.operand sub b
  if va.isNan && vb.isNan then f.nanBits
  else if va.isNan then rd b
  else if vb.isNan then rd a
  else if isMax then (if va.below vb then rd b else rd a)
  else (if vb.below va then rd b else rd a)

/-- FCMP's condition codes (R186). -/
def fcmpCond (cc : Nat) (a b : FVal) : Bool :=
  let un := a.isNan || b.isNan
  match cc with
  | 0 => a.eqv b
  | 1 => !a.eqv b
  | 2 => a.lt b
  | 3 => a.lt b || a.eqv b
  | 4 => b.lt a
  | 5 => b.lt a || a.eqv b
  | 6 => un
  | _ => !un

/-- FCLASS of a binary32 pattern (R186). -/
def fclass (n : Nat) : Nat :=
  let f := FloatFormat.b32
  match f.decode n with
  | .nan => 2 ^ 8
  | .inf neg => if neg then 1 else 2 ^ 7
  | .fin neg m _ =>
    if m = 0 then (if neg then 2 ^ 3 else 2 ^ 4)
    else if f.isSubnormal n then (if neg then 2 ^ 2 else 2 ^ 5)
    else if neg then 2 else 2 ^ 6

/-- Clamp an integer. -/
def clampInt (lo hi z : Int) : Int := max lo (min hi z)

/-- `n`-bit two's complement of an integer. -/
def toBits (n : Nat) (z : Int) : Nat := (z % (2 ^ n : Int)).toNat

/-- `sext` of R147: the value of an `n`-bit two's complement field. -/
def sextInt (v n : Nat) : Int :=
  if v % 2 ^ n < 2 ^ (n - 1) then ((v % 2 ^ n : Nat) : Int) else ((v % 2 ^ n : Nat) : Int) - (2 ^ n : Int)

/-- Float to integer of CVT: round, clamp; ±∞ gives the nearer bound, NaN 0 (R200). -/
def floatToInt (r : Nat) (lo hi : Int) (a : FVal) : Int :=
  match a with
  | .nan => 0
  | .inf n => if n then lo else hi
  | .fin n m e =>
    -- beyond 2^200 every value is clamped alike
    if 200 < e ∧ m ≠ 0 then (if n then lo else hi) else clampInt lo hi (roundToInt r n m e)

/-- An integer as an exact value. -/
def FVal.ofInt (z : Int) : FVal := .fin (z < 0) z.natAbs 0

/-- The exact binary32 encoding of a value that binary32 represents (R142, R149). -/
def exactB32 (x : FVal) : Nat := resVal .b32 1 2 0 x

/-- Conversion of a binary32 pattern into a float format of a store (R143): RNE, saturation of finite
values, infinities kept where the format has them. -/
def storeFloat (f : FloatFormat) (n : Nat) : Nat :=
  match FloatFormat.b32.decode n with
  | .nan => f.nanBits
  | .inf neg => signBits f neg + f.infBits
  | .fin neg m e => if m = 0 then signBits f neg else resMag f 1 1 0 neg m e false

/-- Conversion of a binary32 pattern by value into an integer clamped to [lo, hi]: RNE; NaN gives 0
(R143). -/
def storeInt (lo hi : Int) (n : Nat) : Int := floatToInt 1 lo hi (FloatFormat.b32.decode n)

/-! ### Block formats (R148-R151) -/

/-- The element format that a scale byte's TAG names; `blk4` is the family. -/
inductive ElemFormat where
  | float (f : FloatFormat)
  | int8 | int4 | cb4 | zero
  deriving DecidableEq, Repr

/-- TAG of a scale byte (R148). -/
def tagFormat (blk4 : Bool) (tag : Nat) : ElemFormat :=
  match blk4, tag with
  | false, 0 => .float .e4m3
  | false, 1 => .float .e5m2
  | false, 2 => .int8
  | true, 0 => .float .e2m1
  | true, 1 => .int4
  | true, 2 => .cb4
  | _, _ => .zero

/-- Entry `i` of a codebook, exactly (R152). -/
def cbEntry (cb : List (BitVec 16)) (i : Nat) : FVal :=
  FloatFormat.bf16.decode ((cb.getD i 0).toNat)

/-- The value of element bits in an element format. -/
def elemVal (fmt : ElemFormat) (cb : List (BitVec 16)) (n : Nat) : FVal :=
  match fmt with
  | .float f => f.decode n
  | .int8 => .ofInt (sextInt n 8)
  | .int4 => .ofInt (sextInt n 4)
  | .cb4 => cbEntry cb n
  | .zero => .fin false 0 0

/-- A value times 2^k. -/
def FVal.scale (x : FVal) (k : Int) : FVal :=
  match x with
  | .fin n m e => .fin n m (e + k)
  | y => y

/-- A block element dequantised by its scale byte, as a binary32 pattern (R149). R149 calls the product exact; where that of
a CB4 entry is not, it is rounded to nearest even and overflows to infinity (DESIGN CHOICE, log 88). -/
def dequant (blk4 : Bool) (byte : Nat) (cb : List (BitVec 16)) (n : Nat) : Nat :=
  exactB32 ((elemVal (tagFormat blk4 (byte / 64)) cb n).scale (((byte % 64 : Nat) : Int) - 31))

/-- M of an element format as an exact magnitude: significand and exponent (R142, R150). -/
def elemMax (fmt : ElemFormat) (cb : List (BitVec 16)) : Nat × Int :=
  match fmt with
  | .float f =>
    match f.decode f.maxBits with
    | .fin _ m e => (m, e)
    | _ => (1, 0)
  | .int8 => (127, 0)
  | .int4 => (7, 0)
  | .zero => (1, 0)
  | .cb4 =>
    let best := (cb.map (fun b => FloatFormat.bf16.decode b.toNat)).foldl
      (fun (acc : FVal) x =>
        match x with
        | .fin _ m e => if acc.lt (.fin false m e) then .fin false m e else acc
        | _ => acc) (.fin false 0 0)
    match best with
    | .fin _ m e => if m = 0 then (1, 0) else (m, e)
    | _ => (1, 0)

/-- m × 2^e ≤ p × 2^g. -/
def magLe (m : Nat) (e : Int) (p : Nat) (g : Int) : Bool :=
  let e0 := min e g
  m <<< (e - e0).toNat ≤ p <<< (g - e0).toNat

/-- ceil(log2(x / M)) for nonzero magnitudes, exactly. -/
def ceilLog2Ratio (m : Nat) (e : Int) (p : Nat) (g : Int) : Int :=
  let k := ((Nat.log2 m : Int) + e) - ((Nat.log2 p : Int) + g)
  if magLe m e p (g + k) then k else k + 1

/-- The scale exponent of a finite nonzero amax against M (R150). -/
def scaleExp (m : Nat) (e : Int) (p : Nat) (g : Int) : Nat :=
  (clampInt 0 63 (ceilLog2Ratio m e p g + 31)).toNat

/-- Distance ordering of codebook encoding: |x − entry| as an exact value, infinities equal (R153). -/
def cbDistance (x entry : FVal) : FVal :=
  match x, entry with
  | .inf a, .inf b => if a = b then .fin false 0 0 else .inf false
  | .inf _, _ => .inf false
  | _, .inf _ => .inf false
  | a, b => (sumVals 1 [a, b.neg]).abs

/-- Codebook encoding, from index `i` on with the best so far (R153). -/
def cbEncodeLoop (x : FVal) : List (BitVec 16) → Nat → Option (Nat × FVal) → Nat
  | [], _, best => match best with
    | some (i, _) => i
    | none => 0
  | b :: t, i, best =>
    let en := FloatFormat.bf16.decode b.toNat
    if en.isNan then cbEncodeLoop x t (i + 1) best
    else
      let d := cbDistance x en
      match best with
      | none => cbEncodeLoop x t (i + 1) (some (i, d))
      | some (_, bd) => cbEncodeLoop x t (i + 1) (if d.lt bd then some (i, d) else best)

/-- The index that a codebook encodes a value as (R153). -/
def cbEncode (cb : List (BitVec 16)) (x : FVal) : Nat :=
  if x.isNan then 0 else cbEncodeLoop x cb 0 none

/-- Element bits of ±M of a format. -/
def elemMaxBits (fmt : ElemFormat) (neg : Bool) : Nat :=
  match fmt with
  | .float f => signBits f neg + f.maxBits
  | .int8 => if neg then toBits 8 (-127) else 127
  | .int4 => if neg then toBits 4 (-7) else 7
  | _ => 0

/-- Quantise a value against scale exponent `exp`: element bits and whether a sat_event occurs
(R151). -/
def quantiseVal (fmt : ElemFormat) (cb : List (BitVec 16)) (exp : Nat) (x : FVal) : Nat × Bool :=
  match fmt, x with
  | .zero, _ => (0, false)
  | .cb4, .inf neg => (cbEncode cb (.inf neg), true)
  | .cb4, x => (cbEncode cb (x.scale (31 - (exp : Int))), false)
  | .float f, .nan => (f.nanBits, false)
  | _, .nan => (0, false)
  | .float f, .inf neg =>
      (if f.hasInf then signBits f neg + f.infBits else signBits f neg + f.maxBits, true)
  | fmt, .inf neg => (elemMaxBits fmt neg, true)
  | .float f, .fin neg m e =>
      if m = 0 then (signBits f neg, false)
      else
        let (s, q) := roundSig f 1 neg m (e + 31 - (exp : Int)) false
        if exceedsMax f s q then (signBits f neg + f.maxBits, true)
        else (signBits f neg + sigBits f s q, false)
  | .int8, .fin neg m e =>
      let z := roundToInt 1 neg m (e + 31 - (exp : Int))
      if 127 < z.natAbs then (elemMaxBits .int8 neg, true) else (toBits 8 z, false)
  | .int4, .fin neg m e =>
      let z := roundToInt 1 neg m (e + 31 - (exp : Int))
      if 7 < z.natAbs then (elemMaxBits .int4 neg, true) else (toBits 4 z, false)

/-- Quantise a binary32 pattern (R151). -/
def quantise (fmt : ElemFormat) (cb : List (BitVec 16)) (exp : Nat) (n : Nat) : Nat × Bool :=
  quantiseVal fmt cb exp (FloatFormat.b32.decode n)

/-- The scale byte of a data-found amax in QAMAX form, for a target whose tag and M are given
(R150, R151, R205). -/
def scaleByte (tag : Nat) (max : Nat × Int) (amax : Nat) : Nat :=
  let flag := 2 ^ 31 ≤ amax
  match FloatFormat.b32.decode (amax % 2 ^ 31) with
  | .nan => tag * 64
  | .inf _ => tag * 64 + 63
  | .fin _ m e =>
    if m = 0 then (if flag then tag * 64 else 0xC0)
    else tag * 64 + scaleExp m e max.1 max.2

/-- One step of QAMAX: a running amax with its flag in the sign bit takes in a finite magnitude, or
sets the flag for a NaN or an infinity (R204). -/
def amaxStep (fmt : FloatFormat) (acc : Nat × Bool) (n : Nat) : Nat × Bool :=
  match fmt.decode n with
  | .fin _ m e =>
    let x := exactB32 (.fin false m e)
    (if acc.1 < x then x else acc.1, acc.2)
  | _ => (acc.1, true)

end Sys2Proof.Machine
end

