-- ==== Sys2Proof/Syntax.lean ====
section
/-! DEFINITION. The instructions of the Zwidon: one constructor for each row of spec/opcode_table.json.
A row is an instruction form (an opcode in one of the formats F32, F64 and F96, R122-R125), which
carries the fields of its words, or an event of the device or of its environment, which carries what
the outside world or the choosing unit supplies. -/

namespace Sys2Proof

/-- The operand and sub-operation fields of word 0 (R123); OPC and LEN are the constructor's. -/
structure W0 where
  k6 : BitVec 6
  a : BitVec 8
  d : BitVec 8
  deriving DecidableEq, Repr

/-- Word 1 of an F64 or F96 instruction (R124). -/
structure W1 where
  x31 : Bool
  bstr : Bool
  bscl : Bool
  astr : Bool
  hold : BitVec 2
  sat : BitVec 2
  rnd : BitVec 3
  pneg : Bool
  psel : BitVec 3
  pen : Bool
  c : BitVec 8
  b : BitVec 8
  deriving DecidableEq, Repr

/-- A core of the package: compute die, cluster of the die (0-5), position of the cluster (R8, R9). -/
structure CoreId where
  die : BitVec 3
  cluster : BitVec 3
  pos : BitVec 5
  deriving DecidableEq, Repr

/-- A coach: its launch queue, the linear index of its gang in the running step (R45), its crew and
its index in the crew (R21). -/
structure CoachId where
  q : BitVec 6
  gang : Nat
  crew : Nat
  coach : Nat
  deriving DecidableEq, Repr

/-- The senders of the decoupled queues (R59). -/
inductive SenderId where
  /-- A core's coach-to-memory sender. -/
  | coachMemory (core : CoreId)
  /-- A core's dray-to-network sender. -/
  | drayNetwork (core : CoreId)
  /-- A core's sender to the reeve. -/
  | coreReeve (core : CoreId)
  /-- A die's sender to the fabric ports. -/
  | dieFabric (die : BitVec 3)
  /-- A fabric port's sender to its switch (R316). -/
  | port (port : BitVec 4)
  deriving DecidableEq, Repr

/-- What the steward's service returned for an SWCALL: X0-X3 (R290). -/
structure ServiceResult where
  x0 : BitVec 64
  x1 : BitVec 64
  x2 : BitVec 64
  x3 : BitVec 64
  deriving DecidableEq, Repr

/-- A fabric packet: the header flit of R315 and its data bytes (128 for a write or read data, 16
for an atomic: operand in bytes 0-7, expected value in bytes 8-15). -/
structure Packet where
  be : BitVec 128
  dst : BitVec 9
  src : BitVec 9
  op : BitVec 4
  sync : BitVec 2
  sec : Bool
  tag : BitVec 7
  fctx : BitVec 16
  dl : BitVec 16
  aop : BitVec 4
  aw : BitVec 2
  line : BitVec 50
  data : List (BitVec 8)
  deriving DecidableEq, Repr

/-- Where bytes lie that the host has written before a boot: in the mailbox, or through the aperture in Lunath (R325). -/
structure Upload where
  mailbox : Bool
  start : Nat
  size : Nat
  deriving DecidableEq, Repr

/-- The links whose width the monitors change (R404). -/
inductive LinkId where
  | port (port : BitVec 4)
  | die (die : BitVec 3)
  deriving DecidableEq, Repr

/-- The register kinds that a soft error can strike (R397). -/
inductive RegKind where
  | v | x | p | s | m | stack | cb | ch | tl
  deriving DecidableEq, Repr

/-- Where a soft error strikes: the structures that SECDED protects, and those that carry parity
and hold clean copies only (R397). -/
inductive ErrorPlace where
  /-- A register, mask, slot or divergence-stack entry of a coach. -/
  | register (c : CoachId) (kind : RegKind) (index : Nat)
  /-- A 16-byte granule of a core's local store. -/
  | localStore (core : CoreId) (granule : Nat)
  /-- A 128-byte line of L2 data or Lunath, by its Lunath line number. -/
  | memoryLine (line : Nat)
  /-- L2 tags and timestamps of a die. -/
  | l2Tag (die : BitVec 3)
  /-- A data-cache line of a core: a clean copy. -/
  | dataCache (core : CoreId) (line : Nat)
  /-- An instruction-cache word of a core: a clean copy. -/
  | instructionCache (core : CoreId) (addr : Nat)
  /-- A translation-cache entry: a clean copy. -/
  | translationCache (ctx : BitVec 8) (page : Nat)
  /-- An operand latch entry of a core (R70): read again from its origin. -/
  | latch (core : CoreId) (entry : BitVec 2)
  deriving DecidableEq, Repr

/-- What the steward changes of the pod table (R314, R400). -/
inductive PodChange where
  /-- PODBASE is written. -/
  | base (value : BitVec 64)
  /-- The entry of one package is written. -/
  | entry (package : BitVec 9) (value : BitVec 64)
  /-- PKGNO is written (R321). -/
  | number (package : BitVec 9)
  deriving DecidableEq, Repr

/-- A block or region whose world the steward assigns (R324). -/
inductive WorldBlock where
  | core (core : CoreId)
  | queue (q : BitVec 6)
  | port (port : BitVec 4)
  | region (region : BitVec 6)
  deriving DecidableEq, Repr

/-- The instructions and events of the device, one constructor a row of the opcode table. -/
inductive Instr where
  /-- PUBLISH (R50): A write to a queue's publish word reaches its home L2 and the launch scheduler sees it on its watch list. -/
  | publish (q : BitVec 6) (value : BitVec 64)
  /-- QCFG_WRITE (R50): A write of QCFG sets the priority, pre-emption, world and enable bits; setting QEN clears QCONS and checks QBASE and QPUB. -/
  | qcfgWrite (q : BitVec 6) (value : BitVec 64)
  /-- QSTAT_WRITE (R49): Writing 1 to QSTAT.ERR clears it, so the queue may take waybills again. -/
  | qstatWrite (q : BitVec 6) (value : BitVec 64)
  /-- CONFIG_REGISTER_WRITE (R321): A host write to a configuration-window register that has no behaviour of its own; writes to steward-only registers are ignored. -/
  | configRegisterWrite (off : BitVec 24) (value : BitVec 64)
  /-- IRQSTAT_WRITE (R321): Writing 1 to IRQSTAT bits clears those interrupt causes. -/
  | irqstatWrite (value : BitVec 64)
  /-- PREEMPT_REQUEST (R322): Writing GO with a queue number asks the scheduler to pre-empt every gang of that queue's running launch. -/
  | preemptRequest (value : BitVec 64)
  /-- TAKE_WAYBILL (R51): Once the publish word exceeds k and launch k-1 has ended, the scheduler copies waybill k and its group table and increments QCONS. -/
  | takeWaybill (q : BitVec 6)
  /-- LAUNCH_START (R56): Once MINDIE healthy dies exist, the launch starts and the scheduler chooses its die set. -/
  | launchStart (q : BitVec 6)
  /-- PLACE_GANG (R55): When a fitting run becomes free, the cluster dispatcher places a gang on it, all or nothing. -/
  | placeGang (q : BitVec 6) (gang : Nat)
  /-- KERNEL_PREFETCH (R57): When the last step of a launch starts placement and the next waybill is published, the scheduler loads the first 8 KiB of the next image into each core's prefetch partition. -/
  | kernelPrefetch (q : BitVec 6)
  /-- PREEMPT_PRIORITY (R54): A gang of a pre-empting queue that has waited 64 ticks unplaced makes the scheduler pick a cluster and pre-empt lower-level gangs there. -/
  | preemptPriority (q : BitVec 6) (gang : Nat)
  /-- PREEMPT_SAVE (R63): Once the gang has drained, stash data is written back and the save slot is written; the gang's resources are then freed. -/
  | preemptSave (q : BitVec 6) (gang : Nat)
  /-- GANG_RESUME (R64): A pre-empted gang is placed on a fitting run, advances pts and restores its saved state. -/
  | gangResume (q : BitVec 6) (gang : Nat)
  /-- MIGRATE_DECISION (R113): Once every coach of the gang that has not retired waits at MIGRATE, the scheduler grants or declines the request. -/
  | migrateDecision (q : BitVec 6) (gang : Nat)
  /-- POP_RULE (R29): Before an instruction issues, the coach pops entries while pc equals rpc or no lane is live, and waits on held entries. -/
  | popRule (c : CoachId)
  /-- STEP_RETIRE (R38): When every gang of a step has retired, the step's effects become visible at package scope and the next step may be placed. -/
  | stepRetire (q : BitVec 6)
  /-- COMPLETION_WORD_WRITE (R48): Once every effect of the launch is performed, the scheduler writes the completion word with a package-scope release. -/
  | completionWordWrite (q : BitVec 6)
  /-- ENTRY_RECEIVE (R59): A receiver of a decoupled queue accepts an entry, or drops it. -/
  | entryReceive (sender : SenderId) (accepted : Bool)
  /-- BACKOFF_EXPIRY (R60): When the back-off delay after a NACK expires, the sender resends from the NACKed entry onward. -/
  | backoffExpiry (sender : SenderId)
  /-- MATRIX_KGROUP (R260): The sequencer completes one K-group step of a matrix instruction on the grid. -/
  | matrixKgroup (c : CoachId)
  /-- DRAY_LINE (R272): The dray engine completes one 128-byte line of a command, sets LINES and reaches a checkpoint. -/
  | drayLine (c : CoachId)
  /-- GROUP_PHASE_COMPLETE (R35): When every member coach has arrived, the phase completes, its parity flips and every member coach is released. -/
  | groupPhaseComplete (q : BitVec 6) (gang : Nat) (group : BitVec 8)
  /-- FE_WAIT_SATISFIED (R102): A waiting .fe or .fec load finds every granule it touches full and reads, clearing the granules for .fec. -/
  | feWaitSatisfied (c : CoachId)
  /-- WAITV_RECHECK (R288): A write at the location's home, or the passing of a tick, makes a waiting WAITV load and compare again. -/
  | waitvRecheck (c : CoachId)
  /-- SLEEP_EXPIRY (R174): After n ticks a sleeping coach becomes ready again. -/
  | sleepExpiry (c : CoachId)
  /-- YIELD_EXPIRY (R173): After YIELD, the coach becomes ready again once another coach has issued or 4 cycles have passed. -/
  | yieldExpiry (c : CoachId)
  /-- WATCHDOG_EXPIRY (R376): A coach's WDC reaches a nonzero WDOG and the coach raises a WATCHDOG trap. -/
  | watchdogExpiry (c : CoachId)
  /-- SWCALL_RETURN (R290): The steward's service returns X0-X3, and the coach acquires at package scope. -/
  | swcallReturn (c : CoachId) (service : Option ServiceResult)
  /-- LAUNCH_DISCARD (R350): After a terminal event, the launch is stopped, its accesses are drained and its resources freed; the terminal record and the completion word are then written. -/
  | launchDiscard (q : BitVec 6)
  /-- FABRIC_READ_REQUEST (R318): A fabric read request arrives at its destination and is performed, or answered with a drop when it is past its deadline. -/
  | fabricReadRequest (packet : Packet)
  /-- FABRIC_WRITE (R318): A fabric write packet arrives at its destination and is performed, or dropped when it is past its deadline. -/
  | fabricWrite (packet : Packet)
  /-- FABRIC_ATOMIC (R318): A fabric atomic or CAS packet arrives at its destination and is performed, or dropped when it is past its deadline. -/
  | fabricAtomic (packet : Packet)
  /-- FABRIC_READ_DATA (R401): Read data returns to the requester and is delivered, unless its limit has passed. -/
  | fabricReadData (tag : Nat) (data : List (BitVec 8))
  /-- FABRIC_ACK (R401): An acknowledgement, carrying the old value for an atomic, returns to the requester. -/
  | fabricAck (tag : Nat) (old : BitVec 64)
  /-- FABRIC_DROP (R319): A drop returns to the requester; the access times out with all ones, and FTO is set. -/
  | fabricDrop (tag : Nat)
  /-- FABRIC_RESPONSE_TIMEOUT (R401): No response has arrived by (DL + FTMO), so the access times out and FTO is set. -/
  | fabricResponseTimeout (tag : Nat)
  /-- HOST_BAR2_READ (R320): The host reads Lunath through the BAR2 aperture at package scope. -/
  | hostBar2Read (addr : Nat) (count : Nat)
  /-- HOST_BAR2_WRITE (R320): The host writes Lunath through BAR2; a small aligned write is a package-scope release. -/
  | hostBar2Write (addr : Nat) (data : List (BitVec 8))
  /-- HOST_COMPLETION (R395): A completion returns for a host-space read or AtomicOp; an error completion delivers all ones and sets FTO. -/
  | hostCompletion (tag : Nat) (ok : Bool) (data : List (BitVec 8))
  /-- MAILBOX_ATTEST (R326): Mailbox request 0x0001 with a nonce returns a signed attestation report. -/
  | mailboxAttest (nonce : List (BitVec 8))
  /-- MAILBOX_HEALTH (R353): Mailbox request 0x0002 returns the steward's health word. -/
  | mailboxHealth
  /-- COLD_BOOT (R325): The package powers up by a full cold boot through the host port. The operands tell where the host
  has put the firmware image and its signature: the manual gives no layout (log 74). -/
  | coldBoot (image signature : Upload)
  /-- CORE_WITHDRAWN (R353): The steward withdraws a core, discards the gang resident there with MACHINE and sets REPLREQ. -/
  | coreWithdrawn (core : CoreId)
  /-- DIE_LOSS (R406): A compute die is lost; it leaves the healthy set and launches whose die set holds it end with MACHINE 0x0101. -/
  | dieLoss (die : BitVec 3)
  /-- SRAM_DIE_FAILURE (R410): An SRAM die fails; affected launches end with MACHINE 0x0103 and its cores report half capacity. -/
  | sramDieFailure (die : BitVec 3)
  /-- IO_DIE_FAILURE (R409): The I/O die fails, and every launch ends without a completion word. -/
  | ioDieFailure
  /-- PORT_DOWN (R403): A fabric port fails to train three times in a row, or its plane is dead, and health bit 4 is set. -/
  | portDown (port : BitVec 4)
  /-- PLANE_MOVE (R403): After the old port drains, its plane moves to the next port of its world that is up. -/
  | planeMove (plane : BitVec 4)
  /-- LINK_WIDTH_REQUEST (R404): A link's error rate stays above threshold for 16 ticks, so the link requests one step narrower and retrains. -/
  | linkWidthRequest (link : LinkId)
  /-- LINK_RETRAIN_END (R404): Retraining ends, and the link resumes at its new width or counts a failed retraining. -/
  | linkRetrainEnd (link : LinkId) (trained : Bool)
  /-- FREQUENCY_CHANGE (R327): The clock and power controller changes a die's frequency in steps of 1/32; ticks are unaffected. -/
  | frequencyChange (die : BitVec 3) (steps : BitVec 6)
  /-- SCRUBBER_VISIT (R396): The scrubber visits an L2 line and re-bases timestamps that lie more than 2^14 behind DT. -/
  | scrubberVisit (die : BitVec 3) (line : Nat)
  /-- NOP (R159): No operation. -/
  | nop (w0 : W0)
  /-- MOVX (R159): Copies Xa to Xd. -/
  | movx (w0 : W0)
  /-- MOVI (R160): Loads a literal into Xd, sign-extended, zero-extended or into the high half. -/
  | movi (w0 : W0) (w1 : W1) (lit : BitVec 32)
  /-- ADDX (R159): Scalar add, F64 form. -/
  | addx (w0 : W0) (w1 : W1)
  /-- ADDX_F96 (R159): Scalar add with a literal. -/
  | addxF96 (w0 : W0) (w1 : W1) (lit : BitVec 32)
  /-- SUBX (R159): Scalar subtract, F64 form. -/
  | subx (w0 : W0) (w1 : W1)
  /-- SUBX_F96 (R159): Scalar subtract with a literal. -/
  | subxF96 (w0 : W0) (w1 : W1) (lit : BitVec 32)
  /-- MULX (R159): Low 64 bits of a scalar product, F64 form. -/
  | mulx (w0 : W0) (w1 : W1)
  /-- MULX_F96 (R159): Scalar multiply with a literal. -/
  | mulxF96 (w0 : W0) (w1 : W1) (lit : BitVec 32)
  /-- MULHX (R159): High 64 bits of a scalar product, F64 form. -/
  | mulhx (w0 : W0) (w1 : W1)
  /-- MULHX_F96 (R159): High product with a literal. -/
  | mulhxF96 (w0 : W0) (w1 : W1) (lit : BitVec 32)
  /-- DIVX (R159): Scalar divide, F64 form. -/
  | divx (w0 : W0) (w1 : W1)
  /-- DIVX_F96 (R159): Scalar divide by a literal. -/
  | divxF96 (w0 : W0) (w1 : W1) (lit : BitVec 32)
  /-- REMX (R159): Scalar remainder, F64 form. -/
  | remx (w0 : W0) (w1 : W1)
  /-- REMX_F96 (R159): Scalar remainder with a literal. -/
  | remxF96 (w0 : W0) (w1 : W1) (lit : BitVec 32)
  /-- ANDX (R159): Bitwise and, F64 form. -/
  | andx (w0 : W0) (w1 : W1)
  /-- ANDX_F96 (R159): Bitwise and with a literal. -/
  | andxF96 (w0 : W0) (w1 : W1) (lit : BitVec 32)
  /-- ORX (R159): Bitwise or, F64 form. -/
  | orx (w0 : W0) (w1 : W1)
  /-- ORX_F96 (R159): Bitwise or with a literal. -/
  | orxF96 (w0 : W0) (w1 : W1) (lit : BitVec 32)
  /-- XORX (R159): Bitwise xor, F64 form. -/
  | xorx (w0 : W0) (w1 : W1)
  /-- XORX_F96 (R159): Bitwise xor with a literal. -/
  | xorxF96 (w0 : W0) (w1 : W1) (lit : BitVec 32)
  /-- SHLX (R159): Shift left, F64 form. -/
  | shlx (w0 : W0) (w1 : W1)
  /-- SHLX_F96 (R159): Shift left by a literal. -/
  | shlxF96 (w0 : W0) (w1 : W1) (lit : BitVec 32)
  /-- SHRX (R159): Logical shift right, F64 form. -/
  | shrx (w0 : W0) (w1 : W1)
  /-- SHRX_F96 (R159): Logical shift right by a literal. -/
  | shrxF96 (w0 : W0) (w1 : W1) (lit : BitVec 32)
  /-- SARX (R159): Arithmetic shift right, F64 form. -/
  | sarx (w0 : W0) (w1 : W1)
  /-- SARX_F96 (R159): Arithmetic shift right by a literal. -/
  | sarxF96 (w0 : W0) (w1 : W1) (lit : BitVec 32)
  /-- ROTX (R159): Rotate left, F64 form. -/
  | rotx (w0 : W0) (w1 : W1)
  /-- ROTX_F96 (R159): Rotate left by a literal. -/
  | rotxF96 (w0 : W0) (w1 : W1) (lit : BitVec 32)
  /-- MINX (R159): Scalar minimum, F64 form. -/
  | minx (w0 : W0) (w1 : W1)
  /-- MINX_F96 (R159): Scalar minimum with a literal. -/
  | minxF96 (w0 : W0) (w1 : W1) (lit : BitVec 32)
  /-- MAXX (R159): Scalar maximum, F64 form. -/
  | maxx (w0 : W0) (w1 : W1)
  /-- MAXX_F96 (R159): Scalar maximum with a literal. -/
  | maxxF96 (w0 : W0) (w1 : W1) (lit : BitVec 32)
  /-- CMPX (R159): Scalar compare giving 1 or 0, F64 form. -/
  | cmpx (w0 : W0) (w1 : W1)
  /-- CMPX_F96 (R159): Scalar compare with a literal. -/
  | cmpxF96 (w0 : W0) (w1 : W1) (lit : BitVec 32)
  /-- SELX (R159): Selects a or b by c, F64 form. -/
  | selx (w0 : W0) (w1 : W1)
  /-- SELX_F96 (R159): Select with a literal b. -/
  | selxF96 (w0 : W0) (w1 : W1) (lit : BitVec 32)
  /-- CLZX (R159): Counts leading zero bits. -/
  | clzx (w0 : W0)
  /-- POPX (R159): Counts set bits. -/
  | popx (w0 : W0)
  /-- BFEX (R159): Scalar field extract, F64 form. -/
  | bfex (w0 : W0) (w1 : W1)
  /-- BFEX_F96 (R159): Field extract with a literal field descriptor. -/
  | bfexF96 (w0 : W0) (w1 : W1) (lit : BitVec 32)
  /-- BFIX (R159): Scalar field insert, F64 form. -/
  | bfix (w0 : W0) (w1 : W1)
  /-- BFIX_F96 (R159): Field insert with a literal field descriptor. -/
  | bfixF96 (w0 : W0) (w1 : W1) (lit : BitVec 32)
  /-- MADX (R159): Scalar multiply-add, F64 form. -/
  | madx (w0 : W0) (w1 : W1)
  /-- MADX_F96 (R159): Multiply-add with a literal b. -/
  | madxF96 (w0 : W0) (w1 : W1) (lit : BitVec 32)
  /-- LEAX (R159): Address arithmetic a + b' x 2^SH, F64 form. -/
  | leax (w0 : W0) (w1 : W1)
  /-- LEAX_F96 (R159): Address arithmetic with a literal. -/
  | leaxF96 (w0 : W0) (w1 : W1) (lit : BitVec 32)
  /-- SRR (R161): Reads a system register into Xd. -/
  | srr (w0 : W0)
  /-- SRW (R161): Writes Xa into a system register such as MODE. -/
  | srw (w0 : W0)
  /-- VTOX (R162): Copies the vector element selected by Xb into Xd. -/
  | vtox (w0 : W0) (w1 : W1)
  /-- VTOX_F96 (R162): Copies the vector element at a literal lane into Xd. -/
  | vtoxF96 (w0 : W0) (w1 : W1) (lit : BitVec 32)
  /-- XTOV (R163): Writes a uniform scalar into Vd with tag U. -/
  | xtov (w0 : W0)
  /-- XTOV_F64 (R163): Writes base plus lane times stride into Vd with tag A. -/
  | xtovF64 (w0 : W0) (w1 : W1)
  /-- MTOX (R164): Copies a mask, CM or EX into Xd. -/
  | mtox (w0 : W0)
  /-- XTOM (R164): Writes, ands, ors or and-nots Xa into a mask. -/
  | xtom (w0 : W0)
  /-- BRA (R166): Uniform branch by a 22-bit word offset. -/
  | bra (w0 : W0)
  /-- BRC (R166): Conditional uniform branch on Xa. -/
  | brc (w0 : W0) (w1 : W1) (lit : BitVec 32)
  /-- CALL (R167): Saves the return address in Xd and branches. -/
  | call (w0 : W0) (w1 : W1) (lit : BitVec 32)
  /-- RET (R167): Jumps to the address in Xa, using the return predictor. -/
  | ret (w0 : W0)
  /-- JMPX (R167): Jumps to the address in Xa, using the indirect predictor. -/
  | jmpx (w0 : W0)
  /-- IF (R168): Divergent branch on a mask, with else and reconvergence points. -/
  | ifM (w0 : W0) (w1 : W1) (lit : BitVec 32)
  /-- ELSE (R168): Sets pc to rpc, closing the then-side. -/
  | elseM (w0 : W0)
  /-- ENDIF (R168): Marks a reconvergence point; has no effect. -/
  | endif (w0 : W0)
  /-- LOOP (R169): Pushes a reconvergence entry for the loop exit. -/
  | loop (w0 : W0) (w1 : W1) (lit : BitVec 32)
  /-- BREAK (R170): Removes the lanes in the mask from the loop after a loop check. -/
  | breakM (w0 : W0) (w1 : W1) (lit : BitVec 32)
  /-- CONT (R170): Sends the lanes in the mask to ENDLOOP as a divergent branch. -/
  | cont (w0 : W0) (w1 : W1) (lit : BitVec 32)
  /-- ENDLOOP (R169): Continues the loop with the masked lanes, or falls through. -/
  | endloop (w0 : W0) (w1 : W1) (lit : BitVec 32)
  /-- BRDIV (R171): Unstructured divergent branch with a reconvergence point. -/
  | brdiv (w0 : W0) (w1 : W1) (lit : BitVec 32)
  /-- RECONV (R171): Removes the masked lanes to wait at the reconvergence point. -/
  | reconv (w0 : W0)
  /-- EXIT (R172): Marks the active lanes as exited. -/
  | exit (w0 : W0)
  /-- EXIT_F64 (R172): Predicated exit of the active lanes. -/
  | exitF64 (w0 : W0) (w1 : W1)
  /-- YIELD (R173): Makes the coach not ready until another coach issues. -/
  | yield (w0 : W0)
  /-- SLEEP (R174): Sleeps for Xa ticks. -/
  | sleep (w0 : W0)
  /-- SLEEP_F64 (R174): Sleeps for Xa + Xb ticks. -/
  | sleepF64 (w0 : W0) (w1 : W1)
  /-- SLEEP_F96 (R174): Sleeps for a literal number of ticks. -/
  | sleepF96 (w0 : W0) (w1 : W1) (lit : BitVec 32)
  /-- ANYM (R175): Writes 1 when any tested lane of a mask, CM or EX is set. -/
  | anym (w0 : W0)
  /-- ALLM (R175): Writes 1 when every tested lane of a mask, CM or EX is set. -/
  | allm (w0 : W0)
  /-- VADD (R181): Vector integer add. -/
  | vadd (w0 : W0)
  /-- VADD_F64 (R181): Vector integer add, F64 form. -/
  | vaddF64 (w0 : W0) (w1 : W1)
  /-- VADD_F96 (R181): Vector integer add with a literal, or as a sweep. -/
  | vaddF96 (w0 : W0) (w1 : W1) (lit : BitVec 32)
  /-- VSUB (R181): Vector integer subtract. -/
  | vsub (w0 : W0)
  /-- VSUB_F64 (R181): Vector subtract, F64 form. -/
  | vsubF64 (w0 : W0) (w1 : W1)
  /-- VSUB_F96 (R181): Vector subtract with a literal, or as a sweep. -/
  | vsubF96 (w0 : W0) (w1 : W1) (lit : BitVec 32)
  /-- VMUL (R181): Vector integer multiply. -/
  | vmul (w0 : W0)
  /-- VMUL_F64 (R181): Vector multiply, F64 form. -/
  | vmulF64 (w0 : W0) (w1 : W1)
  /-- VMUL_F96 (R181): Vector multiply with a literal, or as a sweep. -/
  | vmulF96 (w0 : W0) (w1 : W1) (lit : BitVec 32)
  /-- VMULH (R181): High half of a vector integer product. -/
  | vmulh (w0 : W0)
  /-- VMULH_F64 (R181): High product, F64 form. -/
  | vmulhF64 (w0 : W0) (w1 : W1)
  /-- VMULH_F96 (R181): High product with a literal, or as a sweep. -/
  | vmulhF96 (w0 : W0) (w1 : W1) (lit : BitVec 32)
  /-- VMAD (R181): Vector integer multiply-add. -/
  | vmad (w0 : W0)
  /-- VMAD_F64 (R181): Vector multiply-add, F64 form. -/
  | vmadF64 (w0 : W0) (w1 : W1)
  /-- VMAD_F96 (R181): Vector multiply-add with a literal, or as a sweep. -/
  | vmadF96 (w0 : W0) (w1 : W1) (lit : BitVec 32)
  /-- VMIN (R181): Vector integer minimum. -/
  | vmin (w0 : W0)
  /-- VMIN_F64 (R181): Vector minimum, F64 form. -/
  | vminF64 (w0 : W0) (w1 : W1)
  /-- VMIN_F96 (R181): Vector minimum with a literal, or as a sweep. -/
  | vminF96 (w0 : W0) (w1 : W1) (lit : BitVec 32)
  /-- VMAX (R181): Vector integer maximum. -/
  | vmax (w0 : W0)
  /-- VMAX_F64 (R181): Vector maximum, F64 form. -/
  | vmaxF64 (w0 : W0) (w1 : W1)
  /-- VMAX_F96 (R181): Vector maximum with a literal, or as a sweep. -/
  | vmaxF96 (w0 : W0) (w1 : W1) (lit : BitVec 32)
  /-- VABS (R181): Vector integer absolute value. -/
  | vabs (w0 : W0)
  /-- VABS_F64 (R181): Vector absolute value, F64 form. -/
  | vabsF64 (w0 : W0) (w1 : W1)
  /-- VNEG (R181): Vector integer negate. -/
  | vneg (w0 : W0)
  /-- VNEG_F64 (R181): Vector negate, F64 form. -/
  | vnegF64 (w0 : W0) (w1 : W1)
  /-- VAND (R181): Vector bitwise and. -/
  | vand (w0 : W0)
  /-- VAND_F64 (R181): Vector and, F64 form. -/
  | vandF64 (w0 : W0) (w1 : W1)
  /-- VAND_F96 (R181): Vector and with a literal, or as a sweep. -/
  | vandF96 (w0 : W0) (w1 : W1) (lit : BitVec 32)
  /-- VOR (R181): Vector bitwise or. -/
  | vor (w0 : W0)
  /-- VOR_F64 (R181): Vector or, F64 form. -/
  | vorF64 (w0 : W0) (w1 : W1)
  /-- VOR_F96 (R181): Vector or with a literal, or as a sweep. -/
  | vorF96 (w0 : W0) (w1 : W1) (lit : BitVec 32)
  /-- VXOR (R181): Vector bitwise xor. -/
  | vxor (w0 : W0)
  /-- VXOR_F64 (R181): Vector xor, F64 form. -/
  | vxorF64 (w0 : W0) (w1 : W1)
  /-- VXOR_F96 (R181): Vector xor with a literal, or as a sweep. -/
  | vxorF96 (w0 : W0) (w1 : W1) (lit : BitVec 32)
  /-- VNOT (R181): Vector bitwise complement. -/
  | vnot (w0 : W0)
  /-- VNOT_F64 (R181): Vector complement, F64 form. -/
  | vnotF64 (w0 : W0) (w1 : W1)
  /-- VSHL (R181): Vector shift left. -/
  | vshl (w0 : W0)
  /-- VSHL_F64 (R181): Vector shift left, F64 form. -/
  | vshlF64 (w0 : W0) (w1 : W1)
  /-- VSHL_F96 (R181): Vector shift left by a literal, or as a sweep. -/
  | vshlF96 (w0 : W0) (w1 : W1) (lit : BitVec 32)
  /-- VSHR (R181): Vector logical shift right. -/
  | vshr (w0 : W0)
  /-- VSHR_F64 (R181): Vector shift right, F64 form. -/
  | vshrF64 (w0 : W0) (w1 : W1)
  /-- VSHR_F96 (R181): Vector shift right by a literal, or as a sweep. -/
  | vshrF96 (w0 : W0) (w1 : W1) (lit : BitVec 32)
  /-- VSAR (R181): Vector arithmetic shift right. -/
  | vsar (w0 : W0)
  /-- VSAR_F64 (R181): Vector arithmetic shift right, F64 form. -/
  | vsarF64 (w0 : W0) (w1 : W1)
  /-- VSAR_F96 (R181): Vector arithmetic shift right by a literal, or as a sweep. -/
  | vsarF96 (w0 : W0) (w1 : W1) (lit : BitVec 32)
  /-- VBFE (R182): Vector field extract. -/
  | vbfe (w0 : W0)
  /-- VBFE_F64 (R182): Vector field extract, F64 form. -/
  | vbfeF64 (w0 : W0) (w1 : W1)
  /-- VBFE_F96 (R182): Vector field extract with a literal descriptor, or as a sweep. -/
  | vbfeF96 (w0 : W0) (w1 : W1) (lit : BitVec 32)
  /-- VBFI (R182): Vector field insert into Vd. -/
  | vbfi (w0 : W0)
  /-- VBFI_F64 (R182): Vector field insert, F64 form. -/
  | vbfiF64 (w0 : W0) (w1 : W1)
  /-- VBFI_F96 (R182): Vector field insert with a literal descriptor. -/
  | vbfiF96 (w0 : W0) (w1 : W1) (lit : BitVec 32)
  /-- VPOP (R181): Vector population count. -/
  | vpop (w0 : W0)
  /-- VPOP_F64 (R181): Vector population count, F64 form. -/
  | vpopF64 (w0 : W0) (w1 : W1)
  /-- VCLZ (R181): Vector leading zero count. -/
  | vclz (w0 : W0)
  /-- VCLZ_F64 (R181): Vector leading zero count, F64 form. -/
  | vclzF64 (w0 : W0) (w1 : W1)
  /-- VSEL (R183): Selects a or b per lane by mask C, F64 form. -/
  | vsel (w0 : W0) (w1 : W1)
  /-- VSEL_F96 (R183): Per-lane select with a literal b. -/
  | vselF96 (w0 : W0) (w1 : W1) (lit : BitVec 32)
  /-- VCMP (R183): Vector integer compare into a mask. -/
  | vcmp (w0 : W0)
  /-- VCMP_F64 (R183): Vector compare, F64 form. -/
  | vcmpF64 (w0 : W0) (w1 : W1)
  /-- VCMP_F96 (R183): Vector compare with a literal. -/
  | vcmpF96 (w0 : W0) (w1 : W1) (lit : BitVec 32)
  /-- VMOV (R181): Copies a vector, keeping its tag. -/
  | vmov (w0 : W0)
  /-- VMOV_F64 (R181): Vector move, F64 form. -/
  | vmovF64 (w0 : W0) (w1 : W1)
  /-- VLANE (R181): Writes the lane index with tag A. -/
  | vlane (w0 : W0)
  /-- VLANE_F64 (R181): Lane index, F64 form. -/
  | vlaneF64 (w0 : W0) (w1 : W1)
  /-- VDOT4 (R181): Byte dot product with accumulate. -/
  | vdot4 (w0 : W0)
  /-- VDOT4_F64 (R181): Byte dot product, F64 form. -/
  | vdot4F64 (w0 : W0) (w1 : W1)
  /-- VDOT4_F96 (R181): Byte dot product with a literal, or as a sweep. -/
  | vdot4F96 (w0 : W0) (w1 : W1) (lit : BitVec 32)
  /-- FADD (R185): Float add. -/
  | fadd (w0 : W0)
  /-- FADD_F64 (R185): Float add, F64 form. -/
  | faddF64 (w0 : W0) (w1 : W1)
  /-- FADD_F96 (R185): Float add with a literal, or as a sweep. -/
  | faddF96 (w0 : W0) (w1 : W1) (lit : BitVec 32)
  /-- FSUB (R185): Float subtract. -/
  | fsub (w0 : W0)
  /-- FSUB_F64 (R185): Float subtract, F64 form. -/
  | fsubF64 (w0 : W0) (w1 : W1)
  /-- FSUB_F96 (R185): Float subtract with a literal, or as a sweep. -/
  | fsubF96 (w0 : W0) (w1 : W1) (lit : BitVec 32)
  /-- FMUL (R185): Float multiply. -/
  | fmul (w0 : W0)
  /-- FMUL_F64 (R185): Float multiply, F64 form. -/
  | fmulF64 (w0 : W0) (w1 : W1)
  /-- FMUL_F96 (R185): Float multiply with a literal, or as a sweep. -/
  | fmulF96 (w0 : W0) (w1 : W1) (lit : BitVec 32)
  /-- FFMA (R185): Fused multiply-add with one rounding. -/
  | ffma (w0 : W0)
  /-- FFMA_F64 (R185): Fused multiply-add, F64 form. -/
  | ffmaF64 (w0 : W0) (w1 : W1)
  /-- FFMA_F96 (R185): Fused multiply-add with a literal, or as a sweep. -/
  | ffmaF96 (w0 : W0) (w1 : W1) (lit : BitVec 32)
  /-- FMIN (R185): Float minimum. -/
  | fmin (w0 : W0)
  /-- FMIN_F64 (R185): Float minimum, F64 form. -/
  | fminF64 (w0 : W0) (w1 : W1)
  /-- FMIN_F96 (R185): Float minimum with a literal, or as a sweep. -/
  | fminF96 (w0 : W0) (w1 : W1) (lit : BitVec 32)
  /-- FMAX (R185): Float maximum. -/
  | fmax (w0 : W0)
  /-- FMAX_F64 (R185): Float maximum, F64 form. -/
  | fmaxF64 (w0 : W0) (w1 : W1)
  /-- FMAX_F96 (R185): Float maximum with a literal, or as a sweep. -/
  | fmaxF96 (w0 : W0) (w1 : W1) (lit : BitVec 32)
  /-- FABS (R185): Clears the sign bit. -/
  | fabs (w0 : W0)
  /-- FABS_F64 (R185): Float absolute value, F64 form. -/
  | fabsF64 (w0 : W0) (w1 : W1)
  /-- FNEG (R185): Inverts the sign bit. -/
  | fneg (w0 : W0)
  /-- FNEG_F64 (R185): Float negate, F64 form. -/
  | fnegF64 (w0 : W0) (w1 : W1)
  /-- FCMP (R186): Float compare into a mask. -/
  | fcmp (w0 : W0)
  /-- FCMP_F64 (R186): Float compare, F64 form. -/
  | fcmpF64 (w0 : W0) (w1 : W1)
  /-- FCMP_F96 (R186): Float compare with a literal. -/
  | fcmpF96 (w0 : W0) (w1 : W1) (lit : BitVec 32)
  /-- FRCP (R185): Correctly rounded reciprocal. -/
  | frcp (w0 : W0)
  /-- FRCP_F64 (R185): Reciprocal, F64 form. -/
  | frcpF64 (w0 : W0) (w1 : W1)
  /-- FRSQ (R185): Correctly rounded reciprocal square root. -/
  | frsq (w0 : W0)
  /-- FRSQ_F64 (R185): Reciprocal square root, F64 form. -/
  | frsqF64 (w0 : W0) (w1 : W1)
  /-- FSQRT (R185): Correctly rounded square root. -/
  | fsqrt (w0 : W0)
  /-- FSQRT_F64 (R185): Square root, F64 form. -/
  | fsqrtF64 (w0 : W0) (w1 : W1)
  /-- FEXP2 (R190): Base-2 exponential by the fixed algorithm. -/
  | fexp2 (w0 : W0)
  /-- FEXP2_F64 (R190): Base-2 exponential, F64 form. -/
  | fexp2F64 (w0 : W0) (w1 : W1)
  /-- FLOG2 (R191): Base-2 logarithm by the fixed algorithm. -/
  | flog2 (w0 : W0)
  /-- FLOG2_F64 (R191): Base-2 logarithm, F64 form. -/
  | flog2F64 (w0 : W0) (w1 : W1)
  /-- FSIN (R192): Sine by the fixed algorithm. -/
  | fsin (w0 : W0)
  /-- FSIN_F64 (R192): Sine, F64 form. -/
  | fsinF64 (w0 : W0) (w1 : W1)
  /-- FCOS (R192): Cosine by the fixed algorithm. -/
  | fcos (w0 : W0)
  /-- FCOS_F64 (R192): Cosine, F64 form. -/
  | fcosF64 (w0 : W0) (w1 : W1)
  /-- FTANH (R193): Hyperbolic tangent by the fixed algorithm. -/
  | ftanh (w0 : W0)
  /-- FTANH_F64 (R193): Hyperbolic tangent, F64 form. -/
  | ftanhF64 (w0 : W0) (w1 : W1)
  /-- FSIGM (R194): Sigmoid by the fixed algorithm. -/
  | fsigm (w0 : W0)
  /-- FSIGM_F64 (R194): Sigmoid, F64 form. -/
  | fsigmF64 (w0 : W0) (w1 : W1)
  /-- FCLASS (R186): Writes a one-hot float class. -/
  | fclass (w0 : W0)
  /-- FCLASS_F64 (R186): Float class, F64 form. -/
  | fclassF64 (w0 : W0) (w1 : W1)
  /-- FROUND (R185): Rounds to an integral value. -/
  | fround (w0 : W0)
  /-- FROUND_F64 (R185): Round to integral, F64 form. -/
  | froundF64 (w0 : W0) (w1 : W1)
  /-- FDOT2 (R187): Dot product of two 16-bit pairs plus a binary32 accumulator. -/
  | fdot2 (w0 : W0)
  /-- FDOT2_F64 (R187): Pair dot product, F64 form. -/
  | fdot2F64 (w0 : W0) (w1 : W1)
  /-- FDOT2_F96 (R187): Pair dot product with a literal, or as a sweep. -/
  | fdot2F96 (w0 : W0) (w1 : W1) (lit : BitVec 32)
  /-- FSCALE (R185): Multiplies by 2^n. -/
  | fscale (w0 : W0)
  /-- FSCALE_F64 (R185): Scale by a power of two, F64 form. -/
  | fscaleF64 (w0 : W0) (w1 : W1)
  /-- FSCALE_F96 (R185): Scale by a literal exponent, or as a sweep. -/
  | fscaleF96 (w0 : W0) (w1 : W1) (lit : BitVec 32)
  /-- CVT (R200): Converts between F32, F16, BF16, I32 and N32. -/
  | cvt (w0 : W0)
  /-- CVT_F64 (R200): Conversion with rounding and saturation fields. -/
  | cvtF64 (w0 : W0) (w1 : W1)
  /-- PACK (R201): Converts two binary32 values into a narrow element pair. -/
  | pack (w0 : W0)
  /-- PACK_F64 (R201): Pack, F64 form. -/
  | packF64 (w0 : W0) (w1 : W1)
  /-- PACK_F96 (R201): Pack with a literal b. -/
  | packF96 (w0 : W0) (w1 : W1) (lit : BitVec 32)
  /-- UNPK (R202): Reads one narrow element as binary32 or an integer. -/
  | unpk (w0 : W0)
  /-- UNPK_F64 (R202): Unpack, F64 form. -/
  | unpkF64 (w0 : W0) (w1 : W1)
  /-- QAMAX (R204): Running amax with a NaN/infinity flag, per lane or grouped. -/
  | qamax (w0 : W0)
  /-- QAMAX_F64 (R204): Running amax, F64 form. -/
  | qamaxF64 (w0 : W0) (w1 : W1)
  /-- QEXP (R205): Forms a scale byte from an amax. -/
  | qexp (w0 : W0)
  /-- QEXP_F64 (R205): Scale byte from an amax, F64 form. -/
  | qexpF64 (w0 : W0) (w1 : W1)
  /-- QCVT (R207): Quantises a binary32 element against a scale byte. -/
  | qcvt (w0 : W0) (w1 : W1)
  /-- DQCVT (R208): Dequantises an element with a scale byte. -/
  | dqcvt (w0 : W0) (w1 : W1)
  /-- QTAG (R206): Forms a scale byte from a calibrated scale. -/
  | qtag (w0 : W0)
  /-- QTAG_F64 (R206): Calibrated scale byte, F64 form. -/
  | qtagF64 (w0 : W0) (w1 : W1)
  /-- CBLD (R209): Loads 16 BF16 entries into a codebook slot. -/
  | cbld (w0 : W0) (w1 : W1)
  /-- CBLD_F96 (R209): Codebook load at a literal offset. -/
  | cbldF96 (w0 : W0) (w1 : W1) (lit : BitVec 32)
  /-- CBLUT (R211): Looks up a nibble in a codebook. -/
  | cblut (w0 : W0) (w1 : W1)
  /-- CBENC (R212): Encodes a value to the nearest codebook index. -/
  | cbenc (w0 : W0) (w1 : W1)
  /-- CHLD (R213): Loads and checks micro-ops into a chain slot. -/
  | chld (w0 : W0) (w1 : W1)
  /-- CHLD_F96 (R213): Chain load at a literal offset. -/
  | chldF96 (w0 : W0) (w1 : W1) (lit : BitVec 32)
  /-- CHRUN (R215): Runs a chain slot on each active lane. -/
  | chrun (w0 : W0)
  /-- CHRUN_F64 (R215): Chain run, F64 form. -/
  | chrunF64 (w0 : W0) (w1 : W1)
  /-- CHARG (R214): Prefix that names extra chain inputs, constants and an output for the next CHRUN. -/
  | charg (w0 : W0) (w1 : W1) (lit : BitVec 32)
  /-- SHFL (R220): Indexed shuffle within a segment. -/
  | shfl (w0 : W0) (w1 : W1)
  /-- SHFL_F96 (R220): Shuffle with a literal index. -/
  | shflF96 (w0 : W0) (w1 : W1) (lit : BitVec 32)
  /-- SHFLUP (R220): Shuffle up by n. -/
  | shflup (w0 : W0) (w1 : W1)
  /-- SHFLUP_F96 (R220): Shuffle up by a literal. -/
  | shflupF96 (w0 : W0) (w1 : W1) (lit : BitVec 32)
  /-- SHFLDN (R220): Shuffle down by n. -/
  | shfldn (w0 : W0) (w1 : W1)
  /-- SHFLDN_F96 (R220): Shuffle down by a literal. -/
  | shfldnF96 (w0 : W0) (w1 : W1) (lit : BitVec 32)
  /-- SHFLX (R220): Butterfly shuffle by xor. -/
  | shflx (w0 : W0) (w1 : W1)
  /-- SHFLX_F96 (R220): Butterfly shuffle by a literal xor. -/
  | shflxF96 (w0 : W0) (w1 : W1) (lit : BitVec 32)
  /-- VOTE (R221): Ballot, any, all or equal vote across a segment. -/
  | vote (w0 : W0)
  /-- VOTE_F64 (R221): Vote, F64 form. -/
  | voteF64 (w0 : W0) (w1 : W1)
  /-- REDUCE (R224): Reduction across the active lanes of a segment. -/
  | reduce (w0 : W0)
  /-- REDUCE_F64 (R224): Reduction, F64 form. -/
  | reduceF64 (w0 : W0) (w1 : W1)
  /-- SCAN (R224): Inclusive or exclusive scan across a segment. -/
  | scan (w0 : W0)
  /-- SCAN_F64 (R224): Scan, F64 form. -/
  | scanF64 (w0 : W0) (w1 : W1)
  /-- ELECT (R222): Marks the lowest active lane of each segment in a mask. -/
  | elect (w0 : W0)
  /-- ELECT_F64 (R222): Elect, F64 form. -/
  | electF64 (w0 : W0) (w1 : W1)
  /-- MATCH (R223): Finds the lowest matching lane, or the count of matches. -/
  | matchL (w0 : W0)
  /-- MATCH_F64 (R223): Match, F64 form. -/
  | matchLF64 (w0 : W0) (w1 : W1)
  /-- COMPRESS (R225): Packs the active lanes' values to the low lanes. -/
  | compress (w0 : W0)
  /-- COMPRESS_F64 (R225): Compress, F64 form. -/
  | compressF64 (w0 : W0) (w1 : W1)
  /-- EXPAND (R225): Spreads low lanes' values to the active lanes. -/
  | expand (w0 : W0)
  /-- EXPAND_F64 (R225): Expand, F64 form. -/
  | expandF64 (w0 : W0) (w1 : W1)
  /-- MMODE (R251): Enters matrix mode on a 32-register block, or leaves it. -/
  | mmode (w0 : W0)
  /-- MXMUL (R260): Adds the product of one A panel and one B panel into the tile. -/
  | mxmul (w0 : W0) (w1 : W1)
  /-- MXMULG (R261): Matrix multiply with A rows gathered by index. -/
  | mxmulg (w0 : W0) (w1 : W1)
  /-- MXZERO (R264): Clears the accumulator tile. -/
  | mxzero (w0 : W0)
  /-- MXSCL (R264): Scales the tile by row and column vectors. -/
  | mxscl (w0 : W0) (w1 : W1)
  /-- MXOUT (R265): Stores the tile, optionally quantising it with data-found scales. -/
  | mxout (w0 : W0) (w1 : W1)
  /-- MXAMAX (R264): Writes the tile's amax, or each column's. -/
  | mxamax (w0 : W0)
  /-- MXAMAX_F64 (R264): Tile amax, F64 form. -/
  | mxamaxF64 (w0 : W0) (w1 : W1)
  /-- LD (R237): Load through a typed pointer in the scalar, vector, block, strided or pointer form. -/
  | ld (w0 : W0)
  /-- LD_F64 (R237): Load with a register index and a scale or stride operand. -/
  | ldF64 (w0 : W0) (w1 : W1)
  /-- LD_F96 (R237): Load with a literal index. -/
  | ldF96 (w0 : W0) (w1 : W1) (lit : BitVec 32)
  /-- ST (R237): Store through a typed pointer. -/
  | st (w0 : W0)
  /-- ST_F64 (R237): Store with a register index. -/
  | stF64 (w0 : W0) (w1 : W1)
  /-- ST_F96 (R237): Store with a literal index. -/
  | stF96 (w0 : W0) (w1 : W1) (lit : BitVec 32)
  /-- ATOM (R239): Indivisible read-modify-write per lane or for the coach. -/
  | atom (w0 : W0) (w1 : W1)
  /-- ATOM_F96 (R239): Atomic with a literal index. -/
  | atomF96 (w0 : W0) (w1 : W1) (lit : BitVec 32)
  /-- CAS (R239): Compare-and-swap on bit patterns. -/
  | cas (w0 : W0) (w1 : W1)
  /-- CAS_F96 (R239): Compare-and-swap with a literal index. -/
  | casF96 (w0 : W0) (w1 : W1) (lit : BitVec 32)
  /-- PMAKE (R241): Builds a checked pointer from a base, attributes and a length. -/
  | pmake (w0 : W0) (w1 : W1)
  /-- PMAKE_F96 (R241): Builds a pointer with literal attributes. -/
  | pmakeF96 (w0 : W0) (w1 : W1) (lit : BitVec 32)
  /-- PDERIV (R242): Narrows a pointer to a sub-range, optionally changing FMT. -/
  | pderiv (w0 : W0) (w1 : W1)
  /-- PSCOPE (R243): Changes a pointer's scope or class, with the flush or invalidate that the change requires. -/
  | pscope (w0 : W0)
  /-- PGET (R242): Reads a pointer field into Xd. -/
  | pget (w0 : W0)
  /-- PADD (R242): Advances a pointer's base by a register offset. -/
  | padd (w0 : W0) (w1 : W1)
  /-- PADD_F96 (R242): Advances a pointer's base by a literal offset. -/
  | paddF96 (w0 : W0) (w1 : W1) (lit : BitVec 32)
  /-- SDEF (R244): Defines a stream register from five X registers and pointers. -/
  | sdef (w0 : W0) (w1 : W1)
  /-- SPOS (R245): Sets, adds to or reads a stream position. -/
  | spos (w0 : W0)
  /-- SPOS_F64 (R245): Stream position with a register operand. -/
  | sposF64 (w0 : W0) (w1 : W1)
  /-- SPOS_F96 (R245): Stream position with a literal. -/
  | sposF96 (w0 : W0) (w1 : W1) (lit : BitVec 32)
  /-- PREF (R246): Prefetches lines into the L2 or the data cache. -/
  | pref (w0 : W0) (w1 : W1)
  /-- PREF_F96 (R246): Prefetch at a literal offset. -/
  | prefF96 (w0 : W0) (w1 : W1) (lit : BitVec 32)
  /-- STBIND (R247): Binds a scratch range to a global range as a stash. -/
  | stbind (w0 : W0) (w1 : W1)
  /-- STUNB (R248): Writes back dirty lines and removes a stash binding. -/
  | stunb (w0 : W0)
  /-- DRLD (R275): Dray load of a tensor box into local store, optionally multicast. -/
  | drld (w0 : W0) (w1 : W1)
  /-- DRST (R276): Dray store of a box from local store into a tensor, optionally reducing. -/
  | drst (w0 : W0) (w1 : W1)
  /-- DRCP (R277): Dray copy from one tensor box to another. -/
  | drcp (w0 : W0) (w1 : W1)
  /-- TLRSET (R280): Checks a tensor layout record and writes it to a TL slot. -/
  | tlrset (w0 : W0)
  /-- FESET (R281): Sets or clears the full-empty bits of a scratch range. -/
  | feset (w0 : W0) (w1 : W1)
  /-- FESET_F96 (R281): Full-empty set or clear with a literal length. -/
  | fesetF96 (w0 : W0) (w1 : W1) (lit : BitVec 32)
  /-- GBAR (R37): Group barrier: arrives, and waits or holds its path. -/
  | gbar (w0 : W0)
  /-- GBAR_F64 (R37): Predicated group barrier. -/
  | gbarF64 (w0 : W0) (w1 : W1)
  /-- GARV (R36): Arrives at a group phase without waiting. -/
  | garv (w0 : W0)
  /-- GARV_F64 (R36): Predicated arrival. -/
  | garvF64 (w0 : W0) (w1 : W1)
  /-- GWAIT (R285): Waits until the arrived phase completes. -/
  | gwait (w0 : W0)
  /-- GQRY (R285): Reads the phase parity and the arrived flag. -/
  | gqry (w0 : W0)
  /-- POST (R112): Sets LPOST to the post ID. -/
  | post (w0 : W0)
  /-- MIGRATE (R113): Asks to move the gang to the other core type at the post. -/
  | migrate (w0 : W0)
  /-- WAITV (R288): Waits until a memory word meets a condition, or a timeout. -/
  | waitv (w0 : W0) (w1 : W1)
  /-- WAITV_F96 (R288): Memory wait with a literal timeout. -/
  | waitvF96 (w0 : W0) (w1 : W1) (lit : BitVec 32)
  /-- GRED (R286): Contributes to a group reduction and arrives. -/
  | gred (w0 : W0) (w1 : W1)
  /-- LAUNCH (R289): Publishes a waybill to a launch queue through the reeve. -/
  | launch (w0 : W0) (w1 : W1)
  /-- TRAP (R290): Raises a software trap with a code. -/
  | trap (w0 : W0)
  /-- RFT (R348): Returns from a trap handler to RESUME. -/
  | rft (w0 : W0)
  /-- BRK (R290): Raises a debug trap with a code. -/
  | brk (w0 : W0)
  /-- SSR (R291): Reads BACKOFF, WORLD or WDOG. -/
  | ssr (w0 : W0)
  /-- SSW (R291): Writes BACKOFF, or WDOG from the secure world. -/
  | ssw (w0 : W0)
  /-- TLBI (R292): Invalidates translations for a page, a context or everything. -/
  | tlbi (w0 : W0)
  /-- ICINV (R293): Invalidates instruction caches. -/
  | icinv (w0 : W0)
  /-- ICINV_F64 (R293): Instruction-cache invalidate of a range, or predicated. -/
  | icinvF64 (w0 : W0) (w1 : W1)
  /-- SAVEC (R294): Writes a coach record to memory. -/
  | savec (w0 : W0)
  /-- RESTC (R294): Loads a coach record and continues at its PC. -/
  | restc (w0 : W0)
  /-- CSTATRC (R295): Reads CSTAT after accesses drain and clears the selected fields. -/
  | cstatrc (w0 : W0)
  /-- SWCALL (R290): Calls a secure-world steward service. -/
  | swcall (w0 : W0)
  /-- HALTC (R290): Ends the launch with status HALTED. -/
  | haltc (w0 : W0)
  /-- TICK (R307): Every 256 reference cycles a tick passes: each core's pts advances by 1, TIME counts, and each coach's WDC advances. -/
  | tick
  /-- REPLAY_LIMIT_EXHAUSTION (R374): A sender's oldest entry has been NACKed without a break for 65,536 ticks, so its owning coach raises EXEC 0x0003 and the launch is discarded. -/
  | replayLimitExhaustion (sender : SenderId)
  /-- SOFT_ERROR (R397): A bit error strikes a protected or parity-checked structure: a single-bit error is corrected, and a double-bit error poisons its word, line or granule. -/
  | softError (place : ErrorPlace) (double : Bool)
  /-- LUNATH_PATROL (R398): The steward's patrol of Lunath finds poisoned lines or a stack beyond its spare rows, sets the health word and raises REPLREQ. -/
  | lunathPatrol (stack : BitVec 4) (beyondSpare : Bool)
  /-- POD_TABLE_CHANGE (R400): The steward writes PODBASE or pod-table entries, which changes the outcome of later peer checks. -/
  | podTableChange (change : PodChange)
  /-- WORLD_ASSIGNMENT_CHANGE (R324): The steward changes the world of an idle core, port or Lunath region. -/
  | worldAssignmentChange (block : WorldBlock) (secure : Bool)
  /-- PACKAGE_POWER_OFF (R325): The package loses power and nothing runs until a cold boot. -/
  | packagePowerOff
  /-- WORD_NOT_AN_INSTRUCTION (R356): A coach issues a first word with LEN 0b11 or an unassigned OPC, which raises ENCODING 0x0001 or 0x0002. -/
  | wordNotAnInstruction (word : BitVec 32)
  /-- INSTRUCTION_FETCH_FAULT (R356): The fetch of an instruction's first word faults in translation, or lies outside the image, so a TRANSLATION or OPERAND 0x010E trap is raised before any decode. -/
  | instructionFetchFault
  /-- VABS_F96 (R196): Vector absolute value as a sweep over scratch segments. -/
  | vabsF96 (w0 : W0) (w1 : W1) (lit : BitVec 32)
  /-- VNEG_F96 (R196): Vector negate as a sweep over scratch segments. -/
  | vnegF96 (w0 : W0) (w1 : W1) (lit : BitVec 32)
  /-- VNOT_F96 (R196): Vector complement as a sweep over scratch segments. -/
  | vnotF96 (w0 : W0) (w1 : W1) (lit : BitVec 32)
  /-- VPOP_F96 (R196): Vector population count as a sweep over scratch segments. -/
  | vpopF96 (w0 : W0) (w1 : W1) (lit : BitVec 32)
  /-- VCLZ_F96 (R196): Vector leading zero count as a sweep over scratch segments. -/
  | vclzF96 (w0 : W0) (w1 : W1) (lit : BitVec 32)
  /-- VMOV_F96 (R196): Vector move as a sweep over scratch segments. -/
  | vmovF96 (w0 : W0) (w1 : W1) (lit : BitVec 32)
  /-- FABS_F96 (R196): Float absolute value as a sweep over scratch segments. -/
  | fabsF96 (w0 : W0) (w1 : W1) (lit : BitVec 32)
  /-- FNEG_F96 (R196): Float negate as a sweep over scratch segments. -/
  | fnegF96 (w0 : W0) (w1 : W1) (lit : BitVec 32)
  /-- FRCP_F96 (R196): Reciprocal as a sweep over scratch segments. -/
  | frcpF96 (w0 : W0) (w1 : W1) (lit : BitVec 32)
  /-- FRSQ_F96 (R196): Reciprocal square root as a sweep over scratch segments. -/
  | frsqF96 (w0 : W0) (w1 : W1) (lit : BitVec 32)
  /-- FSQRT_F96 (R196): Square root as a sweep over scratch segments. -/
  | fsqrtF96 (w0 : W0) (w1 : W1) (lit : BitVec 32)
  /-- FEXP2_F96 (R196): Base-2 exponential as a sweep over scratch segments. -/
  | fexp2F96 (w0 : W0) (w1 : W1) (lit : BitVec 32)
  /-- FLOG2_F96 (R196): Base-2 logarithm as a sweep over scratch segments. -/
  | flog2F96 (w0 : W0) (w1 : W1) (lit : BitVec 32)
  /-- FSIN_F96 (R196): Sine as a sweep over scratch segments. -/
  | fsinF96 (w0 : W0) (w1 : W1) (lit : BitVec 32)
  /-- FCOS_F96 (R196): Cosine as a sweep over scratch segments. -/
  | fcosF96 (w0 : W0) (w1 : W1) (lit : BitVec 32)
  /-- FTANH_F96 (R196): Hyperbolic tangent as a sweep over scratch segments. -/
  | ftanhF96 (w0 : W0) (w1 : W1) (lit : BitVec 32)
  /-- FSIGM_F96 (R196): Sigmoid as a sweep over scratch segments. -/
  | fsigmF96 (w0 : W0) (w1 : W1) (lit : BitVec 32)
  /-- FCLASS_F96 (R196): Float class as a sweep over scratch segments. -/
  | fclassF96 (w0 : W0) (w1 : W1) (lit : BitVec 32)
  /-- FROUND_F96 (R196): Round to integral as a sweep over scratch segments. -/
  | froundF96 (w0 : W0) (w1 : W1) (lit : BitVec 32)
  deriving DecidableEq, Repr

end Sys2Proof
end

