-- ==== Sys2Proof/Machine/Encoding.lean ====
section
/-! DEFINITION. The fields of an instruction's words, the 170 opcodes, which fields each opcode reads
and what kind of operand each holds, and the ENCODING checks that read the instruction's words alone
(R122-R134, R357 and the encoding table of each chapter). -/

namespace Sys2Proof.Machine

open Sys2Proof

/-- The three formats (R122). -/
inductive Form where
  | f32 | f64 | f96
  deriving DecidableEq, Repr

/-- Length of an instruction in bytes (R122). -/
def Form.bytes : Form → Nat
  | .f32 => 4
  | .f64 => 8
  | .f96 => 12

/-- Every field of an instruction, in any format: an F32 form has the fields of word 1 =
0x0000_FFFF (R125). -/
structure Fields where
  form : Form
  k6 : BitVec 6
  a : BitVec 8
  d : BitVec 8
  x31 : Bool
  bstr : Bool
  bscl : Bool
  astr : Bool
  hold : BitVec 2
  sat : BitVec 2
  rnd : BitVec 3
  pneg : Bool
  psel : BitVec 3
  pen : Bool
  c : BitVec 8
  b : BitVec 8
  lit : BitVec 32
  deriving DecidableEq, Repr

/-- Fields of an F64 form. -/
def Fields.of64 (w0 : W0) (w1 : W1) : Fields :=
  { form := .f64, k6 := w0.k6, a := w0.a, d := w0.d, x31 := w1.x31, bstr := w1.bstr,
    bscl := w1.bscl, astr := w1.astr, hold := w1.hold, sat := w1.sat, rnd := w1.rnd,
    pneg := w1.pneg, psel := w1.psel, pen := w1.pen, c := w1.c, b := w1.b, lit := 0 }

/-- Word 1 = 0x0000_FFFF, which every F32 form stands for (R125). -/
def W1.default : W1 :=
  { x31 := false, bstr := false, bscl := false, astr := false, hold := 0, sat := 0, rnd := 0,
    pneg := false, psel := 0, pen := false, c := 255, b := 255 }

/-- Fields of an F32 form (R125). -/
def Fields.of32 (w0 : W0) : Fields := { Fields.of64 w0 W1.default with form := .f32 }

/-- Fields of an F96 form. -/
def Fields.of96 (w0 : W0) (w1 : W1) (lit : BitVec 32) : Fields :=
  { Fields.of64 w0 w1 with form := .f96, lit := lit }

/-- Length of the instruction in bytes. -/
def Fields.len (f : Fields) : Nat := f.form.bytes

/-- K6 bits [hi:lo]. -/
def Fields.k (f : Fields) (hi lo : Nat) : Nat := bits f.k6 hi lo

/-- The 16-bit ID that D and A hold together, word 0 [25:10] (R283). -/
def Fields.id16 (f : Fields) : BitVec 16 := f.a ++ f.d

/-- The 170 major opcodes (R133). -/
inductive Op where
  | nop | movx | movi | addx | subx | mulx | mulhx | divx | remx | andx
  | orx | xorx | shlx | shrx | sarx | rotx | minx | maxx | cmpx | selx
  | clzx | popx | bfex | bfix | madx | leax | srr | srw | vtox | xtov
  | mtox | xtom | bra | brc | call | ret | jmpx | ifM | elseM | endif
  | loop | breakM | cont | endloop | brdiv | reconv | exit | yield | sleep | anym
  | allm | vadd | vsub | vmul | vmulh | vmad | vmin | vmax | vabs | vneg
  | vand | vor | vxor | vnot | vshl | vshr | vsar | vbfe | vbfi | vpop
  | vclz | vsel | vcmp | vmov | vlane | vdot4 | fadd | fsub | fmul | ffma
  | fmin | fmax | fabs | fneg | fcmp | frcp | frsq | fsqrt | fexp2 | flog2
  | fsin | fcos | ftanh | fsigm | fclass | fround | fdot2 | fscale | cvt | pack
  | unpk | qamax | qexp | qcvt | dqcvt | qtag | cbld | cblut | cbenc | chld
  | chrun | charg | shfl | shflup | shfldn | shflx | vote | reduce | scan | elect
  | matchL | compress | expand | mmode | mxmul | mxmulg | mxzero | mxscl | mxout | mxamax
  | ld | st | atom | cas | pmake | pderiv | pscope | pget | padd | sdef
  | spos | pref | stbind | stunb | drld | drst | drcp | tlrset | feset | gbar
  | garv | gwait | gqry | post | migrate | waitv | gred | launch | trap | rft
  | brk | ssr | ssw | tlbi | icinv | savec | restc | cstatrc | swcall | haltc
  deriving DecidableEq, Repr

/-- The OPC value of an opcode (R133). -/
def Op.code : Op → Nat
  | .nop => 0x00
  | .movx => 0x01
  | .movi => 0x02
  | .addx => 0x03
  | .subx => 0x04
  | .mulx => 0x05
  | .mulhx => 0x06
  | .divx => 0x07
  | .remx => 0x08
  | .andx => 0x09
  | .orx => 0x0A
  | .xorx => 0x0B
  | .shlx => 0x0C
  | .shrx => 0x0D
  | .sarx => 0x0E
  | .rotx => 0x0F
  | .minx => 0x10
  | .maxx => 0x11
  | .cmpx => 0x12
  | .selx => 0x13
  | .clzx => 0x14
  | .popx => 0x15
  | .bfex => 0x16
  | .bfix => 0x17
  | .madx => 0x18
  | .leax => 0x19
  | .srr => 0x1A
  | .srw => 0x1B
  | .vtox => 0x1C
  | .xtov => 0x1D
  | .mtox => 0x1E
  | .xtom => 0x1F
  | .bra => 0x20
  | .brc => 0x21
  | .call => 0x22
  | .ret => 0x23
  | .jmpx => 0x24
  | .ifM => 0x25
  | .elseM => 0x26
  | .endif => 0x27
  | .loop => 0x28
  | .breakM => 0x29
  | .cont => 0x2A
  | .endloop => 0x2B
  | .brdiv => 0x2C
  | .reconv => 0x2D
  | .exit => 0x2E
  | .yield => 0x2F
  | .sleep => 0x30
  | .anym => 0x31
  | .allm => 0x32
  | .vadd => 0x40
  | .vsub => 0x41
  | .vmul => 0x42
  | .vmulh => 0x43
  | .vmad => 0x44
  | .vmin => 0x45
  | .vmax => 0x46
  | .vabs => 0x47
  | .vneg => 0x48
  | .vand => 0x49
  | .vor => 0x4A
  | .vxor => 0x4B
  | .vnot => 0x4C
  | .vshl => 0x4D
  | .vshr => 0x4E
  | .vsar => 0x4F
  | .vbfe => 0x50
  | .vbfi => 0x51
  | .vpop => 0x52
  | .vclz => 0x53
  | .vsel => 0x54
  | .vcmp => 0x55
  | .vmov => 0x56
  | .vlane => 0x57
  | .vdot4 => 0x58
  | .fadd => 0x60
  | .fsub => 0x61
  | .fmul => 0x62
  | .ffma => 0x63
  | .fmin => 0x64
  | .fmax => 0x65
  | .fabs => 0x66
  | .fneg => 0x67
  | .fcmp => 0x68
  | .frcp => 0x69
  | .frsq => 0x6A
  | .fsqrt => 0x6B
  | .fexp2 => 0x6C
  | .flog2 => 0x6D
  | .fsin => 0x6E
  | .fcos => 0x6F
  | .ftanh => 0x70
  | .fsigm => 0x71
  | .fclass => 0x72
  | .fround => 0x73
  | .fdot2 => 0x74
  | .fscale => 0x75
  | .cvt => 0x80
  | .pack => 0x81
  | .unpk => 0x82
  | .qamax => 0x83
  | .qexp => 0x84
  | .qcvt => 0x85
  | .dqcvt => 0x86
  | .qtag => 0x87
  | .cbld => 0x88
  | .cblut => 0x89
  | .cbenc => 0x8A
  | .chld => 0x8B
  | .chrun => 0x8C
  | .charg => 0x8D
  | .shfl => 0xA0
  | .shflup => 0xA1
  | .shfldn => 0xA2
  | .shflx => 0xA3
  | .vote => 0xA4
  | .reduce => 0xA5
  | .scan => 0xA6
  | .elect => 0xA7
  | .matchL => 0xA8
  | .compress => 0xA9
  | .expand => 0xAA
  | .mmode => 0xB0
  | .mxmul => 0xB1
  | .mxmulg => 0xB2
  | .mxzero => 0xB3
  | .mxscl => 0xB4
  | .mxout => 0xB5
  | .mxamax => 0xB6
  | .ld => 0xC0
  | .st => 0xC1
  | .atom => 0xC2
  | .cas => 0xC3
  | .pmake => 0xC4
  | .pderiv => 0xC5
  | .pscope => 0xC6
  | .pget => 0xC7
  | .padd => 0xC8
  | .sdef => 0xC9
  | .spos => 0xCA
  | .pref => 0xCB
  | .stbind => 0xCC
  | .stunb => 0xCD
  | .drld => 0xD0
  | .drst => 0xD1
  | .drcp => 0xD2
  | .tlrset => 0xD3
  | .feset => 0xD4
  | .gbar => 0xE0
  | .garv => 0xE1
  | .gwait => 0xE2
  | .gqry => 0xE3
  | .post => 0xE4
  | .migrate => 0xE5
  | .waitv => 0xE6
  | .gred => 0xE7
  | .launch => 0xE8
  | .trap => 0xF0
  | .rft => 0xF1
  | .brk => 0xF2
  | .ssr => 0xF3
  | .ssw => 0xF4
  | .tlbi => 0xF5
  | .icinv => 0xF6
  | .savec => 0xF7
  | .restc => 0xF8
  | .cstatrc => 0xF9
  | .swcall => 0xFA
  | .haltc => 0xFB

/-- The opcode of an OPC value; none for the unassigned values of R134. -/
def Op.ofCode : Nat → Option Op
  | 0x00 => some .nop
  | 0x01 => some .movx
  | 0x02 => some .movi
  | 0x03 => some .addx
  | 0x04 => some .subx
  | 0x05 => some .mulx
  | 0x06 => some .mulhx
  | 0x07 => some .divx
  | 0x08 => some .remx
  | 0x09 => some .andx
  | 0x0A => some .orx
  | 0x0B => some .xorx
  | 0x0C => some .shlx
  | 0x0D => some .shrx
  | 0x0E => some .sarx
  | 0x0F => some .rotx
  | 0x10 => some .minx
  | 0x11 => some .maxx
  | 0x12 => some .cmpx
  | 0x13 => some .selx
  | 0x14 => some .clzx
  | 0x15 => some .popx
  | 0x16 => some .bfex
  | 0x17 => some .bfix
  | 0x18 => some .madx
  | 0x19 => some .leax
  | 0x1A => some .srr
  | 0x1B => some .srw
  | 0x1C => some .vtox
  | 0x1D => some .xtov
  | 0x1E => some .mtox
  | 0x1F => some .xtom
  | 0x20 => some .bra
  | 0x21 => some .brc
  | 0x22 => some .call
  | 0x23 => some .ret
  | 0x24 => some .jmpx
  | 0x25 => some .ifM
  | 0x26 => some .elseM
  | 0x27 => some .endif
  | 0x28 => some .loop
  | 0x29 => some .breakM
  | 0x2A => some .cont
  | 0x2B => some .endloop
  | 0x2C => some .brdiv
  | 0x2D => some .reconv
  | 0x2E => some .exit
  | 0x2F => some .yield
  | 0x30 => some .sleep
  | 0x31 => some .anym
  | 0x32 => some .allm
  | 0x40 => some .vadd
  | 0x41 => some .vsub
  | 0x42 => some .vmul
  | 0x43 => some .vmulh
  | 0x44 => some .vmad
  | 0x45 => some .vmin
  | 0x46 => some .vmax
  | 0x47 => some .vabs
  | 0x48 => some .vneg
  | 0x49 => some .vand
  | 0x4A => some .vor
  | 0x4B => some .vxor
  | 0x4C => some .vnot
  | 0x4D => some .vshl
  | 0x4E => some .vshr
  | 0x4F => some .vsar
  | 0x50 => some .vbfe
  | 0x51 => some .vbfi
  | 0x52 => some .vpop
  | 0x53 => some .vclz
  | 0x54 => some .vsel
  | 0x55 => some .vcmp
  | 0x56 => some .vmov
  | 0x57 => some .vlane
  | 0x58 => some .vdot4
  | 0x60 => some .fadd
  | 0x61 => some .fsub
  | 0x62 => some .fmul
  | 0x63 => some .ffma
  | 0x64 => some .fmin
  | 0x65 => some .fmax
  | 0x66 => some .fabs
  | 0x67 => some .fneg
  | 0x68 => some .fcmp
  | 0x69 => some .frcp
  | 0x6A => some .frsq
  | 0x6B => some .fsqrt
  | 0x6C => some .fexp2
  | 0x6D => some .flog2
  | 0x6E => some .fsin
  | 0x6F => some .fcos
  | 0x70 => some .ftanh
  | 0x71 => some .fsigm
  | 0x72 => some .fclass
  | 0x73 => some .fround
  | 0x74 => some .fdot2
  | 0x75 => some .fscale
  | 0x80 => some .cvt
  | 0x81 => some .pack
  | 0x82 => some .unpk
  | 0x83 => some .qamax
  | 0x84 => some .qexp
  | 0x85 => some .qcvt
  | 0x86 => some .dqcvt
  | 0x87 => some .qtag
  | 0x88 => some .cbld
  | 0x89 => some .cblut
  | 0x8A => some .cbenc
  | 0x8B => some .chld
  | 0x8C => some .chrun
  | 0x8D => some .charg
  | 0xA0 => some .shfl
  | 0xA1 => some .shflup
  | 0xA2 => some .shfldn
  | 0xA3 => some .shflx
  | 0xA4 => some .vote
  | 0xA5 => some .reduce
  | 0xA6 => some .scan
  | 0xA7 => some .elect
  | 0xA8 => some .matchL
  | 0xA9 => some .compress
  | 0xAA => some .expand
  | 0xB0 => some .mmode
  | 0xB1 => some .mxmul
  | 0xB2 => some .mxmulg
  | 0xB3 => some .mxzero
  | 0xB4 => some .mxscl
  | 0xB5 => some .mxout
  | 0xB6 => some .mxamax
  | 0xC0 => some .ld
  | 0xC1 => some .st
  | 0xC2 => some .atom
  | 0xC3 => some .cas
  | 0xC4 => some .pmake
  | 0xC5 => some .pderiv
  | 0xC6 => some .pscope
  | 0xC7 => some .pget
  | 0xC8 => some .padd
  | 0xC9 => some .sdef
  | 0xCA => some .spos
  | 0xCB => some .pref
  | 0xCC => some .stbind
  | 0xCD => some .stunb
  | 0xD0 => some .drld
  | 0xD1 => some .drst
  | 0xD2 => some .drcp
  | 0xD3 => some .tlrset
  | 0xD4 => some .feset
  | 0xE0 => some .gbar
  | 0xE1 => some .garv
  | 0xE2 => some .gwait
  | 0xE3 => some .gqry
  | 0xE4 => some .post
  | 0xE5 => some .migrate
  | 0xE6 => some .waitv
  | 0xE7 => some .gred
  | 0xE8 => some .launch
  | 0xF0 => some .trap
  | 0xF1 => some .rft
  | 0xF2 => some .brk
  | 0xF3 => some .ssr
  | 0xF4 => some .ssw
  | 0xF5 => some .tlbi
  | 0xF6 => some .icinv
  | 0xF7 => some .savec
  | 0xF8 => some .restc
  | 0xF9 => some .cstatrc
  | 0xFA => some .swcall
  | 0xFB => some .haltc
  | _ => none

/-- The opcode, format and fields of an instruction form; none for an event of the device. -/
def view : Instr → Option (Op × Fields)
  | .nop w0 => some (.nop, Fields.of32 w0)
  | .movx w0 => some (.movx, Fields.of32 w0)
  | .movi w0 w1 lit => some (.movi, Fields.of96 w0 w1 lit)
  | .addx w0 w1 => some (.addx, Fields.of64 w0 w1)
  | .addxF96 w0 w1 lit => some (.addx, Fields.of96 w0 w1 lit)
  | .subx w0 w1 => some (.subx, Fields.of64 w0 w1)
  | .subxF96 w0 w1 lit => some (.subx, Fields.of96 w0 w1 lit)
  | .mulx w0 w1 => some (.mulx, Fields.of64 w0 w1)
  | .mulxF96 w0 w1 lit => some (.mulx, Fields.of96 w0 w1 lit)
  | .mulhx w0 w1 => some (.mulhx, Fields.of64 w0 w1)
  | .mulhxF96 w0 w1 lit => some (.mulhx, Fields.of96 w0 w1 lit)
  | .divx w0 w1 => some (.divx, Fields.of64 w0 w1)
  | .divxF96 w0 w1 lit => some (.divx, Fields.of96 w0 w1 lit)
  | .remx w0 w1 => some (.remx, Fields.of64 w0 w1)
  | .remxF96 w0 w1 lit => some (.remx, Fields.of96 w0 w1 lit)
  | .andx w0 w1 => some (.andx, Fields.of64 w0 w1)
  | .andxF96 w0 w1 lit => some (.andx, Fields.of96 w0 w1 lit)
  | .orx w0 w1 => some (.orx, Fields.of64 w0 w1)
  | .orxF96 w0 w1 lit => some (.orx, Fields.of96 w0 w1 lit)
  | .xorx w0 w1 => some (.xorx, Fields.of64 w0 w1)
  | .xorxF96 w0 w1 lit => some (.xorx, Fields.of96 w0 w1 lit)
  | .shlx w0 w1 => some (.shlx, Fields.of64 w0 w1)
  | .shlxF96 w0 w1 lit => some (.shlx, Fields.of96 w0 w1 lit)
  | .shrx w0 w1 => some (.shrx, Fields.of64 w0 w1)
  | .shrxF96 w0 w1 lit => some (.shrx, Fields.of96 w0 w1 lit)
  | .sarx w0 w1 => some (.sarx, Fields.of64 w0 w1)
  | .sarxF96 w0 w1 lit => some (.sarx, Fields.of96 w0 w1 lit)
  | .rotx w0 w1 => some (.rotx, Fields.of64 w0 w1)
  | .rotxF96 w0 w1 lit => some (.rotx, Fields.of96 w0 w1 lit)
  | .minx w0 w1 => some (.minx, Fields.of64 w0 w1)
  | .minxF96 w0 w1 lit => some (.minx, Fields.of96 w0 w1 lit)
  | .maxx w0 w1 => some (.maxx, Fields.of64 w0 w1)
  | .maxxF96 w0 w1 lit => some (.maxx, Fields.of96 w0 w1 lit)
  | .cmpx w0 w1 => some (.cmpx, Fields.of64 w0 w1)
  | .cmpxF96 w0 w1 lit => some (.cmpx, Fields.of96 w0 w1 lit)
  | .selx w0 w1 => some (.selx, Fields.of64 w0 w1)
  | .selxF96 w0 w1 lit => some (.selx, Fields.of96 w0 w1 lit)
  | .clzx w0 => some (.clzx, Fields.of32 w0)
  | .popx w0 => some (.popx, Fields.of32 w0)
  | .bfex w0 w1 => some (.bfex, Fields.of64 w0 w1)
  | .bfexF96 w0 w1 lit => some (.bfex, Fields.of96 w0 w1 lit)
  | .bfix w0 w1 => some (.bfix, Fields.of64 w0 w1)
  | .bfixF96 w0 w1 lit => some (.bfix, Fields.of96 w0 w1 lit)
  | .madx w0 w1 => some (.madx, Fields.of64 w0 w1)
  | .madxF96 w0 w1 lit => some (.madx, Fields.of96 w0 w1 lit)
  | .leax w0 w1 => some (.leax, Fields.of64 w0 w1)
  | .leaxF96 w0 w1 lit => some (.leax, Fields.of96 w0 w1 lit)
  | .srr w0 => some (.srr, Fields.of32 w0)
  | .srw w0 => some (.srw, Fields.of32 w0)
  | .vtox w0 w1 => some (.vtox, Fields.of64 w0 w1)
  | .vtoxF96 w0 w1 lit => some (.vtox, Fields.of96 w0 w1 lit)
  | .xtov w0 => some (.xtov, Fields.of32 w0)
  | .xtovF64 w0 w1 => some (.xtov, Fields.of64 w0 w1)
  | .mtox w0 => some (.mtox, Fields.of32 w0)
  | .xtom w0 => some (.xtom, Fields.of32 w0)
  | .bra w0 => some (.bra, Fields.of32 w0)
  | .brc w0 w1 lit => some (.brc, Fields.of96 w0 w1 lit)
  | .call w0 w1 lit => some (.call, Fields.of96 w0 w1 lit)
  | .ret w0 => some (.ret, Fields.of32 w0)
  | .jmpx w0 => some (.jmpx, Fields.of32 w0)
  | .ifM w0 w1 lit => some (.ifM, Fields.of96 w0 w1 lit)
  | .elseM w0 => some (.elseM, Fields.of32 w0)
  | .endif w0 => some (.endif, Fields.of32 w0)
  | .loop w0 w1 lit => some (.loop, Fields.of96 w0 w1 lit)
  | .breakM w0 w1 lit => some (.breakM, Fields.of96 w0 w1 lit)
  | .cont w0 w1 lit => some (.cont, Fields.of96 w0 w1 lit)
  | .endloop w0 w1 lit => some (.endloop, Fields.of96 w0 w1 lit)
  | .brdiv w0 w1 lit => some (.brdiv, Fields.of96 w0 w1 lit)
  | .reconv w0 => some (.reconv, Fields.of32 w0)
  | .exit w0 => some (.exit, Fields.of32 w0)
  | .exitF64 w0 w1 => some (.exit, Fields.of64 w0 w1)
  | .yield w0 => some (.yield, Fields.of32 w0)
  | .sleep w0 => some (.sleep, Fields.of32 w0)
  | .sleepF64 w0 w1 => some (.sleep, Fields.of64 w0 w1)
  | .sleepF96 w0 w1 lit => some (.sleep, Fields.of96 w0 w1 lit)
  | .anym w0 => some (.anym, Fields.of32 w0)
  | .allm w0 => some (.allm, Fields.of32 w0)
  | .vadd w0 => some (.vadd, Fields.of32 w0)
  | .vaddF64 w0 w1 => some (.vadd, Fields.of64 w0 w1)
  | .vaddF96 w0 w1 lit => some (.vadd, Fields.of96 w0 w1 lit)
  | .vsub w0 => some (.vsub, Fields.of32 w0)
  | .vsubF64 w0 w1 => some (.vsub, Fields.of64 w0 w1)
  | .vsubF96 w0 w1 lit => some (.vsub, Fields.of96 w0 w1 lit)
  | .vmul w0 => some (.vmul, Fields.of32 w0)
  | .vmulF64 w0 w1 => some (.vmul, Fields.of64 w0 w1)
  | .vmulF96 w0 w1 lit => some (.vmul, Fields.of96 w0 w1 lit)
  | .vmulh w0 => some (.vmulh, Fields.of32 w0)
  | .vmulhF64 w0 w1 => some (.vmulh, Fields.of64 w0 w1)
  | .vmulhF96 w0 w1 lit => some (.vmulh, Fields.of96 w0 w1 lit)
  | .vmad w0 => some (.vmad, Fields.of32 w0)
  | .vmadF64 w0 w1 => some (.vmad, Fields.of64 w0 w1)
  | .vmadF96 w0 w1 lit => some (.vmad, Fields.of96 w0 w1 lit)
  | .vmin w0 => some (.vmin, Fields.of32 w0)
  | .vminF64 w0 w1 => some (.vmin, Fields.of64 w0 w1)
  | .vminF96 w0 w1 lit => some (.vmin, Fields.of96 w0 w1 lit)
  | .vmax w0 => some (.vmax, Fields.of32 w0)
  | .vmaxF64 w0 w1 => some (.vmax, Fields.of64 w0 w1)
  | .vmaxF96 w0 w1 lit => some (.vmax, Fields.of96 w0 w1 lit)
  | .vabs w0 => some (.vabs, Fields.of32 w0)
  | .vabsF64 w0 w1 => some (.vabs, Fields.of64 w0 w1)
  | .vneg w0 => some (.vneg, Fields.of32 w0)
  | .vnegF64 w0 w1 => some (.vneg, Fields.of64 w0 w1)
  | .vand w0 => some (.vand, Fields.of32 w0)
  | .vandF64 w0 w1 => some (.vand, Fields.of64 w0 w1)
  | .vandF96 w0 w1 lit => some (.vand, Fields.of96 w0 w1 lit)
  | .vor w0 => some (.vor, Fields.of32 w0)
  | .vorF64 w0 w1 => some (.vor, Fields.of64 w0 w1)
  | .vorF96 w0 w1 lit => some (.vor, Fields.of96 w0 w1 lit)
  | .vxor w0 => some (.vxor, Fields.of32 w0)
  | .vxorF64 w0 w1 => some (.vxor, Fields.of64 w0 w1)
  | .vxorF96 w0 w1 lit => some (.vxor, Fields.of96 w0 w1 lit)
  | .vnot w0 => some (.vnot, Fields.of32 w0)
  | .vnotF64 w0 w1 => some (.vnot, Fields.of64 w0 w1)
  | .vshl w0 => some (.vshl, Fields.of32 w0)
  | .vshlF64 w0 w1 => some (.vshl, Fields.of64 w0 w1)
  | .vshlF96 w0 w1 lit => some (.vshl, Fields.of96 w0 w1 lit)
  | .vshr w0 => some (.vshr, Fields.of32 w0)
  | .vshrF64 w0 w1 => some (.vshr, Fields.of64 w0 w1)
  | .vshrF96 w0 w1 lit => some (.vshr, Fields.of96 w0 w1 lit)
  | .vsar w0 => some (.vsar, Fields.of32 w0)
  | .vsarF64 w0 w1 => some (.vsar, Fields.of64 w0 w1)
  | .vsarF96 w0 w1 lit => some (.vsar, Fields.of96 w0 w1 lit)
  | .vbfe w0 => some (.vbfe, Fields.of32 w0)
  | .vbfeF64 w0 w1 => some (.vbfe, Fields.of64 w0 w1)
  | .vbfeF96 w0 w1 lit => some (.vbfe, Fields.of96 w0 w1 lit)
  | .vbfi w0 => some (.vbfi, Fields.of32 w0)
  | .vbfiF64 w0 w1 => some (.vbfi, Fields.of64 w0 w1)
  | .vbfiF96 w0 w1 lit => some (.vbfi, Fields.of96 w0 w1 lit)
  | .vpop w0 => some (.vpop, Fields.of32 w0)
  | .vpopF64 w0 w1 => some (.vpop, Fields.of64 w0 w1)
  | .vclz w0 => some (.vclz, Fields.of32 w0)
  | .vclzF64 w0 w1 => some (.vclz, Fields.of64 w0 w1)
  | .vsel w0 w1 => some (.vsel, Fields.of64 w0 w1)
  | .vselF96 w0 w1 lit => some (.vsel, Fields.of96 w0 w1 lit)
  | .vcmp w0 => some (.vcmp, Fields.of32 w0)
  | .vcmpF64 w0 w1 => some (.vcmp, Fields.of64 w0 w1)
  | .vcmpF96 w0 w1 lit => some (.vcmp, Fields.of96 w0 w1 lit)
  | .vmov w0 => some (.vmov, Fields.of32 w0)
  | .vmovF64 w0 w1 => some (.vmov, Fields.of64 w0 w1)
  | .vlane w0 => some (.vlane, Fields.of32 w0)
  | .vlaneF64 w0 w1 => some (.vlane, Fields.of64 w0 w1)
  | .vdot4 w0 => some (.vdot4, Fields.of32 w0)
  | .vdot4F64 w0 w1 => some (.vdot4, Fields.of64 w0 w1)
  | .vdot4F96 w0 w1 lit => some (.vdot4, Fields.of96 w0 w1 lit)
  | .fadd w0 => some (.fadd, Fields.of32 w0)
  | .faddF64 w0 w1 => some (.fadd, Fields.of64 w0 w1)
  | .faddF96 w0 w1 lit => some (.fadd, Fields.of96 w0 w1 lit)
  | .fsub w0 => some (.fsub, Fields.of32 w0)
  | .fsubF64 w0 w1 => some (.fsub, Fields.of64 w0 w1)
  | .fsubF96 w0 w1 lit => some (.fsub, Fields.of96 w0 w1 lit)
  | .fmul w0 => some (.fmul, Fields.of32 w0)
  | .fmulF64 w0 w1 => some (.fmul, Fields.of64 w0 w1)
  | .fmulF96 w0 w1 lit => some (.fmul, Fields.of96 w0 w1 lit)
  | .ffma w0 => some (.ffma, Fields.of32 w0)
  | .ffmaF64 w0 w1 => some (.ffma, Fields.of64 w0 w1)
  | .ffmaF96 w0 w1 lit => some (.ffma, Fields.of96 w0 w1 lit)
  | .fmin w0 => some (.fmin, Fields.of32 w0)
  | .fminF64 w0 w1 => some (.fmin, Fields.of64 w0 w1)
  | .fminF96 w0 w1 lit => some (.fmin, Fields.of96 w0 w1 lit)
  | .fmax w0 => some (.fmax, Fields.of32 w0)
  | .fmaxF64 w0 w1 => some (.fmax, Fields.of64 w0 w1)
  | .fmaxF96 w0 w1 lit => some (.fmax, Fields.of96 w0 w1 lit)
  | .fabs w0 => some (.fabs, Fields.of32 w0)
  | .fabsF64 w0 w1 => some (.fabs, Fields.of64 w0 w1)
  | .fneg w0 => some (.fneg, Fields.of32 w0)
  | .fnegF64 w0 w1 => some (.fneg, Fields.of64 w0 w1)
  | .fcmp w0 => some (.fcmp, Fields.of32 w0)
  | .fcmpF64 w0 w1 => some (.fcmp, Fields.of64 w0 w1)
  | .fcmpF96 w0 w1 lit => some (.fcmp, Fields.of96 w0 w1 lit)
  | .frcp w0 => some (.frcp, Fields.of32 w0)
  | .frcpF64 w0 w1 => some (.frcp, Fields.of64 w0 w1)
  | .frsq w0 => some (.frsq, Fields.of32 w0)
  | .frsqF64 w0 w1 => some (.frsq, Fields.of64 w0 w1)
  | .fsqrt w0 => some (.fsqrt, Fields.of32 w0)
  | .fsqrtF64 w0 w1 => some (.fsqrt, Fields.of64 w0 w1)
  | .fexp2 w0 => some (.fexp2, Fields.of32 w0)
  | .fexp2F64 w0 w1 => some (.fexp2, Fields.of64 w0 w1)
  | .flog2 w0 => some (.flog2, Fields.of32 w0)
  | .flog2F64 w0 w1 => some (.flog2, Fields.of64 w0 w1)
  | .fsin w0 => some (.fsin, Fields.of32 w0)
  | .fsinF64 w0 w1 => some (.fsin, Fields.of64 w0 w1)
  | .fcos w0 => some (.fcos, Fields.of32 w0)
  | .fcosF64 w0 w1 => some (.fcos, Fields.of64 w0 w1)
  | .ftanh w0 => some (.ftanh, Fields.of32 w0)
  | .ftanhF64 w0 w1 => some (.ftanh, Fields.of64 w0 w1)
  | .fsigm w0 => some (.fsigm, Fields.of32 w0)
  | .fsigmF64 w0 w1 => some (.fsigm, Fields.of64 w0 w1)
  | .fclass w0 => some (.fclass, Fields.of32 w0)
  | .fclassF64 w0 w1 => some (.fclass, Fields.of64 w0 w1)
  | .fround w0 => some (.fround, Fields.of32 w0)
  | .froundF64 w0 w1 => some (.fround, Fields.of64 w0 w1)
  | .fdot2 w0 => some (.fdot2, Fields.of32 w0)
  | .fdot2F64 w0 w1 => some (.fdot2, Fields.of64 w0 w1)
  | .fdot2F96 w0 w1 lit => some (.fdot2, Fields.of96 w0 w1 lit)
  | .fscale w0 => some (.fscale, Fields.of32 w0)
  | .fscaleF64 w0 w1 => some (.fscale, Fields.of64 w0 w1)
  | .fscaleF96 w0 w1 lit => some (.fscale, Fields.of96 w0 w1 lit)
  | .cvt w0 => some (.cvt, Fields.of32 w0)
  | .cvtF64 w0 w1 => some (.cvt, Fields.of64 w0 w1)
  | .pack w0 => some (.pack, Fields.of32 w0)
  | .packF64 w0 w1 => some (.pack, Fields.of64 w0 w1)
  | .packF96 w0 w1 lit => some (.pack, Fields.of96 w0 w1 lit)
  | .unpk w0 => some (.unpk, Fields.of32 w0)
  | .unpkF64 w0 w1 => some (.unpk, Fields.of64 w0 w1)
  | .qamax w0 => some (.qamax, Fields.of32 w0)
  | .qamaxF64 w0 w1 => some (.qamax, Fields.of64 w0 w1)
  | .qexp w0 => some (.qexp, Fields.of32 w0)
  | .qexpF64 w0 w1 => some (.qexp, Fields.of64 w0 w1)
  | .qcvt w0 w1 => some (.qcvt, Fields.of64 w0 w1)
  | .dqcvt w0 w1 => some (.dqcvt, Fields.of64 w0 w1)
  | .qtag w0 => some (.qtag, Fields.of32 w0)
  | .qtagF64 w0 w1 => some (.qtag, Fields.of64 w0 w1)
  | .cbld w0 w1 => some (.cbld, Fields.of64 w0 w1)
  | .cbldF96 w0 w1 lit => some (.cbld, Fields.of96 w0 w1 lit)
  | .cblut w0 w1 => some (.cblut, Fields.of64 w0 w1)
  | .cbenc w0 w1 => some (.cbenc, Fields.of64 w0 w1)
  | .chld w0 w1 => some (.chld, Fields.of64 w0 w1)
  | .chldF96 w0 w1 lit => some (.chld, Fields.of96 w0 w1 lit)
  | .chrun w0 => some (.chrun, Fields.of32 w0)
  | .chrunF64 w0 w1 => some (.chrun, Fields.of64 w0 w1)
  | .charg w0 w1 lit => some (.charg, Fields.of96 w0 w1 lit)
  | .shfl w0 w1 => some (.shfl, Fields.of64 w0 w1)
  | .shflF96 w0 w1 lit => some (.shfl, Fields.of96 w0 w1 lit)
  | .shflup w0 w1 => some (.shflup, Fields.of64 w0 w1)
  | .shflupF96 w0 w1 lit => some (.shflup, Fields.of96 w0 w1 lit)
  | .shfldn w0 w1 => some (.shfldn, Fields.of64 w0 w1)
  | .shfldnF96 w0 w1 lit => some (.shfldn, Fields.of96 w0 w1 lit)
  | .shflx w0 w1 => some (.shflx, Fields.of64 w0 w1)
  | .shflxF96 w0 w1 lit => some (.shflx, Fields.of96 w0 w1 lit)
  | .vote w0 => some (.vote, Fields.of32 w0)
  | .voteF64 w0 w1 => some (.vote, Fields.of64 w0 w1)
  | .reduce w0 => some (.reduce, Fields.of32 w0)
  | .reduceF64 w0 w1 => some (.reduce, Fields.of64 w0 w1)
  | .scan w0 => some (.scan, Fields.of32 w0)
  | .scanF64 w0 w1 => some (.scan, Fields.of64 w0 w1)
  | .elect w0 => some (.elect, Fields.of32 w0)
  | .electF64 w0 w1 => some (.elect, Fields.of64 w0 w1)
  | .matchL w0 => some (.matchL, Fields.of32 w0)
  | .matchLF64 w0 w1 => some (.matchL, Fields.of64 w0 w1)
  | .compress w0 => some (.compress, Fields.of32 w0)
  | .compressF64 w0 w1 => some (.compress, Fields.of64 w0 w1)
  | .expand w0 => some (.expand, Fields.of32 w0)
  | .expandF64 w0 w1 => some (.expand, Fields.of64 w0 w1)
  | .mmode w0 => some (.mmode, Fields.of32 w0)
  | .mxmul w0 w1 => some (.mxmul, Fields.of64 w0 w1)
  | .mxmulg w0 w1 => some (.mxmulg, Fields.of64 w0 w1)
  | .mxzero w0 => some (.mxzero, Fields.of32 w0)
  | .mxscl w0 w1 => some (.mxscl, Fields.of64 w0 w1)
  | .mxout w0 w1 => some (.mxout, Fields.of64 w0 w1)
  | .mxamax w0 => some (.mxamax, Fields.of32 w0)
  | .mxamaxF64 w0 w1 => some (.mxamax, Fields.of64 w0 w1)
  | .ld w0 => some (.ld, Fields.of32 w0)
  | .ldF64 w0 w1 => some (.ld, Fields.of64 w0 w1)
  | .ldF96 w0 w1 lit => some (.ld, Fields.of96 w0 w1 lit)
  | .st w0 => some (.st, Fields.of32 w0)
  | .stF64 w0 w1 => some (.st, Fields.of64 w0 w1)
  | .stF96 w0 w1 lit => some (.st, Fields.of96 w0 w1 lit)
  | .atom w0 w1 => some (.atom, Fields.of64 w0 w1)
  | .atomF96 w0 w1 lit => some (.atom, Fields.of96 w0 w1 lit)
  | .cas w0 w1 => some (.cas, Fields.of64 w0 w1)
  | .casF96 w0 w1 lit => some (.cas, Fields.of96 w0 w1 lit)
  | .pmake w0 w1 => some (.pmake, Fields.of64 w0 w1)
  | .pmakeF96 w0 w1 lit => some (.pmake, Fields.of96 w0 w1 lit)
  | .pderiv w0 w1 => some (.pderiv, Fields.of64 w0 w1)
  | .pscope w0 => some (.pscope, Fields.of32 w0)
  | .pget w0 => some (.pget, Fields.of32 w0)
  | .padd w0 w1 => some (.padd, Fields.of64 w0 w1)
  | .paddF96 w0 w1 lit => some (.padd, Fields.of96 w0 w1 lit)
  | .sdef w0 w1 => some (.sdef, Fields.of64 w0 w1)
  | .spos w0 => some (.spos, Fields.of32 w0)
  | .sposF64 w0 w1 => some (.spos, Fields.of64 w0 w1)
  | .sposF96 w0 w1 lit => some (.spos, Fields.of96 w0 w1 lit)
  | .pref w0 w1 => some (.pref, Fields.of64 w0 w1)
  | .prefF96 w0 w1 lit => some (.pref, Fields.of96 w0 w1 lit)
  | .stbind w0 w1 => some (.stbind, Fields.of64 w0 w1)
  | .stunb w0 => some (.stunb, Fields.of32 w0)
  | .drld w0 w1 => some (.drld, Fields.of64 w0 w1)
  | .drst w0 w1 => some (.drst, Fields.of64 w0 w1)
  | .drcp w0 w1 => some (.drcp, Fields.of64 w0 w1)
  | .tlrset w0 => some (.tlrset, Fields.of32 w0)
  | .feset w0 w1 => some (.feset, Fields.of64 w0 w1)
  | .fesetF96 w0 w1 lit => some (.feset, Fields.of96 w0 w1 lit)
  | .gbar w0 => some (.gbar, Fields.of32 w0)
  | .gbarF64 w0 w1 => some (.gbar, Fields.of64 w0 w1)
  | .garv w0 => some (.garv, Fields.of32 w0)
  | .garvF64 w0 w1 => some (.garv, Fields.of64 w0 w1)
  | .gwait w0 => some (.gwait, Fields.of32 w0)
  | .gqry w0 => some (.gqry, Fields.of32 w0)
  | .post w0 => some (.post, Fields.of32 w0)
  | .migrate w0 => some (.migrate, Fields.of32 w0)
  | .waitv w0 w1 => some (.waitv, Fields.of64 w0 w1)
  | .waitvF96 w0 w1 lit => some (.waitv, Fields.of96 w0 w1 lit)
  | .gred w0 w1 => some (.gred, Fields.of64 w0 w1)
  | .launch w0 w1 => some (.launch, Fields.of64 w0 w1)
  | .trap w0 => some (.trap, Fields.of32 w0)
  | .rft w0 => some (.rft, Fields.of32 w0)
  | .brk w0 => some (.brk, Fields.of32 w0)
  | .ssr w0 => some (.ssr, Fields.of32 w0)
  | .ssw w0 => some (.ssw, Fields.of32 w0)
  | .tlbi w0 => some (.tlbi, Fields.of32 w0)
  | .icinv w0 => some (.icinv, Fields.of32 w0)
  | .icinvF64 w0 w1 => some (.icinv, Fields.of64 w0 w1)
  | .savec w0 => some (.savec, Fields.of32 w0)
  | .restc w0 => some (.restc, Fields.of32 w0)
  | .cstatrc w0 => some (.cstatrc, Fields.of32 w0)
  | .swcall w0 => some (.swcall, Fields.of32 w0)
  | .haltc w0 => some (.haltc, Fields.of32 w0)
  | .vabsF96 w0 w1 lit => some (.vabs, Fields.of96 w0 w1 lit)
  | .vnegF96 w0 w1 lit => some (.vneg, Fields.of96 w0 w1 lit)
  | .vnotF96 w0 w1 lit => some (.vnot, Fields.of96 w0 w1 lit)
  | .vpopF96 w0 w1 lit => some (.vpop, Fields.of96 w0 w1 lit)
  | .vclzF96 w0 w1 lit => some (.vclz, Fields.of96 w0 w1 lit)
  | .vmovF96 w0 w1 lit => some (.vmov, Fields.of96 w0 w1 lit)
  | .fabsF96 w0 w1 lit => some (.fabs, Fields.of96 w0 w1 lit)
  | .fnegF96 w0 w1 lit => some (.fneg, Fields.of96 w0 w1 lit)
  | .frcpF96 w0 w1 lit => some (.frcp, Fields.of96 w0 w1 lit)
  | .frsqF96 w0 w1 lit => some (.frsq, Fields.of96 w0 w1 lit)
  | .fsqrtF96 w0 w1 lit => some (.fsqrt, Fields.of96 w0 w1 lit)
  | .fexp2F96 w0 w1 lit => some (.fexp2, Fields.of96 w0 w1 lit)
  | .flog2F96 w0 w1 lit => some (.flog2, Fields.of96 w0 w1 lit)
  | .fsinF96 w0 w1 lit => some (.fsin, Fields.of96 w0 w1 lit)
  | .fcosF96 w0 w1 lit => some (.fcos, Fields.of96 w0 w1 lit)
  | .ftanhF96 w0 w1 lit => some (.ftanh, Fields.of96 w0 w1 lit)
  | .fsigmF96 w0 w1 lit => some (.fsigm, Fields.of96 w0 w1 lit)
  | .fclassF96 w0 w1 lit => some (.fclass, Fields.of96 w0 w1 lit)
  | .froundF96 w0 w1 lit => some (.fround, Fields.of96 w0 w1 lit)
  | _ => none

/-- The row of the opcode table for an opcode in the format F32; none where the opcode's description does not accept it (R125 and each encoding table). -/
noncomputable def instrF32 (w0 : W0) : Op → Option Instr
  | .nop => some (.nop w0)
  | .movx => some (.movx w0)
  | .clzx => some (.clzx w0)
  | .popx => some (.popx w0)
  | .srr => some (.srr w0)
  | .srw => some (.srw w0)
  | .xtov => some (.xtov w0)
  | .mtox => some (.mtox w0)
  | .xtom => some (.xtom w0)
  | .bra => some (.bra w0)
  | .ret => some (.ret w0)
  | .jmpx => some (.jmpx w0)
  | .elseM => some (.elseM w0)
  | .endif => some (.endif w0)
  | .reconv => some (.reconv w0)
  | .exit => some (.exit w0)
  | .yield => some (.yield w0)
  | .sleep => some (.sleep w0)
  | .anym => some (.anym w0)
  | .allm => some (.allm w0)
  | .vadd => some (.vadd w0)
  | .vsub => some (.vsub w0)
  | .vmul => some (.vmul w0)
  | .vmulh => some (.vmulh w0)
  | .vmad => some (.vmad w0)
  | .vmin => some (.vmin w0)
  | .vmax => some (.vmax w0)
  | .vabs => some (.vabs w0)
  | .vneg => some (.vneg w0)
  | .vand => some (.vand w0)
  | .vor => some (.vor w0)
  | .vxor => some (.vxor w0)
  | .vnot => some (.vnot w0)
  | .vshl => some (.vshl w0)
  | .vshr => some (.vshr w0)
  | .vsar => some (.vsar w0)
  | .vbfe => some (.vbfe w0)
  | .vbfi => some (.vbfi w0)
  | .vpop => some (.vpop w0)
  | .vclz => some (.vclz w0)
  | .vcmp => some (.vcmp w0)
  | .vmov => some (.vmov w0)
  | .vlane => some (.vlane w0)
  | .vdot4 => some (.vdot4 w0)
  | .fadd => some (.fadd w0)
  | .fsub => some (.fsub w0)
  | .fmul => some (.fmul w0)
  | .ffma => some (.ffma w0)
  | .fmin => some (.fmin w0)
  | .fmax => some (.fmax w0)
  | .fabs => some (.fabs w0)
  | .fneg => some (.fneg w0)
  | .fcmp => some (.fcmp w0)
  | .frcp => some (.frcp w0)
  | .frsq => some (.frsq w0)
  | .fsqrt => some (.fsqrt w0)
  | .fexp2 => some (.fexp2 w0)
  | .flog2 => some (.flog2 w0)
  | .fsin => some (.fsin w0)
  | .fcos => some (.fcos w0)
  | .ftanh => some (.ftanh w0)
  | .fsigm => some (.fsigm w0)
  | .fclass => some (.fclass w0)
  | .fround => some (.fround w0)
  | .fdot2 => some (.fdot2 w0)
  | .fscale => some (.fscale w0)
  | .cvt => some (.cvt w0)
  | .pack => some (.pack w0)
  | .unpk => some (.unpk w0)
  | .qamax => some (.qamax w0)
  | .qexp => some (.qexp w0)
  | .qtag => some (.qtag w0)
  | .chrun => some (.chrun w0)
  | .vote => some (.vote w0)
  | .reduce => some (.reduce w0)
  | .scan => some (.scan w0)
  | .elect => some (.elect w0)
  | .matchL => some (.matchL w0)
  | .compress => some (.compress w0)
  | .expand => some (.expand w0)
  | .mmode => some (.mmode w0)
  | .mxzero => some (.mxzero w0)
  | .mxamax => some (.mxamax w0)
  | .ld => some (.ld w0)
  | .st => some (.st w0)
  | .pscope => some (.pscope w0)
  | .pget => some (.pget w0)
  | .spos => some (.spos w0)
  | .stunb => some (.stunb w0)
  | .tlrset => some (.tlrset w0)
  | .gbar => some (.gbar w0)
  | .garv => some (.garv w0)
  | .gwait => some (.gwait w0)
  | .gqry => some (.gqry w0)
  | .post => some (.post w0)
  | .migrate => some (.migrate w0)
  | .trap => some (.trap w0)
  | .rft => some (.rft w0)
  | .brk => some (.brk w0)
  | .ssr => some (.ssr w0)
  | .ssw => some (.ssw w0)
  | .tlbi => some (.tlbi w0)
  | .icinv => some (.icinv w0)
  | .savec => some (.savec w0)
  | .restc => some (.restc w0)
  | .cstatrc => some (.cstatrc w0)
  | .swcall => some (.swcall w0)
  | .haltc => some (.haltc w0)
  | _ => none

/-- The row of the opcode table for an opcode in the format F64; none where the opcode's description does not accept it (R125 and each encoding table). -/
noncomputable def instrF64 (w0 : W0) (w1 : W1) : Op → Option Instr
  | .addx => some (.addx w0 w1)
  | .subx => some (.subx w0 w1)
  | .mulx => some (.mulx w0 w1)
  | .mulhx => some (.mulhx w0 w1)
  | .divx => some (.divx w0 w1)
  | .remx => some (.remx w0 w1)
  | .andx => some (.andx w0 w1)
  | .orx => some (.orx w0 w1)
  | .xorx => some (.xorx w0 w1)
  | .shlx => some (.shlx w0 w1)
  | .shrx => some (.shrx w0 w1)
  | .sarx => some (.sarx w0 w1)
  | .rotx => some (.rotx w0 w1)
  | .minx => some (.minx w0 w1)
  | .maxx => some (.maxx w0 w1)
  | .cmpx => some (.cmpx w0 w1)
  | .selx => some (.selx w0 w1)
  | .bfex => some (.bfex w0 w1)
  | .bfix => some (.bfix w0 w1)
  | .madx => some (.madx w0 w1)
  | .leax => some (.leax w0 w1)
  | .vtox => some (.vtox w0 w1)
  | .xtov => some (.xtovF64 w0 w1)
  | .exit => some (.exitF64 w0 w1)
  | .sleep => some (.sleepF64 w0 w1)
  | .vadd => some (.vaddF64 w0 w1)
  | .vsub => some (.vsubF64 w0 w1)
  | .vmul => some (.vmulF64 w0 w1)
  | .vmulh => some (.vmulhF64 w0 w1)
  | .vmad => some (.vmadF64 w0 w1)
  | .vmin => some (.vminF64 w0 w1)
  | .vmax => some (.vmaxF64 w0 w1)
  | .vabs => some (.vabsF64 w0 w1)
  | .vneg => some (.vnegF64 w0 w1)
  | .vand => some (.vandF64 w0 w1)
  | .vor => some (.vorF64 w0 w1)
  | .vxor => some (.vxorF64 w0 w1)
  | .vnot => some (.vnotF64 w0 w1)
  | .vshl => some (.vshlF64 w0 w1)
  | .vshr => some (.vshrF64 w0 w1)
  | .vsar => some (.vsarF64 w0 w1)
  | .vbfe => some (.vbfeF64 w0 w1)
  | .vbfi => some (.vbfiF64 w0 w1)
  | .vpop => some (.vpopF64 w0 w1)
  | .vclz => some (.vclzF64 w0 w1)
  | .vsel => some (.vsel w0 w1)
  | .vcmp => some (.vcmpF64 w0 w1)
  | .vmov => some (.vmovF64 w0 w1)
  | .vlane => some (.vlaneF64 w0 w1)
  | .vdot4 => some (.vdot4F64 w0 w1)
  | .fadd => some (.faddF64 w0 w1)
  | .fsub => some (.fsubF64 w0 w1)
  | .fmul => some (.fmulF64 w0 w1)
  | .ffma => some (.ffmaF64 w0 w1)
  | .fmin => some (.fminF64 w0 w1)
  | .fmax => some (.fmaxF64 w0 w1)
  | .fabs => some (.fabsF64 w0 w1)
  | .fneg => some (.fnegF64 w0 w1)
  | .fcmp => some (.fcmpF64 w0 w1)
  | .frcp => some (.frcpF64 w0 w1)
  | .frsq => some (.frsqF64 w0 w1)
  | .fsqrt => some (.fsqrtF64 w0 w1)
  | .fexp2 => some (.fexp2F64 w0 w1)
  | .flog2 => some (.flog2F64 w0 w1)
  | .fsin => some (.fsinF64 w0 w1)
  | .fcos => some (.fcosF64 w0 w1)
  | .ftanh => some (.ftanhF64 w0 w1)
  | .fsigm => some (.fsigmF64 w0 w1)
  | .fclass => some (.fclassF64 w0 w1)
  | .fround => some (.froundF64 w0 w1)
  | .fdot2 => some (.fdot2F64 w0 w1)
  | .fscale => some (.fscaleF64 w0 w1)
  | .cvt => some (.cvtF64 w0 w1)
  | .pack => some (.packF64 w0 w1)
  | .unpk => some (.unpkF64 w0 w1)
  | .qamax => some (.qamaxF64 w0 w1)
  | .qexp => some (.qexpF64 w0 w1)
  | .qcvt => some (.qcvt w0 w1)
  | .dqcvt => some (.dqcvt w0 w1)
  | .qtag => some (.qtagF64 w0 w1)
  | .cbld => some (.cbld w0 w1)
  | .cblut => some (.cblut w0 w1)
  | .cbenc => some (.cbenc w0 w1)
  | .chld => some (.chld w0 w1)
  | .chrun => some (.chrunF64 w0 w1)
  | .shfl => some (.shfl w0 w1)
  | .shflup => some (.shflup w0 w1)
  | .shfldn => some (.shfldn w0 w1)
  | .shflx => some (.shflx w0 w1)
  | .vote => some (.voteF64 w0 w1)
  | .reduce => some (.reduceF64 w0 w1)
  | .scan => some (.scanF64 w0 w1)
  | .elect => some (.electF64 w0 w1)
  | .matchL => some (.matchLF64 w0 w1)
  | .compress => some (.compressF64 w0 w1)
  | .expand => some (.expandF64 w0 w1)
  | .mxmul => some (.mxmul w0 w1)
  | .mxmulg => some (.mxmulg w0 w1)
  | .mxscl => some (.mxscl w0 w1)
  | .mxout => some (.mxout w0 w1)
  | .mxamax => some (.mxamaxF64 w0 w1)
  | .ld => some (.ldF64 w0 w1)
  | .st => some (.stF64 w0 w1)
  | .atom => some (.atom w0 w1)
  | .cas => some (.cas w0 w1)
  | .pmake => some (.pmake w0 w1)
  | .pderiv => some (.pderiv w0 w1)
  | .padd => some (.padd w0 w1)
  | .sdef => some (.sdef w0 w1)
  | .spos => some (.sposF64 w0 w1)
  | .pref => some (.pref w0 w1)
  | .stbind => some (.stbind w0 w1)
  | .drld => some (.drld w0 w1)
  | .drst => some (.drst w0 w1)
  | .drcp => some (.drcp w0 w1)
  | .feset => some (.feset w0 w1)
  | .gbar => some (.gbarF64 w0 w1)
  | .garv => some (.garvF64 w0 w1)
  | .waitv => some (.waitv w0 w1)
  | .gred => some (.gred w0 w1)
  | .launch => some (.launch w0 w1)
  | .icinv => some (.icinvF64 w0 w1)
  | _ => none

/-- The row of the opcode table for an opcode in the format F96; none where the opcode's description does not accept it (R125 and each encoding table). -/
noncomputable def instrF96 (w0 : W0) (w1 : W1) (lit : BitVec 32) : Op → Option Instr
  | .movi => some (.movi w0 w1 lit)
  | .addx => some (.addxF96 w0 w1 lit)
  | .subx => some (.subxF96 w0 w1 lit)
  | .mulx => some (.mulxF96 w0 w1 lit)
  | .mulhx => some (.mulhxF96 w0 w1 lit)
  | .divx => some (.divxF96 w0 w1 lit)
  | .remx => some (.remxF96 w0 w1 lit)
  | .andx => some (.andxF96 w0 w1 lit)
  | .orx => some (.orxF96 w0 w1 lit)
  | .xorx => some (.xorxF96 w0 w1 lit)
  | .shlx => some (.shlxF96 w0 w1 lit)
  | .shrx => some (.shrxF96 w0 w1 lit)
  | .sarx => some (.sarxF96 w0 w1 lit)
  | .rotx => some (.rotxF96 w0 w1 lit)
  | .minx => some (.minxF96 w0 w1 lit)
  | .maxx => some (.maxxF96 w0 w1 lit)
  | .cmpx => some (.cmpxF96 w0 w1 lit)
  | .selx => some (.selxF96 w0 w1 lit)
  | .bfex => some (.bfexF96 w0 w1 lit)
  | .bfix => some (.bfixF96 w0 w1 lit)
  | .madx => some (.madxF96 w0 w1 lit)
  | .leax => some (.leaxF96 w0 w1 lit)
  | .vtox => some (.vtoxF96 w0 w1 lit)
  | .brc => some (.brc w0 w1 lit)
  | .call => some (.call w0 w1 lit)
  | .ifM => some (.ifM w0 w1 lit)
  | .loop => some (.loop w0 w1 lit)
  | .breakM => some (.breakM w0 w1 lit)
  | .cont => some (.cont w0 w1 lit)
  | .endloop => some (.endloop w0 w1 lit)
  | .brdiv => some (.brdiv w0 w1 lit)
  | .sleep => some (.sleepF96 w0 w1 lit)
  | .vadd => some (.vaddF96 w0 w1 lit)
  | .vsub => some (.vsubF96 w0 w1 lit)
  | .vmul => some (.vmulF96 w0 w1 lit)
  | .vmulh => some (.vmulhF96 w0 w1 lit)
  | .vmad => some (.vmadF96 w0 w1 lit)
  | .vmin => some (.vminF96 w0 w1 lit)
  | .vmax => some (.vmaxF96 w0 w1 lit)
  | .vand => some (.vandF96 w0 w1 lit)
  | .vor => some (.vorF96 w0 w1 lit)
  | .vxor => some (.vxorF96 w0 w1 lit)
  | .vshl => some (.vshlF96 w0 w1 lit)
  | .vshr => some (.vshrF96 w0 w1 lit)
  | .vsar => some (.vsarF96 w0 w1 lit)
  | .vbfe => some (.vbfeF96 w0 w1 lit)
  | .vbfi => some (.vbfiF96 w0 w1 lit)
  | .vsel => some (.vselF96 w0 w1 lit)
  | .vcmp => some (.vcmpF96 w0 w1 lit)
  | .vdot4 => some (.vdot4F96 w0 w1 lit)
  | .fadd => some (.faddF96 w0 w1 lit)
  | .fsub => some (.fsubF96 w0 w1 lit)
  | .fmul => some (.fmulF96 w0 w1 lit)
  | .ffma => some (.ffmaF96 w0 w1 lit)
  | .fmin => some (.fminF96 w0 w1 lit)
  | .fmax => some (.fmaxF96 w0 w1 lit)
  | .fcmp => some (.fcmpF96 w0 w1 lit)
  | .fdot2 => some (.fdot2F96 w0 w1 lit)
  | .fscale => some (.fscaleF96 w0 w1 lit)
  | .pack => some (.packF96 w0 w1 lit)
  | .cbld => some (.cbldF96 w0 w1 lit)
  | .chld => some (.chldF96 w0 w1 lit)
  | .charg => some (.charg w0 w1 lit)
  | .shfl => some (.shflF96 w0 w1 lit)
  | .shflup => some (.shflupF96 w0 w1 lit)
  | .shfldn => some (.shfldnF96 w0 w1 lit)
  | .shflx => some (.shflxF96 w0 w1 lit)
  | .ld => some (.ldF96 w0 w1 lit)
  | .st => some (.stF96 w0 w1 lit)
  | .atom => some (.atomF96 w0 w1 lit)
  | .cas => some (.casF96 w0 w1 lit)
  | .pmake => some (.pmakeF96 w0 w1 lit)
  | .padd => some (.paddF96 w0 w1 lit)
  | .spos => some (.sposF96 w0 w1 lit)
  | .pref => some (.prefF96 w0 w1 lit)
  | .feset => some (.fesetF96 w0 w1 lit)
  | .waitv => some (.waitvF96 w0 w1 lit)
  | .vabs => some (.vabsF96 w0 w1 lit)
  | .vneg => some (.vnegF96 w0 w1 lit)
  | .vnot => some (.vnotF96 w0 w1 lit)
  | .vpop => some (.vpopF96 w0 w1 lit)
  | .vclz => some (.vclzF96 w0 w1 lit)
  | .vmov => some (.vmovF96 w0 w1 lit)
  | .fabs => some (.fabsF96 w0 w1 lit)
  | .fneg => some (.fnegF96 w0 w1 lit)
  | .frcp => some (.frcpF96 w0 w1 lit)
  | .frsq => some (.frsqF96 w0 w1 lit)
  | .fsqrt => some (.fsqrtF96 w0 w1 lit)
  | .fexp2 => some (.fexp2F96 w0 w1 lit)
  | .flog2 => some (.flog2F96 w0 w1 lit)
  | .fsin => some (.fsinF96 w0 w1 lit)
  | .fcos => some (.fcosF96 w0 w1 lit)
  | .ftanh => some (.ftanhF96 w0 w1 lit)
  | .fsigm => some (.fsigmF96 w0 w1 lit)
  | .fclass => some (.fclassF96 w0 w1 lit)
  | .fround => some (.froundF96 w0 w1 lit)
  | _ => none

/-- Vector-slot opcodes (R131). -/
def Op.isVector (o : Op) : Bool :=
  let n := o.code
  (0x40 ≤ n && n ≤ 0x58) || (0x60 ≤ n && n ≤ 0x75) || (0x80 ≤ n && n ≤ 0x8D)
    || (0xA0 ≤ n && n ≤ 0xAA) || (0xB0 ≤ n && n ≤ 0xB6)

/-- Opcodes 0x40-0x75, of which an F96 form with X31 = 1 is a sweep (R132). -/
def Op.isAlu (o : Op) : Bool := 0x40 ≤ o.code && o.code ≤ 0x75

/-- Integer vector opcodes 0x40-0x58. -/
def Op.isIntAlu (o : Op) : Bool := 0x40 ≤ o.code && o.code ≤ 0x58

/-- Cross-lane opcodes, in which X31 is ORD (R124). -/
def Op.isCrossLane (o : Op) : Bool := 0xA0 ≤ o.code && o.code ≤ 0xAA

/-- Matrix opcodes (R25). -/
def Op.isMatrix (o : Op) : Bool := 0xB0 ≤ o.code && o.code ≤ 0xB6

/-- Dray opcodes (R25). -/
def Op.isDray (o : Op) : Bool := 0xD0 ≤ o.code && o.code ≤ 0xD4

/-- The opcodes that have no sweep form (R132, R196). -/
def Op.noSweep : Op → Bool
  | .vcmp | .fcmp | .vlane | .vsel | .vbfi => true
  | _ => false

/-- A sweep form: an F96 form of opcodes 0x40-0x75 with X31 = 1 (R132). -/
def isSweep (o : Op) (f : Fields) : Bool :=
  o.isAlu && !o.noSweep && f.form == .f96 && f.x31

/-- The kind of an operand field (R128), with the narrower sets that instructions state. -/
inductive Kind where
  /-- Not read: the field holds its default (R127). -/
  | none
  /-- V0-V251, latch 252-254, 255 (R66). -/
  | v
  /-- V0-V251 only. -/
  | vReg
  /-- V0-V251 or 255. -/
  | vReg255
  /-- X0-X63, 255. -/
  | x
  /-- X0-X63 only. -/
  | xReg
  | m
  | p
  /-- P0-P31, or 255 for none. -/
  | p255
  | s
  | g
  | cb
  /-- CB0-CB7, or 255 for none. -/
  | cb255
  | tl
  | ch
  /-- Bits of an offset, an ID or a system register number: no operand. -/
  | raw
  deriving DecidableEq, Repr

/-- Which fields an instruction reads and what they hold. `din`: D is read; `dout`: D is written. -/
structure Shape where
  d : Kind := .none
  a : Kind := .none
  b : Kind := .none
  c : Kind := .none
  din : Bool := false
  dout : Bool := true
  k6 : Bool := true
  pred : Bool := true
  rnd : Bool := false
  sat : Bool := false
  deriving DecidableEq, Repr

/-- SAT is read by these integer vector rows (R181). -/
def intReadsSat : Op → Bool
  | .vadd | .vsub | .vmul | .vmad | .vabs | .vneg | .vdot4 => true
  | _ => false

/-- RND is read by these float rows (R185). -/
def floatReadsRnd : Op → Bool
  | .fadd | .fsub | .fmul | .ffma | .frcp | .frsq | .fsqrt | .fround | .fdot2 | .fscale => true
  | _ => false

/-- SAT is read by these float rows (R185). -/
def floatReadsSat (o : Op) : Bool := floatReadsRnd o && o != .fround

/-- The rows of 0x40-0x75 that read B (R181, R185). -/
def aluReadsB : Op → Bool
  | .vabs | .vneg | .vnot | .vpop | .vclz | .vmov | .vlane => false
  | .fabs | .fneg | .frcp | .frsq | .fsqrt | .fexp2 | .flog2 | .fsin | .fcos | .ftanh | .fsigm
  | .fclass | .fround => false
  | _ => true

/-- The rows of 0x40-0x75 that read C as a V operand (R181, R185). -/
def aluReadsC : Op → Bool
  | .vmad | .vdot4 | .ffma | .fdot2 => true
  | _ => false

/-- The shape of a row of 0x40-0x75 in its ordinary form (R181, R185). -/
def aluShape (o : Op) : Shape :=
  { d := if o == .vcmp || o == .fcmp then .m else if o == .vbfi then .vReg else .v
    din := o == .vbfi
    a := if o == .vlane then .none else .v
    b := if aluReadsB o then .v else .none
    c := if o == .vsel then .m else if aluReadsC o then .v else .none
    rnd := floatReadsRnd o
    sat := intReadsSat o || floatReadsSat o }

/-- The shape of a sweep form (R132): D, A and B name X registers, C a uniform V register. -/
def sweepShape (o : Op) : Shape :=
  { d := .x, din := true, dout := false, a := .x
    b := if aluReadsB o then .x else .none
    c := if aluReadsC o then .vReg255 else .none
    rnd := floatReadsRnd o
    sat := intReadsSat o || floatReadsSat o }

/-- The operand shape of LD and ST by FORM (R227, R237). -/
def ldShape (store : Bool) (form : Nat) : Shape :=
  let data : Kind := if form = 0 then .x else if form = 4 then .p else .v
  { d := data, din := store, dout := !store, a := .p
    b := if form = 1 then .v else .x
    c := if form = 1 || form = 2 then .p255 else if form = 3 then .x else .none }

/-- Which fields an opcode reads and the kind of each, by its K6 where that matters. A form whose K6 is reserved reads what
its row here says, so that 0x0004 comes before the 0x0005 of the code where another field is not 0 (R127; DESIGN CHOICE,
log 88). Field value 255 as the base of a range of X registers is 0x0006 (R128, R273, R357; DEDUCED, log 94). -/
def shape (o : Op) (f : Fields) : Shape :=
  if isSweep o f then sweepShape o
  else if o.isAlu then aluShape o
  else match o with
  | .nop => { k6 := false, pred := false }
  | .movx => { d := .x, a := .x, k6 := false }
  | .movi => { d := .x, din := 2 ≤ f.k 1 0 }
  | .addx | .subx | .mulx | .andx | .orx | .xorx | .shlx | .shrx | .sarx | .rotx =>
      { d := .x, a := .x, b := .x, k6 := false }
  | .mulhx | .divx | .remx | .minx | .maxx | .cmpx | .bfex | .leax => { d := .x, a := .x, b := .x }
  | .selx | .madx => { d := .x, a := .x, b := .x, c := .x, k6 := false }
  | .clzx | .popx => { d := .x, a := .x, k6 := false }
  | .bfix => { d := .x, din := true, a := .x, b := .x, k6 := false }
  | .srr => { d := .x, a := .raw, k6 := false }
  | .srw => { d := .raw, dout := false, a := .x, k6 := false }
  | .vtox => { d := .x, a := .vReg255, b := .x }
  | .xtov => { d := .vReg255, a := .x, b := if f.form == .f32 then .none else .x, k6 := false }
  | .mtox => { d := .x, a := if f.k 1 0 = 0 then .m else .none }
  | .xtom => { d := .m, din := f.k 1 0 != 0, a := .x }
  | .bra => { d := .raw, a := .raw, pred := false }
  | .brc => { a := .x, pred := false }
  | .call => { d := .xReg, k6 := false, pred := false }
  | .ret | .jmpx => { a := .x, k6 := false, pred := false }
  | .ifM | .breakM | .cont | .endloop | .brdiv | .reconv => { a := .m, pred := false }
  | .elseM | .endif | .loop | .yield => { k6 := false, pred := false }
  | .exit => { k6 := false }
  | .sleep => { a := .x, b := if f.form == .f32 then .none else .x, k6 := false, pred := false }
  | .anym | .allm => { d := .x, a := if f.k 2 1 = 0 then .m else .none, pred := false }
  | .cvt =>
      let st := f.k 5 3
      let dt := f.k 2 0
      { d := .v, a := .v, rnd := st < 3 || dt < 3, sat := !(st < 3 && 3 ≤ dt) }
  | .pack => { d := .v, din := 2 ≤ f.k 2 0, a := .v, b := .v }
  | .unpk => { d := .v, a := .v }
  | .qamax => { d := .v, a := .v, c := .v }
  | .qexp => { d := .v, a := .v }
  | .qcvt => { d := .vReg, din := true, a := .v, b := .v, c := .cb255 }
  | .dqcvt => { d := .v, a := .v, b := .v, c := .cb255 }
  | .qtag => { d := .v, a := .v, b := if f.k 0 0 = 1 then .v else .none }
  | .cbld => { d := .cb, a := .p, b := .x, k6 := false }
  | .cblut => { d := .v, a := .v, b := .cb }
  | .cbenc => { d := .vReg, din := true, a := .v, b := .cb }
  | .chld => { d := .ch, a := .p, b := .x }
  | .chrun => { d := .v, a := .v, b := .v, c := .v }
  | .charg => { d := .x, din := true, dout := false, a := .x, c := .x, k6 := false }
  | .shfl | .shflup | .shfldn | .shflx => { d := .v, a := .v, b := .v, k6 := false }
  | .vote => { d := if f.k 1 0 = 0 then .m else .v, a := .v }
  | .reduce | .scan =>
      let add := f.k 5 3 = 0
      { d := .v, a := .v, rnd := add && f.k 1 0 = 2, sat := add }
  | .elect => { d := .m, k6 := false }
  | .matchL => { d := .v, a := .v }
  | .compress => { d := .v, din := true, a := .v, k6 := false }
  | .expand => { d := .v, din := true, a := .v, k6 := false }
  | .mmode => { d := if f.k 0 0 = 1 then .v else .none, din := true, dout := false }
  | .mxmul => { d := .v, din := true, a := .s, b := .s, k6 := false, sat := true }
  | .mxmulg => { d := .v, din := true, a := .s, b := .s, c := .vReg, k6 := false, sat := true }
  | .mxzero => { d := .v, k6 := false }
  | .mxscl =>
      { d := .v, din := true, a := if f.k 0 0 = 1 then .vReg else .none
        b := if f.k 1 1 = 1 then .vReg else .none, rnd := true, sat := true }
  | .mxout => { d := .v, din := true, dout := false, a := .p, b := .x, c := .p255 }
  | .mxamax => { d := .v, a := .v }
  | .ld => ldShape false (f.k 5 3)
  | .st => ldShape true (f.k 5 3)
  | .atom =>
      let k : Kind := if f.k 2 2 = 1 then .x else .v
      { d := k, a := .p, b := k, c := k }
  | .cas =>
      { d := if f.k 2 2 = 1 then .xReg else .vReg, din := true, a := .p
        b := if f.k 2 2 = 1 then .x else .v, c := if f.k 2 2 = 1 then .x else .v }
  | .pmake => { d := .p, a := .x, b := .x, c := .x, k6 := false }
  | .pderiv => { d := .p, a := .p, b := .x, c := .x }
  | .pscope => { d := .p, a := .p }
  | .pget => { d := .x, a := .p }
  | .padd => { d := .p, a := .p, b := .x, k6 := false }
  | .sdef => { d := .s, a := .xReg, b := .p, c := .p255, k6 := false }
  | .spos =>
      if f.k 1 0 = 2 then { d := .x, a := .s } else { d := .s, din := true, b := .x }
  | .pref => { a := .p, b := .x, c := .x }
  | .stbind => { d := .x, a := .p, b := .x, k6 := false }
  | .stunb => { a := .x, k6 := false }
  | .drld | .drst => { d := .tl, din := true, a := .xReg, b := .x, c := .p255, k6 := false }
  | .drcp => { d := .tl, din := true, a := .tl, b := .xReg, c := .p255, k6 := false }
  | .tlrset => { d := .tl, a := .xReg, k6 := false }
  | .feset => { a := .x, b := .x }
  | .gbar | .garv => { a := .g, k6 := false }
  | .gwait => { a := .g, k6 := false, pred := false }
  | .gqry => { d := .x, a := .g, k6 := false, pred := false }
  | .post | .migrate | .trap | .brk | .swcall =>
      { d := .raw, dout := false, a := .raw, k6 := false, pred := false }
  | .waitv => { d := .x, a := .p, b := .x, c := .x, pred := f.form != .f96 }
  | .gred => { d := .x, a := .x, b := .g }
  | .launch => { d := .x, a := .p, b := .x, k6 := false }
  | .rft => { k6 := false, pred := false }
  | .ssr => { d := .x, a := .raw, k6 := false, pred := false }
  | .ssw => { d := .raw, dout := false, a := .x, k6 := false, pred := false }
  | .tlbi => { a := if f.k 1 0 = 0 then .x else .none, pred := false }
  | .icinv =>
      { a := if f.k 0 0 = 0 then .x else .none, b := if f.k 0 0 = 0 then .x else .none }
  | .savec => { d := .x, a := .p, k6 := false, pred := false }
  | .restc => { a := .p, k6 := false, pred := false }
  | .cstatrc => { d := .x, pred := false }
  | .haltc => { a := .x, k6 := false, pred := false }
  | _ => {}

/-- ASTR is accepted where A is a V operand of a vector-slot instruction that R129, R198 and R219
name, and required in MXMUL and MXMULG (R250). -/
def allowsAstr (o : Op) (f : Fields) : Bool :=
  !isSweep o f && o.isVector && !o.isMatrix && (shape o f).a == .v

/-- BSCL is accepted where B is a V operand (R129, R219, R228), outside F96 literals (R125). -/
def allowsBscl (o : Op) (f : Fields) : Bool :=
  !isSweep o f && !o.isMatrix && (shape o f).b == .v && f.form != .f96

/-- BSTR is accepted where B is a V operand of a vector-slot instruction (R129, R228). -/
def allowsBstr (o : Op) (f : Fields) : Bool := allowsBscl o f && o.isVector

/-- HOLD is accepted in vector-slot F64 and F96 forms whose A is a V operand (R70, R129). -/
def allowsHold (o : Op) (f : Fields) : Bool := allowsAstr o f

/-- The operand kind of A after ASTR (R129). -/
def kindA (o : Op) (f : Fields) : Kind :=
  if f.astr && allowsAstr o f then .s else (shape o f).a

/-- The operand kind of B after BSCL and BSTR, and of an F96 literal (R125, R129). With both set, which 0x0007 refuses, the
field is judged as an X (DESIGN CHOICE, log 88). -/
def kindB (o : Op) (f : Fields) : Kind :=
  if isSweep o f then (shape o f).b
  else if f.form == .f96 then .none
  else if f.bscl && allowsBscl o f then .x
  else if f.bstr && allowsBstr o f then .s
  else (shape o f).b

/-- Whether a sub-operation code in K6, and with it LIT32 where a rule reserves bits of it, is one
that the opcode accepts (R130, R181, R185 and the encoding tables). -/
def k6Ok (o : Op) (f : Fields) : Bool :=
  let k := f.k6.toNat
  let ew := f.k 1 0
  let sgn := f.k 2 2
  let sub3 := f.k 5 3
  let ty := f.k 1 0
  let sub4 := f.k 5 2
  let lithi := f.lit.toNat / 65536
  match o with
  | .vadd | .vsub | .vmul | .vmulh | .vmad | .vmin | .vmax => sub3 == 0 && ew < 3
  | .vabs | .vneg | .vshl | .vshr | .vsar | .vpop | .vclz => sub3 == 0 && sgn == 0 && ew < 3
  | .vand | .vor | .vxor | .vnot | .vbfi | .vsel | .vmov | .vlane => k == 0
  | .vbfe => sub3 == 0 && ew == 0
  | .vcmp => sub3 < 6 && ew == 0
  | .vdot4 => sub3 == 0 && ew == 2
  | .fcmp => sub4 < 8 && ty == 0
  | .fclass => k == 0
  | .fdot2 => sub4 == 0 && (ty == 1 || ty == 2)
  | .mulhx | .divx | .remx | .minx | .maxx | .bfex | .vtox => k < 2
  | .cmpx => k < 16 && f.k 2 0 < 6
  | .leax => k < 16
  | .movi => k < 3
  | .mtox => k < 3
  | .xtom => k < 4
  | .brc => k < 4
  | .ifM | .brdiv | .reconv => k < 2
  | .breakM | .cont | .endloop => k < 2 && lithi == 0
  | .loop => lithi == 0
  | .anym | .allm => k < 8 && f.k 2 1 < 3
  | .cvt =>
      f.k 5 3 < 5 && f.k 2 0 < 5 && !(3 ≤ f.k 5 3 && f.k 5 3 == f.k 2 0)
  | .pack =>
      let nf := f.k 2 0
      f.k 5 5 == 0 && nf < 7
        && (if nf < 2 then f.k 4 3 == 0 else if nf == 4 || nf == 6 then true else f.k 4 3 < 2)
  | .unpk =>
      let nf := f.k 2 0
      nf < 7 && (if nf < 2 then f.k 5 3 < 2 else if nf == 4 || nf == 6 then true else f.k 5 3 < 4)
  | .qamax => k < 8 && f.k 1 0 < 3
  | .qexp => f.k 5 3 < 6 && (f.k 5 3 == 5 || f.k 2 0 == 0)
  | .qcvt => f.k 3 3 == 0
  | .dqcvt => f.k 3 3 == 0 && f.k 5 5 == 0
  | .qtag => f.k 5 3 < 6 && f.k 2 1 == 0
  | .cblut | .cbenc => k < 8
  | .chld | .chrun => k < 16
  | .charg => f.lit.toNat / 16777216 == 0
  | .vote => k < 4
  | .reduce => f.k 2 2 == 0 && f.k 5 3 < 6 && f.k 1 0 < 3 && !(3 ≤ f.k 5 3 && f.k 1 0 == 2)
  | .scan => f.k 5 3 < 6 && f.k 1 0 < 3 && !(3 ≤ f.k 5 3 && f.k 1 0 == 2)
  | .matchL => k < 2
  | .mmode => k < 4 && k != 2
  | .mxscl => k < 4
  | .mxout => k < 8 && f.k 2 1 < 3
  | .mxamax => k < 2
  | .ld => f.k 5 3 < 5 && f.k 2 1 < 3 && (f.k 0 0 == 0 || f.k 5 3 == 3)
  | .st => f.k 5 3 < 5 && f.k 5 3 != 3 && f.k 2 0 == 0
  | .atom => f.k 5 3 < 7 && f.k 1 0 == 0
  | .cas => f.k 5 3 == 0 && f.k 1 0 == 0
  | .pderiv =>
      let n := f.k 4 0
      if f.k 5 5 == 0 then n == 0 else n != 0x0F && n < 0x1B
  | .pscope => f.k 0 0 == 0 && f.k 5 3 != 6
  | .pget => k < 5
  | .spos => k < 3
  | .pref | .feset => k < 2
  | .waitv => k < 16 && f.k 2 0 < 6
  | .gred => f.k 2 2 == 0 && f.k 5 3 < 6 && !(3 ≤ f.k 5 3 && f.k 1 0 == 2)
  | .tlbi => k < 3
  | .icinv => k < 2
  | .cstatrc => k < 8
  | _ => if o.isAlu then sub4 == 0 && ty < 3 else true

/-- Opcodes whose K6 is part of a wider field or of no check (BRA's OFF22, R166). -/
def k6Raw : Op → Bool
  | .bra => true
  | _ => false

/-- ENCODING 0x0003 beyond the opcode's formats: a sweep form of an opcode without one, X31 in an F64
form of 0x40-0x75, an F96 form of a row that reads no B and is no sweep, a literal in a form that
takes a V index, and a literal in SPOS.rd (R125, R132, R196, R228, R357). -/
def formBreach (o : Op) (f : Fields) : Bool :=
  (o.isAlu && f.x31 && (f.form == .f64 || (f.form == .f96 && o.noSweep)))
    || (o.isAlu && f.form == .f96 && !f.x31 && !aluReadsB o)
    || (f.form == .f96 && ((o == .ld || o == .st) && f.k 5 3 == 1))
    || (f.form == .f96 && ((o == .atom || o == .cas) && f.k 2 2 == 0))
    || (f.form == .f96 && o == .spos && f.k 1 0 == 2)

/-- ENCODING 0x0004: a field that the instruction does not read holds a value other than its default
(R127). -/
def defaultBreach (o : Op) (f : Fields) : Bool :=
  let s := shape o f
  (s.d == .none && f.d != 0) || (s.a == .none && f.a != if o == .mxscl then 255 else 0)
    || (s.b == .none && f.b != 255) || (s.c == .none && f.c != 255)
    || (f.form == .f96 && !isSweep o f && f.b != 255)
    || (!s.k6 && !k6Raw o && f.k6 != 0)
    || (!s.rnd && f.rnd != 0) || (!s.sat && f.sat != 0)
    || (!s.pred && f.pen) || (!f.pen && (f.psel != 0 || f.pneg))

/-- ENCODING 0x0005: a reserved code in K6, RND, SAT or LIT32. -/
def codeBreach (o : Op) (f : Fields) : Bool :=
  !k6Ok o f || 6 ≤ f.rnd.toNat || f.sat == 3

/-- The value space of an operand kind (R128). -/
def Kind.admits (k : Kind) (n : Nat) : Bool :=
  match k with
  | .none | .raw | .v => true
  | .vReg => n < 252
  | .vReg255 => n < 252 || n == 255
  | .x => n < 64 || n == 255
  | .xReg => n < 64
  | .m => n < 8
  | .p => n < 32
  | .p255 => n < 32 || n == 255
  | .s => n < 16
  | .g => n < 4
  | .cb | .tl => n < 8
  | .cb255 => n < 8 || n == 255
  | .ch => n < 16

/-- ENCODING 0x0006: an operand value outside its kind's space, or outside the narrower set that the
instruction states; ITER = 0 of a sweep (R128, R132, R162, R163, R183, R198, R250). -/
def spaceBreach (o : Op) (f : Fields) : Bool :=
  let s := shape o f
  !s.d.admits f.d.toNat || !(kindA o f).admits f.a.toNat || !(kindB o f).admits f.b.toNat
    || !s.c.admits f.c.toNat
    || (isSweep o f && f.lit.toNat % 4096 == 0)
    || (o == .charg && !Kind.x.admits (bits f.lit 7 0))

/-- ENCODING 0x0007: HOLD, ASTR, BSCL or BSTR against its rule, or BSCL and BSTR both 1 (R129, R250). -/
def flagBreach (o : Op) (f : Fields) : Bool :=
  let needStr := o == .mxmul || o == .mxmulg
  (f.hold != 0 && !allowsHold o f)
    || (if needStr then !f.astr || !f.bstr || f.bscl
        else if o == .mxout then f.astr || f.bstr || !f.bscl
        else (f.astr && !allowsAstr o f) || (f.bscl && !allowsBscl o f) || (f.bstr && !allowsBstr o f)
          || (f.bscl && f.bstr))

/-- Is `n` a latch value in a V operand? -/
def isLatch (n : Nat) : Bool := 252 ≤ n && n ≤ 254

/-- ENCODING 0x0008: a latch value in a V operand of a scalar-slot instruction (R66). -/
def latchBreach (o : Op) (f : Fields) : Bool :=
  let s := shape o f
  !o.isVector
    && ((s.d == .v && isLatch f.d.toNat) || (kindA o f == .v && isLatch f.a.toNat)
      || (kindB o f == .v && isLatch f.b.toNat) || (s.c == .v && isLatch f.c.toNat))

/-- ENCODING 0x0009: X31 = 1 where the instruction gives it no meaning (R124, R132). -/
def x31Breach (o : Op) (f : Fields) : Bool := f.x31 && !o.isAlu && !o.isCrossLane

/-- The first ENCODING code, 0x0003-0x0009, that the instruction's words alone break (R354, R357). -/
def encodingBreach (o : Op) (f : Fields) : Option Nat :=
  if formBreach o f then some 3
  else if defaultBreach o f then some 4
  else if codeBreach o f then some 5
  else if spaceBreach o f then some 6
  else if flagBreach o f then some 7
  else if latchBreach o f then some 8
  else if x31Breach o f then some 9
  else none

end Sys2Proof.Machine
end

