-- ==== Sys2Proof/WellFormed.lean ====
section
/-! DEFINITION. Well-formed instructions: those that no ENCODING check on the instruction's words alone
refuses (R127, R128, R354, R357). An instruction that is not well formed is decoded and then raises the
ENCODING trap that the check names; it never has any other effect. -/

namespace Sys2Proof

open Sys2Proof.Machine

/-- The ENCODING code that the instruction's words break, if any; an event has no encoding. -/
def Instr.breach (i : Instr) : Option Nat :=
  match view i with
  | some (o, f) => encodingBreach o f
  | none => none

/-- The instruction's words break no ENCODING check. -/
def Instr.wellFormed (i : Instr) : Bool := i.breach.isNone

end Sys2Proof
end

