-- ==== Sys2Proof/Decode.lean ====
section
/-! DEFINITION. From the words of an image to an instruction and back (R122-R125, R133, R134). -/

namespace Sys2Proof

open Sys2Proof.Machine

/-- Why the words at the PC are no instruction form of the opcode table. -/
inductive Reject where
  /-- LEN = 0b11: never an instruction (R122, R356). -/
  | lenCode
  /-- An OPC that R134 lists (R356). -/
  | unassigned
  /-- A format that the opcode does not accept: ENCODING 0x0003 (R125, R357). -/
  | format
  /-- VSEL in F32, whose C = 255 names no mask: ENCODING 0x0006, or 0x0005 first when K6 is not 0
  (R176, R183, R357). -/
  | vselF32
  /-- Fewer bytes than the instruction's length: the fetch of the missing word decides (R356). -/
  | truncated
  deriving DecidableEq, Repr

/-- Field K6, A and D of word 0 (R123). -/
def W0.ofWord (w : Word) : W0 :=
  { k6 := w.extractLsb' 26 6, a := w.extractLsb' 18 8, d := w.extractLsb' 10 8 }

/-- The fields of word 1 (R124). -/
def W1.ofWord (w : Word) : W1 :=
  { x31 := w.getLsbD 31, bstr := w.getLsbD 30, bscl := w.getLsbD 29, astr := w.getLsbD 28
    hold := w.extractLsb' 26 2, sat := w.extractLsb' 24 2, rnd := w.extractLsb' 21 3
    pneg := w.getLsbD 20, psel := w.extractLsb' 17 3, pen := w.getLsbD 16
    c := w.extractLsb' 8 8, b := w.extractLsb' 0 8 }

/-- Bit `b` as a one-bit field. -/
def bit1 (b : Bool) : BitVec 1 := BitVec.ofBool b

/-- Word 0 from its fields: K6 [31:26], A [25:18], D [17:10], OPC [9:2], LEN [1:0] (R123). -/
def W0.toWord (w : W0) (opc : BitVec 8) (len : BitVec 2) : Word :=
  w.k6 ++ (w.a ++ (w.d ++ (opc ++ len)))

/-- Word 1 from its fields (R124). -/
def W1.toWord (w : W1) : Word :=
  bit1 w.x31 ++ (bit1 w.bstr ++ (bit1 w.bscl ++ (bit1 w.astr ++ (w.hold ++ (w.sat ++ (w.rnd ++
    (bit1 w.pneg ++ (w.psel ++ (bit1 w.pen ++ (w.c ++ w.b))))))))))

/-- The LEN field of a first word (R122). -/
def lenField (w : Word) : Nat := w.toNat % 4

/-- The OPC field of a first word (R123). -/
def opcField (w : Word) : Nat := w.toNat / 4 % 256

/-- The format that a first word's LEN names (R122). -/
def formOf (w : Word) : Option Form :=
  match lenField w with
  | 0 => some .f32
  | 1 => some .f64
  | 2 => some .f96
  | _ => none

/-- The answer for an opcode whose description does not accept the format. -/
def orFormat (r : Option Instr) (e : Reject) : Except Reject Instr :=
  match r with
  | some i => .ok i
  | none => .error e

/-- The instruction form whose words begin the list. Only the first word decides the length and the
opcode (R122). -/
noncomputable def decode : List Word → Except Reject Instr
  | [] => .error .truncated
  | w :: rest =>
    match formOf w with
    | none => .error .lenCode
    | some form =>
      match Op.ofCode (opcField w) with
      | none => .error .unassigned
      | some o =>
        match form, rest with
        | .f32, _ => orFormat (instrF32 (W0.ofWord w) o) (if o == .vsel then .vselF32 else .format)
        | .f64, w1 :: _ => orFormat (instrF64 (W0.ofWord w) (W1.ofWord w1) o) .format
        | .f96, w1 :: lit :: _ =>
            orFormat (instrF96 (W0.ofWord w) (W1.ofWord w1) lit o) .format
        | _, _ => .error .truncated

/-- LEN of a format (R122). -/
def Machine.Form.code : Form → BitVec 2
  | .f32 => 0
  | .f64 => 1
  | .f96 => 2

/-- Word 0 of the fields. -/
def Machine.Fields.word0 (o : Op) (f : Fields) : Word :=
  W0.toWord { k6 := f.k6, a := f.a, d := f.d } (BitVec.ofNat 8 o.code) f.form.code

/-- Word 1 of the fields. -/
def Machine.Fields.word1 (f : Fields) : Word :=
  W1.toWord { x31 := f.x31, bstr := f.bstr, bscl := f.bscl, astr := f.astr, hold := f.hold
              sat := f.sat, rnd := f.rnd, pneg := f.pneg, psel := f.psel, pen := f.pen
              c := f.c, b := f.b }

/-- The words of an instruction form, from the lowest address; an event has none. -/
def encode (i : Instr) : List Word :=
  match view i with
  | none => []
  | some (o, f) =>
    match f.form with
    | .f32 => [f.word0 o]
    | .f64 => [f.word0 o, f.word1]
    | .f96 => [f.word0 o, f.word1, f.lit]

/-- The four bytes of a word, lowest address first (R4). -/
def wordBytes (w : Word) : List Byte :=
  [w.extractLsb' 0 8, w.extractLsb' 8 8, w.extractLsb' 16 8, w.extractLsb' 24 8]

/-- The words of an instruction given as one number, its first word in bits 31-0: three words, those
above the instruction's length 0. -/
def tableWords (w : Nat) : List Word :=
  [BitVec.ofNat 32 w, BitVec.ofNat 32 (w / 2 ^ 32), BitVec.ofNat 32 (w / 2 ^ 64)]

/-- The instruction that the decoder reads from an instruction whose bits are `w`, numbered as the
opcode table numbers them; every bit above `nbits` is 0. -/
noncomputable def decodeTableWord (nbits w : Nat) : Option Instr :=
  match decode (tableWords (w % 2 ^ nbits)) with
  | .ok i => some i
  | .error _ => none

end Sys2Proof
end

