-- ==== Sys2Proof/Machine/Memory.lean ====
section
/-! DEFINITION. Byte memories as lists of cells with strictly rising addresses. `Memory` is Lunath: a cell
that reads 0 is not listed. Wider accesses are little-endian (R4). -/

namespace Sys2Proof.Machine

open Sys2Proof

/-- The listed byte at an address. -/
def cellAt : List Host.Cell → Nat → Option Byte
  | [], _ => none
  | (b, v) :: t, a => if b = a then some v else if b < a then cellAt t a else none

/-- List a byte at an address. -/
def putCell : List Host.Cell → Nat → Byte → List Host.Cell
  | [], a, v => [(a, v)]
  | (b, w) :: t, a, v =>
    if b = a then (a, v) :: t else if b < a then (b, w) :: putCell t a v else (a, v) :: (b, w) :: t

/-- Unlist an address. -/
def eraseCell : List Host.Cell → Nat → List Host.Cell
  | [], _ => []
  | (b, w) :: t, a => if b = a then t else if b < a then (b, w) :: eraseCell t a else (b, w) :: t

/-- What an unlisted byte of Lunath reads as (log 2: the manual gives no contents at reset). -/
def Memory.unlisted : Byte := 0#8

/-- One byte of Lunath. -/
def Memory.read (m : List Host.Cell) (a : Nat) : Byte := (cellAt m a).getD Memory.unlisted

/-- Write one byte of Lunath. -/
def Memory.write (m : List Host.Cell) (a : Nat) (v : Byte) : List Host.Cell :=
  if v = Memory.unlisted then eraseCell m a else putCell m a v

/-- Write bytes from an address on. -/
def Memory.writeBytes : List Host.Cell → Nat → List Byte → List Host.Cell
  | m, _, [] => m
  | m, a, v :: t => Memory.writeBytes (Memory.write m a v) (a + 1) t

/-- Every listed address is above `a`. -/
def cellsAbove (a : Nat) (m : List Host.Cell) : Bool := m.all (fun c => a < c.1)

/-- Addresses rise strictly. -/
def cellsRise : List Host.Cell → Bool
  | [] => true
  | c :: t => cellsAbove c.1 t && cellsRise t

/-- The canonical form: strictly rising addresses, and no cell that reads as an unlisted address. -/
def Memory.wf (m : List Host.Cell) : Bool := cellsRise m && m.all (fun c => c.2 != Memory.unlisted)

/-- Bytes as a little-endian number. -/
def leNat : List Byte → Nat
  | [] => 0
  | b :: t => b.toNat + 256 * leNat t

/-- A number as `n` little-endian bytes. -/
def natLe : Nat → Nat → List Byte
  | 0, _ => []
  | n + 1, v => BitVec.ofNat 8 v :: natLe n (v / 256)

/-- `n` bytes of Lunath from an address on. -/
def Memory.readBytes (m : List Host.Cell) (a n : Nat) : List Byte :=
  (List.range n).map (fun i => Memory.read m (a + i))

end Sys2Proof.Machine
end

