-- ==== Sys2Proof/Config.lean ====
section
/-! DEFINITION. What an implementation fixes and what the manual leaves open. The free values are
opaque constants without a body: nothing can evaluate them, so a statement that holds of the model holds
whatever they are. The first argument of each is a counter of the state, the second says which of the
values delivered at that moment is meant. -/

namespace Sys2Proof.Config

open Sys2Proof

/-- A free choice between two outcomes that the manual allows (R7, R95, R303, R304). -/
opaque freeBool : Nat → Nat → Bool

/-- An undefined 64-bit value (R3). -/
opaque freeDWord : Nat → Nat → DWord

/-- An undefined natural number (R3): tags and lengths. -/
opaque freeNat : Nat → Nat → Nat

/-- A byte of a local store that nothing has written since the region was placed (R96): the stamp of
the placement, then the address. -/
opaque scratchByte : Nat → Nat → Byte

/-- The public key, as the ROM finds it in what the host has written into the mailbox and the aperture (Lunath): the manual
gives no layout (R325; log 74). -/
opaque bootKey : List (Nat × Byte) → List (Nat × Byte) → List Byte

/-- The fused digest of the public key (R325). -/
opaque fusedDigest : List Byte

/-- The modulus and the exponent of a public key, whose encoding the manual does not give (R325). -/
opaque keyModulus : List Byte → Nat
opaque keyExponent : List Byte → Nat

/-- The fuse map, whose layout the manual does not give: it follows from the cores whose upper local store is fused off
(R13, R326). -/
opaque fuseMap : List Nat → List Byte

/-- The watchdog limit that the steward of a firmware image writes at boot, if it writes one (R375). -/
opaque bootWdog : List Byte → Option (BitVec 32)

/-- Has the host resized BAR2 to 1 TiB (R320)? -/
opaque bar2Resized : Bool

/-- The device serial number, 16 bytes (R326). -/
opaque serialByte : Nat → Byte

/-- The device attestation key: its modulus and its private exponent (R326). -/
opaque attestModulus : Nat
opaque attestExponent : Nat

/-- The internal die order of R56: a die's rank among dies that equally many launches use. -/
opaque dieRank : Nat → Nat

/-- Does the driver set half 1 of the last coach of each crew of a launch as exited, its crews having an odd number of
Fupen coaches (R117; log 41)? The manual gives it no field of the waybill. -/
opaque oddCrews : List DWord → Bool

/-- The steward's threshold (R353): does a block whose corrected errors came at these ticks, the latest first, have a rate
above it? -/
opaque rateAbove : List Nat → Bool

/-- LEASE 0 selects this many ticks (R43). -/
def defaultLease : Nat := 10

/-- FTMO 0 selects this many ticks (R321). -/
def defaultFtmo : Nat := 2734

/-- Reference cycles in a tick (R5). -/
def tickCycles : Nat := 256

/-- WDOG after reset (R375). -/
def wdogReset : Nat := 0x01A13B86

/-- BACKOFF after reset (R60). -/
def backoffReset : DWord := 0x00103008#64

/-- MODE after reset (R76). -/
def modeReset : DWord := 0x41#64

/-- Ticks of unbroken NACKs that exhaust a replay (R374). -/
def replayLimit : Nat := 65536

/-- Entries that a replay window holds (R59). -/
def windowSize : Nat := 16

/-- Ticks that a gang of a pre-empting queue waits before pre-emption (R54). -/
def preemptWait : Nat := 64

/-- On-chip entries of a divergence stack (R31). -/
def onChip : Nat := 16

end Sys2Proof.Config
end

