-- ==== Sys2Proof/Machine/State.lean ====
section
/-! DEFINITION. The state of the package: everything the manual gives the machine, as plain data. Sparse
parts (cores, lines, memories) are lists in which an absent entry has the value it has after reset. -/

namespace Sys2Proof.Machine

open Sys2Proof

/-- Where the model stops with a fault. -/
inductive Fault where
  /-- A coach's instruction is executed while no coach has been selected to issue: only a state that no
  step reaches. Raised by `issue`; safe. -/
  | noCoachSelected
  deriving DecidableEq, Repr

/-- Where the model refuses. -/
inductive Refusal where
  /-- An instruction without a meaning, by its mnemonic. Raised by the dispatch only; safe. -/
  | notModelled (mnemonic : String)
  deriving DecidableEq, Repr

/-- A vector register with its shape tag (R67): U one word, A base and stride, G a word a lane. -/
inductive VReg where
  | u (base : Word)
  | a (base stride : Word)
  | g (words : List Word)
  deriving DecidableEq, Repr

/-- One divergence-stack entry (R27). -/
structure Entry where
  ph : Bool
  slot : Nat
  kind : Nat
  rpc : DWord
  mask : DWord
  pc : DWord
  deriving DecidableEq, Repr

/-- A pending contribution CONT to a group reduction: OP, TY and the value so far (R286); `mixed`:
GREDs of one phase differed in OP or TY (R381). -/
structure Contribution where
  op : Nat
  ty : Nat
  value : DWord
  mixed : Bool
  deriving DecidableEq, Repr

/-- A GRED whose path is held: the number of its entry from the bottom of the stack, its slot, the phase parity it
arrived in, the destination register and, once the phase has completed, the result to write when the path continues
(R286). -/
structure GredPending where
  entry : Nat
  slot : Nat
  ph : Bool
  xd : Nat
  result : Option DWord
  deriving DecidableEq, Repr

/-- The prefix that an issued CHARG leaves for the next instruction (R214, R364). -/
structure ChargPrefix where
  pc : DWord
  w0 : W0
  w1 : W1
  lit : BitVec 32
  deriving DecidableEq, Repr

/-- Where a byte lies. -/
inductive Loc where
  | lunath (addr : Nat)
  | store (core : CoreId) (addr : Nat)
  | host (addr : Nat)
  | peer (va : Nat)
  deriving DecidableEq, Repr

/-- What a coach waits for (R40, R377). The PC stays on the waiting instruction. -/
inductive Wait where
  /-- Not waiting. -/
  | ready
  /-- At GBAR or GRED of `len` bytes under `act`: `arrived` tells the arrival that completes the phase from a path that
  could not be held (R37); `xd`: the destination of a GRED. -/
  | barrier (slot len : Nat) (arrived : Bool) (xd : Option Nat) (act : DWord)
  /-- In the pop rule, on a held entry (R29). -/
  | held
  /-- At GWAIT (R285). -/
  | gwait (slot : Nat)
  /-- In LD on full-empty bits: the load and the granules it touches, lowest first (R102). -/
  | fe (f : Fields) (granules : List (CoreId × Nat))
  /-- In WAITV since a tick (R288). -/
  | waitv (f : Fields) (start : Nat)
  /-- In SLEEP until a tick; the SLEEP's length in bytes (R174). -/
  | sleep (until_ len : Nat)
  /-- At MIGRATE n (R113). -/
  | migrate (n : BitVec 16)
  /-- For a TL slot that another coach owns (R269). -/
  | tlSlot (slot owner : Nat)
  /-- For the grid (`true`) or the dray engine of its core (R255, R274). -/
  | engine (grid : Bool)
  /-- For an SWCALL to return (R290). -/
  | swcall (n : BitVec 16)
  /-- For its own matrix instruction, which the next one must follow (R81, R255, R344). -/
  | ownGrid
  /-- Its own dray command is running, with the source's record as read at issue (R272, R274). -/
  | dray (o : Op) (f : Fields) (record : List DWord)
  /-- For responses of the fabric or of the host (R319, R395). -/
  | remote
  /-- At TLBI, for the matrix instructions in flight of a context, or of any (R292). -/
  | products (ctx : Option (BitVec 8))
  /-- On a full replay window: 0 coach to memory, 1 dray to network, 2 core to reeve (R59). -/
  | window (join : Nat)
  /-- Only as a suspended wait: what was awaited has happened while the handler ran, so the coach continues
  after the waiting instruction of `len` bytes, with these X registers written, and under its own act at a barrier
  (R37, R378). -/
  | ended (len : Nat) (writes : List (Nat × DWord)) (act : Option DWord)
  deriving DecidableEq, Repr

/-- Bytes that a response brought back, by the key of the request: a virtual line address, or a lane
for an atomic (R319, R395); or the mark of a write that the instruction has sent (R59). -/
structure Answer where
  key : Nat
  bytes : List Byte
  /-- The access was performed: it has neither timed out nor failed (R319, R395). -/
  good : Bool := true
  /-- The data cache may keep the bytes: the core has written no host memory since the read was sent (R104, R234). -/
  keep : Bool := true
  deriving DecidableEq, Repr

/-- The rows (or columns) of an operand of a matrix instruction: where their elements and scale bytes lie, as the
instruction found them at its issue, row after row (R257, R389). -/
structure Panel where
  rows : List Nat
  data : List Loc
  scales : List Loc
  deriving DecidableEq, Repr

/-- A matrix instruction on the grid (R61, R255, R260): its place, MODE as captured (R77), the two panels, the answers
for their remote bytes, the next position in K and the end, both in elements, the cycle of its next step, and whether a
later instruction of the coach has issued. -/
structure GridWork where
  o : Op
  f : Fields
  pc : DWord
  mode : DWord
  a : Panel
  b : Panel
  answers : List Answer
  /-- What a record of a trap at the product shows of the coach as it issued it: CM, RPC, the depth and LPOST (R344,
  R347). -/
  cm : DWord
  rpc : DWord
  depth : Nat
  lpost : Option (BitVec 16)
  /-- Position in K where the panels' lists begin. -/
  k0 : Nat
  k : Nat
  kEnd : Nat
  next : Nat
  moved : Bool
  deriving DecidableEq, Repr

/-- A slot (the vector slot: `true`) in which a YIELD keeps its coach from issuing: how often the core had issued in it,
and the cycle of the YIELD (R173). -/
structure Yielded where
  vector : Bool
  issued : Nat
  cycle : Nat
  deriving DecidableEq, Repr

/-- A resident coach (R24, R65-R85, R112, R285). -/
structure Coach where
  id : CoachId
  core : CoreId
  /-- The executing image: 0 wain, 1 gig (R116). -/
  image : Nat
  /-- W (R21). -/
  width : Nat
  /-- Fupen compatibility packing is in effect (R117, R119). -/
  cmp16 : Bool
  pc : DWord
  cm : DWord
  ex : DWord
  /-- All ones: none. -/
  rpc : DWord
  al : List DWord
  arr : List Bool
  cont : List (Option Contribution)
  /-- The contributions of the phases that the coach has arrived at (R286). -/
  sent : List (Option Contribution)
  v : List VReg
  x : List DWord
  p : List (BitVec 128)
  str : List (BitVec 384)
  m : List DWord
  mode : DWord
  cstat : DWord
  mxs : DWord
  g : List (BitVec 9)
  /-- The on-chip entries, newest first (R31). -/
  stack : List Entry
  /-- Depth d, spilled entries included. -/
  depth : Nat
  /-- The model's own: the entries in the spill area, newest first, to tell whether software has changed it (R32,
  R373). -/
  spilled : List Entry
  lor : List (Option Nat)
  lpost : Option (BitVec 16)
  /-- The post ID when the last issued instruction was POST (R366). -/
  lastPost : Option (BitVec 16)
  charg : Option ChargPrefix
  wdc : Nat
  wait : Wait
  /-- The wait that a WATCHDOG trap interrupted, with its PC (R378). -/
  suspended : Option (DWord × Wait)
  gred : List GredPending
  answers : List Answer
  /-- Answers for the instruction whose wait for them a WATCHDOG trap interrupted (R378, R402). -/
  heldAnswers : List Answer
  /-- The coach's matrix instruction in flight (R255). -/
  grid : Option GridWork
  yields : List Yielded
  /-- The cycles at which the coach last issued in the scalar and in the vector slot (R58). -/
  lastScalar : Nat
  lastVector : Nat
  /-- The coach has retired (R29). -/
  retired : Bool
  deriving DecidableEq, Repr

/-- A codebook slot: loaded, and 16 BF16 entries (R152, R363). -/
structure CbSlot where
  loaded : Bool
  entries : List (BitVec 16)
  deriving DecidableEq, Repr

/-- A chain slot: loaded, and its micro-ops (R138, R363). -/
structure ChSlot where
  loaded : Bool
  ops : List Word
  deriving DecidableEq, Repr

/-- A tensor layout record slot: twelve words, the progress word, and the address of the command in
progress (R267, R269, R270). -/
structure TlSlot where
  loaded : Bool
  words : List DWord
  busy : Bool
  own : Nat
  lines : Nat
  command : DWord
  /-- The command was stopped by a trap, and its coach's handler has not returned to it (R270). -/
  trapped : Bool
  deriving DecidableEq, Repr

/-- A 128-byte line of a stash binding that is present (R99). -/
structure StashLine where
  entry : Nat
  /-- Line of the binding, from 0. -/
  line : Nat
  /-- Lunath line it holds. -/
  home : Nat
  dirty : Bool
  deriving DecidableEq, Repr

/-- A resident crew (R21, R96, R98, R209, R213, R267). -/
structure Crew where
  q : BitVec 6
  gang : Nat
  crew : Nat
  core : CoreId
  /-- First byte of the crew's region in the local store. -/
  base : Nat
  /-- The first of the crew's window of NG consecutive named barriers of its core (R35). -/
  barrier : Nat
  scratch : Nat
  /-- LSCAP.UP at placement (R97, R410). -/
  up : Bool
  /-- Names the undefined contents of the region (R96). -/
  stamp : Nat
  stash : List (BitVec 128)
  lines : List StashLine
  cb : List CbSlot
  ch : List ChSlot
  tl : List TlSlot
  deriving DecidableEq, Repr

/-- Where a gang stands. -/
inductive GangStatus where
  | resident
  /-- Its coaches stop issuing for pre-emption (R62). -/
  | stopping
  /-- Saved, waiting to resume (R64). -/
  | saved
  deriving DecidableEq, Repr

/-- What of a coach the save slot has no place for and a resume restores (R62, R64): the coach as it was
saved, of which a resume takes the arrivals, the contributions, the results still to be written and the
waits; and the TL slots with a stopped command of the coach, each with its address (R270). -/
structure CoachSide where
  coach : Coach
  commands : List (Nat × DWord × Bool)
  deriving DecidableEq, Repr

/-- A run of consecutive positions (R9). -/
structure Run where
  die : BitVec 3
  cluster : BitVec 3
  first : Nat
  deriving DecidableEq, Repr

/-- A gang that has been placed and has not retired (R21, R35, R39, R63). -/
structure Gang where
  q : BitVec 6
  index : Nat
  step : Nat
  run : Run
  /-- The order of placement (R54). -/
  placedAt : Nat
  status : GangStatus
  /-- Parity of the current phase of each group, group g in bit g. -/
  parity : BitVec 256
  atPost : Bool
  /-- The run that a granted migration reserves (R382). -/
  reserved : Option Run
  /-- The tick at which a saved gang began to wait for a run (R54). -/
  waitSince : Nat
  side : List CoachSide
  /-- The model's own: what the save slot held when the gang was saved, by offset, to tell what software has changed
  (R384). -/
  image : List (Nat × List Byte)
  /-- The model's own: groups whose phase is due with GREDs that do not agree, and the member whose arrival completed it
  (R381). -/
  mixed : List (Nat × CoachId) := []
  deriving DecidableEq, Repr

/-- A post table entry and its state map (R110, R111). -/
structure Post where
  id : BitVec 16
  wst : Nat
  gst : Nat
  wpc : Nat
  gpc : Nat
  /-- Kind, wain register, gig register. -/
  map : List (Nat × Nat × Nat)
  deriving DecidableEq, Repr

/-- How a launch ends (R349-R351). -/
structure Terminal where
  status : Nat
  /-- The terminal record, where the event has one. -/
  record : Option (List Byte)
  deriving DecidableEq, Repr

/-- Phases of a launch. -/
inductive LaunchPhase where
  /-- Taken, waiting for MINDIE healthy dies (R56). -/
  | taken
  | running
  /-- Every step has retired: the completion word is due (R48). -/
  | ending
  deriving DecidableEq, Repr

/-- A launch, from the taking of its waybill to its end (R43-R57, R323). -/
structure Launch where
  q : BitVec 6
  waybill : List DWord
  header : List DWord
  posts : List Post
  /-- Member sets of the groups (R33). -/
  groups : List (BitVec 512)
  ctx : BitVec 8
  sec : Bool
  root : Nat
  fctx : BitVec 16
  part : BitVec 9
  phase : LaunchPhase
  dies : BitVec 8
  step : Nat
  stepsDone : Nat
  /-- The first gang of the step that has not been placed, and since when it waits. -/
  nextGang : Nat
  waitSince : Nat
  /-- The cluster that last received a gang, die × 6 + cluster (R55). -/
  lastCluster : Option Nat
  terminal : Option Terminal
  /-- A PREEMPT request is served for it (R322). -/
  preempting : Bool
  /-- The cluster that the scheduler clears for its waiting gang (R54). -/
  claim : Option Nat
  /-- The queue's next waybill was already published when the current step started placement (R57). -/
  nextReady : Bool
  /-- The next kernel has been prefetched (R57). -/
  prefetched : Bool
  deriving DecidableEq, Repr

/-- A launch queue's register block and what the scheduler has seen (R49-R52). -/
structure Queue where
  qbase : DWord
  qcfg : DWord
  qpub : DWord
  qcons : DWord
  err : Bool
  /-- The publish word as the watch list last saw it. -/
  seen : DWord
  deriving DecidableEq, Repr

/-- An operand latch entry (R70). -/
structure Latch where
  value : VReg
  owner : CoachId
  uses : Nat
  deriving DecidableEq, Repr

/-- A leased or non-synchronising copy in a core's data cache (R104, R307). `lease`: wts and rts of a
leased copy. `old`: the bytes of the line in which the copy differs from the line, since others have
written them. -/
structure Copy where
  line : Nat
  lease : Option (BitVec 16 × BitVec 16)
  old : List Host.Cell
  deriving DecidableEq, Repr

/-- What a core holds beyond its residents (R60, R70, R58, R96, R101, R104, R307). -/
structure Core where
  id : CoreId
  backoff : DWord
  pts : BitVec 16
  /-- The model's own: the latest write time that the core has made or acquired (R301, R302; log 59). -/
  know : BitVec 16
  /-- Local-store bytes that have been written since their region was placed. -/
  cells : List Host.Cell
  /-- Granules whose full-empty bit is 1, increasing. -/
  full : List Nat
  latch : List (Option Latch)
  /-- The coach for which the vector slot last issued (R58, R71). -/
  lastVector : Option CoachId
  /-- Of these, the one that counts as the last for the choice: none after a cycle in which the slot has not issued
  (R58). -/
  prev : Option CoachId
  run : Nat
  /-- Instructions issued on the core in the scalar and in the vector slot (R173). -/
  issued : Nat
  issuedVector : Nat
  copies : List Copy
  /-- The bytes of host memory in the data cache (R104). -/
  host : List Host.Cell
  /-- Instruction words cached, by Lunath or local-store address of the fetch (R57, R293). -/
  icache : List (Nat × Word)
  deriving DecidableEq, Repr

/-- A sender of a decoupled queue (R59, R60, R374): the coach and the PC that made each entry the receiver
has not accepted, oldest first; those of the last entry sent; consecutive NACKs of the oldest entry and the
tick of the first; and the cycle at which the back-off ends, if one runs. -/
structure Sender where
  id : SenderId
  entries : List (Option (CoachId × DWord))
  last : Option (CoachId × DWord)
  nacks : Nat
  since : Nat
  backoff : Option Nat
  /-- The packets of the entries of a die's sender to the fabric ports, oldest first (R316). -/
  packets : List Packet
  deriving DecidableEq, Repr

/-- Timestamps of an L2 line (R307). -/
structure LineStamp where
  line : Nat
  wts : BitVec 16
  rts : BitVec 16
  /-- The model's own: the time that an acquire of the last write takes; wts where a core wrote (log 59). -/
  cov : BitVec 16
  deriving DecidableEq, Repr

/-- A line that a die other than its home holds dirty, written privately (R104): `behind` has the bytes that every
other die still finds where the newest ones have not been written back. -/
structure Remote where
  die : BitVec 3
  line : Nat
  /-- The launch that wrote it last. -/
  q : Option (BitVec 6)
  behind : List Host.Cell
  deriving DecidableEq, Repr

/-- A compute die (R307, R309, R327). -/
structure Die where
  id : BitVec 3
  mts : BitVec 16
  dt : BitVec 16
  /-- The model's own: the largest wts that the L2 has assigned (log 59). -/
  last : BitVec 16
  /-- Copies of lines homed elsewhere in the L2 (R104), without a lease. -/
  copies : List Copy
  /-- Frequency in thirty-seconds of nominal. -/
  freq : Nat
  /-- A change that waits for the end of a retraining (R405). -/
  pendingFreq : Option Nat
  deriving DecidableEq, Repr

/-- A link whose width the monitors change (R404): 0 full, 1 half, 2 quarter. -/
structure Link where
  id : LinkId
  width : Nat
  retraining : Bool
  failed : Nat
  deriving DecidableEq, Repr

/-- A cached translation: context, level of the leaf, page number at that level and the leaf entry
(R95). -/
structure Tlb where
  ctx : BitVec 8
  level : Nat
  page : Nat
  entry : DWord
  deriving DecidableEq, Repr

/-- A request to another package or to the host that no response has answered (R318, R401, R395). -/
structure Request where
  tag : Nat
  coach : CoachId
  /-- 0 read, 1 write or an atomic whose old value nothing awaits, 2 atomic, 3 read whose data nothing awaits. -/
  kind : Nat
  key : Nat
  count : Nat
  /-- The tick at which the requester gives up; none for host space. -/
  limit : Option Nat
  /-- Its instruction was interrupted by a WATCHDOG trap, and its coach's handler runs (R378, R402). -/
  held : Bool
  /-- To this package itself, by way of the fabric (R234, R400). -/
  own : Bool := false
  /-- The plane of a fabric request, on which its response comes back (R316). -/
  plane : Nat := 0
  /-- A host read whose bytes the data cache may keep (R104, R234). -/
  keep : Bool := true
  deriving DecidableEq, Repr

/-- What has left the package, oldest first. -/
inductive Emission where
  /-- A packet on a port (R315, R316). -/
  | packet (port : Nat) (packet : Packet)
  /-- A read, a posted write or an AtomicOp in host space (R240, R320). -/
  | hostRead (tag addr count : Nat)
  | hostWrite (addr : Nat) (data : List Byte)
  | hostAtomic (tag addr width aop : Nat) (operand expected : DWord)
  /-- A NACK of a port to its switch, which sends the entry again (R59, R316, R404). -/
  | nack (port : Nat)
  /-- An MSI-X interrupt (R320, R321). -/
  | msix (vector : Nat)
  /-- The completion of a host read through BAR2; none: Completer Abort (R320, R407, R412). -/
  | bar2Completion (data : Option (List Byte))
  /-- A request to a steward service (R290). -/
  | service (coach : CoachId) (n : BitVec 16) (args : List DWord)
  /-- The host's link goes down (R409). -/
  | linkDown
  deriving DecidableEq, Repr

/-- What the prefetch partitions of the cores of one type on some dies hold: instruction words by the address
of the fetch (R57). -/
structure Prefetch where
  dies : BitVec 8
  gig : Bool
  words : List (Nat × Word)
  deriving DecidableEq, Repr

/-- Where poisoned data lies (R397). -/
inductive Poison where
  | register (coach : CoachId) (kind : RegKind) (index : Nat)
  | granule (core : CoreId) (granule : Nat)
  | line (line : Nat)
  | tags (die : BitVec 3)
  deriving DecidableEq, Repr

/-- The host configuration window's registers with no home elsewhere (R321). -/
structure Window where
  rev : BitVec 8
  pkgno : BitVec 9
  fbackoff : DWord
  ftmo : DWord
  ctxbase : DWord
  podbase : DWord
  podWritten : Bool
  preemptQ : BitVec 6
  preemptGo : Bool
  preemptDone : Bool
  irqstat : DWord
  apbase : DWord
  qctx : List (BitVec 8)
  mailbox : List Host.Cell
  deriving DecidableEq, Repr

/-- The steward's own state (R324, R325, R353, R403, R406, R410). -/
structure Steward where
  /-- The digest of the running firmware is that of this image. -/
  firmware : List Byte
  health : DWord
  /-- Conditions of the health word that have been reported: the bit, and which block, core, die, stack or port. -/
  reported : List (Nat × Nat)
  /-- The ticks of the corrected errors of each block, the latest first. -/
  corrections : List ((Nat × Nat) × List Nat)
  /-- Full records of world breaches (R352, R412). -/
  log : List (List Byte)
  secureCores : List CoreId
  securePorts : BitVec 16
  secureRegions : BitVec 64
  healthyDies : BitVec 8
  withdrawn : List CoreId
  sramFailed : BitVec 8
  /-- Cores whose upper local store is fused off (R13). -/
  fusedOff : List CoreId
  portsDown : BitVec 16
  /-- The port that carries each plane (R316, R403). -/
  planes : List (BitVec 4)
  /-- The I/O die has failed: the host's port is gone until a cold boot (R409). -/
  hostDown : Bool := false
  deriving DecidableEq, Repr

/-- The machine. -/
structure State where
  powered : Bool
  /-- A firmware image has been accepted and everything is enabled (R325). -/
  booted : Bool
  time : DWord
  /-- Reference cycles counted within the tick. -/
  cycle : Nat
  /-- All reference cycles counted, for the ages of R58. -/
  cycles : Nat
  wdog : BitVec 32
  /-- The limit in effect: WDOG as the last tick found it (R375). -/
  wdogLive : BitVec 32
  mem : List Host.Cell
  window : Window
  steward : Steward
  queues : List Queue
  launches : List Launch
  gangs : List Gang
  crews : List Crew
  coaches : List Coach
  cores : List Core
  dies : List Die
  stamps : List LineStamp
  remote : List Remote
  tlb : List Tlb
  prefetch : List Prefetch
  /-- The queue of each level that was last offered a run (R53). -/
  offered : List (BitVec 6)
  senders : List Sender
  links : List Link
  requests : List Request
  /-- Tags of fabric requests that timed out without a response, the latest first: a response that comes later is
  discarded (R401). -/
  staleTags : List Nat
  poison : List Poison
  /-- What a port has NACKed and not accepted since: the entry that its switch is to send again first (R59, R316). -/
  refused : List (BitVec 4 × Instr)
  /-- The model's own: events of the outside world not yet taken, oldest first. -/
  inbox : List Instr
  /-- The model's own: what has left the package. -/
  outbox : List Emission
  /-- The model's own: the coach whose instruction is executed. -/
  cur : Option CoachId
  /-- The model's own: the core that was offered the last issue. -/
  turn : Nat
  /-- The model's own: counts what free values are applied to. -/
  fresh : Nat
  deriving DecidableEq, Repr

/-- A launch queue after reset (R49; log 13). -/
def Queue.reset : Queue :=
  { qbase := 0, qcfg := 0, qpub := 0, qcons := 0, err := false, seen := 0 }

/-- A core nothing has touched since reset (R60, R101; log 13). -/
def Core.reset (id : CoreId) : Core :=
  { id := id, backoff := Config.backoffReset, pts := 0, know := 0, cells := [], full := []
    latch := [none, none, none], lastVector := none, prev := none, run := 0, issued := 0, issuedVector := 0, copies := []
    host := [], icache := [] }

/-- A die after reset (R307, R327; log 13). -/
def Die.reset (id : BitVec 3) : Die :=
  { id := id, mts := 0, dt := 0, last := 0, copies := [], freq := 32, pendingFreq := none }

/-- The configuration window after reset (R60, R321; log 13). -/
def Window.reset : Window :=
  { rev := 0, pkgno := 0, fbackoff := Config.backoffReset, ftmo := 0, ctxbase := 0, podbase := 0
    podWritten := false, preemptQ := 0, preemptGo := false, preemptDone := false, irqstat := 0
    apbase := 0, qctx := List.replicate 64 0, mailbox := [] }

/-- The steward after reset: everything healthy and non-secure (R324, R353, R403; log 13). -/
def Steward.reset : Steward :=
  { firmware := [], health := 0, reported := [], corrections := [], log := [], secureCores := []
    securePorts := 0, secureRegions := 0, healthyDies := 0xFF#8, withdrawn := [], sramFailed := 0
    fusedOff := [], portsDown := 0, planes := (List.range 16).map (BitVec.ofNat 4) }

/-- The package right after reset, before any firmware has been accepted (R325). -/
def State.reset : State :=
  { powered := true, booted := false, time := 0, cycle := 0, cycles := 0
    wdog := BitVec.ofNat 32 Config.wdogReset, wdogLive := BitVec.ofNat 32 Config.wdogReset, mem := [], window := Window.reset
    steward := Steward.reset, queues := List.replicate 64 Queue.reset, launches := [], gangs := []
    crews := [], coaches := [], cores := [], dies := (List.range 8).map (fun n => Die.reset (BitVec.ofNat 3 n))
    stamps := [], remote := [], tlb := [], prefetch := [], offered := List.replicate 4 63, senders := [], links := []
    requests := [], staleTags := [], poison := [], refused := [], inbox := [], outbox := [], cur := none, turn := 0, fresh := 0 }

end Sys2Proof.Machine
end

