-- ==== Sys2Proof/Machine/Parts.lean ====
section
/-! DEFINITION. The parts of the state by name: finding and replacing a queue, launch, gang, crew, coach,
core, die, line or sender, and the fields of the waybill, the kernel header and typed pointers. -/

namespace Sys2Proof.Machine

open Sys2Proof

/-- Replace the first element that `p` holds of, or append. -/
def upsert {α : Type} (p : α → Bool) (a : α) : List α → List α
  | [] => [a]
  | b :: t => if p b then a :: t else b :: upsert p a t

/-! ### Bit masks -/

/-- The low `n` bits set. -/
def lowMask (n : Nat) : DWord := BitVec.ofNat 64 (2 ^ n - 1)

/-- Bit `n` alone. -/
def bitAt (n : Nat) : DWord := BitVec.ofNat 64 (2 ^ n)

/-- The mask whose bit j is `f j`, for j < n. -/
def maskOf (n : Nat) (f : Nat → Bool) : DWord :=
  BitVec.ofNat 64 ((List.range n).foldl (fun acc j => acc + if f j then 2 ^ j else 0) 0)

/-- All ones: "none" of a reconvergence point (R27). -/
def noPc : DWord := BitVec.allOnes 64

/-! ### Serial timestamps (R147, R307, R309) -/

/-- `serial_le` on 16-bit times (R147). -/
def serialLe (a b : BitVec 16) : Bool := (b - a).toNat < 2 ^ 15

/-- `smax` (R307). -/
def smax (a b : BitVec 16) : BitVec 16 := if serialLe a b then b else a

/-- The distance from one 16-bit time to another, whichever way is shorter (R147). -/
def serialFar (a b : BitVec 16) (limit : Nat) : Bool := limit ≤ min (a - b).toNat (b - a).toNat

/-- The distance limit of re-basing and of leases (R309, R396). -/
def rebaseLimit : Nat := 2 ^ 14

/-- How far ahead of DT a timestamp may lie (R309). -/
def aheadLimit : Nat := 4095

/-- A time that lies more than 2^14 behind DT is raised to DT − 2^14: any that is not up to 4,095 ahead of it lies behind,
however far DT has jumped (R309, R396). -/
def rebase (dt t : BitVec 16) : BitVec 16 :=
  if aheadLimit < (t - dt).toNat ∧ rebaseLimit < (dt - t).toNat then dt - BitVec.ofNat 16 rebaseLimit else t

/-! ### Cores, dies, queues -/

/-- A core's number in the package, 0-1535 (R8). -/
def coreIndex (c : CoreId) : Nat := c.die.toNat * 192 + c.cluster.toNat * 32 + c.pos.toNat

/-- Gig cores are positions 28-31 (R9). -/
def coreGig (c : CoreId) : Bool := 28 ≤ c.pos.toNat

/-- A populated position: clusters 0-5 (R8). -/
def coreExists (c : CoreId) : Bool := c.cluster.toNat < 6

def sameCluster (c d : CoreId) : Bool := c.die == d.die && c.cluster == d.cluster

def State.die (s : State) (d : BitVec 3) : Die :=
  (s.dies.find? (fun k => k.id == d)).getD (Die.reset d)

/-- A core; one that nothing has touched has counted every tick in its pts (R307), and is not far behind its die
(R396). -/
def State.core (s : State) (c : CoreId) : Core :=
  (s.cores.find? (fun k => k.id == c)).getD
    { Core.reset c with pts := rebase (s.die c.die).dt (s.time.setWidth 16) }

def State.setCore (s : State) (k : Core) : State :=
  { s with cores := upsert (fun j => j.id == k.id) k s.cores }

def State.setDie (s : State) (k : Die) : State :=
  { s with dies := upsert (fun j => j.id == k.id) k s.dies }

def State.queue (s : State) (q : BitVec 6) : Queue := s.queues.getD q.toNat Queue.reset

def State.setQueue (s : State) (q : BitVec 6) (v : Queue) : State :=
  { s with queues := s.queues.set q.toNat v }

/-- Fields of QCFG (R49). A QSIZE of 13-15, for which the rule gives no outcome, is a ring of 2^QSIZE waybills (log 82). -/
def Queue.size (q : Queue) : Nat := 2 ^ bits q.qcfg 3 0
def Queue.level (q : Queue) : Nat := bits q.qcfg 5 4
def Queue.pre (q : Queue) : Bool := bit q.qcfg 6
def Queue.secure (q : Queue) : Bool := bit q.qcfg 7
def Queue.enabled (q : Queue) : Bool := bit q.qcfg 8

/-! ### Launches, gangs, crews, coaches -/

def State.launch? (s : State) (q : BitVec 6) : Option Launch := s.launches.find? (fun l => l.q == q)

def State.setLaunch (s : State) (l : Launch) : State :=
  { s with launches := upsert (fun k => k.q == l.q) l s.launches }

/-- A queue's launch changed in place: what it holds now, a terminal event among it (R349), stays. -/
def State.mapLaunch (s : State) (q : BitVec 6) (f : Launch → Launch) : State :=
  match s.launch? q with
  | none => s
  | some l => s.setLaunch (f l)

def State.gang? (s : State) (q : BitVec 6) (g : Nat) : Option Gang :=
  s.gangs.find? (fun k => k.q == q && k.index == g)

def State.setGang (s : State) (g : Gang) : State :=
  { s with gangs := upsert (fun k => k.q == g.q && k.index == g.index) g s.gangs }

def State.crew? (s : State) (q : BitVec 6) (g c : Nat) : Option Crew :=
  s.crews.find? (fun k => k.q == q && k.gang == g && k.crew == c)

def State.setCrew (s : State) (c : Crew) : State :=
  { s with crews :=
      upsert (fun k => k.q == c.q && k.gang == c.gang && k.crew == c.crew) c s.crews }

def State.coach? (s : State) (c : CoachId) : Option Coach := s.coaches.find? (fun k => k.id == c)

def State.setCoach (s : State) (c : Coach) : State :=
  { s with coaches := upsert (fun k => k.id == c.id) c s.coaches }

/-- The coach whose instruction is executed. -/
def State.current (s : State) : Option Coach :=
  match s.cur with
  | none => none
  | some c => s.coach? c

/-- The crew of a coach. -/
def State.crewOf (s : State) (c : Coach) : Option Crew := s.crew? c.id.q c.id.gang c.id.crew

/-- The coaches of a gang, in the order in which they are listed. -/
def State.coachesOf (s : State) (q : BitVec 6) (g : Nat) : List Coach :=
  s.coaches.filter (fun c => c.id.q == q && c.id.gang == g)

/-- The coaches on a core. -/
def State.residents (s : State) (k : CoreId) : List Coach := s.coaches.filter (fun c => c.core == k)

/-! ### Waybill and header fields (R43, R106, R107) -/

/-- Field [hi:lo] of a word of the waybill. -/
def Launch.wb (l : Launch) (w hi lo : Nat) : Nat := bits (l.waybill.getD w 0) hi lo

/-- Field [hi:lo] of a word of the kernel header. -/
def Launch.hd (l : Launch) (w hi lo : Nat) : Nat := bits (l.header.getD w 0) hi lo

def Launch.kobj (l : Launch) : Nat := l.wb 0 56 0
def Launch.gridX (l : Launch) : Nat := l.wb 1 31 0
def Launch.gridY (l : Launch) : Nat := l.wb 1 47 32
def Launch.gridZ (l : Launch) : Nat := l.wb 1 63 48
def Launch.gangCount (l : Launch) : Nat := l.gridX * l.gridY * l.gridZ
def Launch.steps (l : Launch) : Nat := l.wb 2 33 28 + 1
def Launch.maxDie (l : Launch) : Nat := l.wb 2 27 24
def Launch.minDie (l : Launch) : Nat := l.wb 2 23 20
def Launch.ng (l : Launch) : Nat := l.wb 2 19 12 + 1
def Launch.cor (l : Launch) : Bool := l.wb 2 11 11 == 1
def Launch.ctype (l : Launch) : Nat := l.wb 2 10 9
def Launch.coachCount (l : Launch) : Nat := l.wb 2 8 5 + 1
def Launch.crewCount (l : Launch) : Nat := l.wb 2 4 0 + 1
def Launch.spillCap (l : Launch) : Nat := l.wb 3 47 32
def Launch.scratch (l : Launch) : Nat := l.wb 3 31 0
def Launch.spill (l : Launch) : Nat := l.wb 6 56 0
def Launch.save (l : Launch) : Nat := l.wb 7 56 0
def Launch.scopeMax (l : Launch) : Nat := l.wb 8 46 44
def Launch.saveSize (l : Launch) : Nat := l.wb 8 31 0
def Launch.done (l : Launch) : Nat := l.wb 9 56 0
def Launch.seq (l : Launch) : Nat := l.wb 10 31 0
def Launch.irqe (l : Launch) : Bool := l.wb 11 4 4 == 1
def Launch.irqv (l : Launch) : Nat := l.wb 11 3 0

/-- LEASE in ticks; 0 selects 10 (R43). -/
def Launch.lease (l : Launch) : Nat :=
  if l.wb 8 43 32 = 0 then Config.defaultLease else l.wb 8 43 32

def Launch.twoImg (l : Launch) : Bool := l.hd 0 34 34 == 1

/-- A CLASS 0x0001 object runs with CMP16 in effect (R119). -/
def Launch.cmp16 (l : Launch) : Bool := l.hd 0 32 32 == 1 || l.hd 0 31 16 == 1

/-- W (R21, R106, R119). -/
def Launch.width (l : Launch) : Nat := if l.hd 0 31 16 = 1 then 32 else 16 * 2 ^ l.hd 0 36 35

/-- Offset and length of an image, 0 wain or 1 gig (R106). -/
def Launch.imageOff (l : Launch) (img : Nat) : Nat := l.hd (1 + img) 31 0
def Launch.imageLen (l : Launch) (img : Nat) : Nat := l.hd (1 + img) 63 32

/-- Entry point of an image (R106). -/
def Launch.entry (l : Launch) (img : Nat) : Nat := if img = 0 then l.hd 3 31 0 else l.hd 3 63 32

/-- Declared register counts of an image (R65, R107). -/
def Launch.nV (l : Launch) (img : Nat) : Nat := l.hd (4 + img) 7 0
def Launch.nX (l : Launch) (img : Nat) : Nat := l.hd (4 + img) 14 8
def Launch.nP (l : Launch) (img : Nat) : Nat := l.hd (4 + img) 20 15
def Launch.nS (l : Launch) (img : Nat) : Nat := l.hd (4 + img) 25 21

def Launch.tlMask (l : Launch) : Nat := l.hd 8 39 32
def Launch.chMask (l : Launch) : Nat := l.hd 8 31 16
def Launch.cbMask (l : Launch) : Nat := l.hd 8 15 8

/-- Coach number lc (R45). -/
def Launch.lc (l : Launch) (c : CoachId) : Nat :=
  (c.gang * l.crewCount + c.crew) * l.coachCount + c.coach

/-- First byte of an image in the context's map. -/
def Launch.imageBase (l : Launch) (img : Nat) : Nat := l.kobj + l.imageOff img

/-- FA, where the terminal record lies (R346). -/
def Launch.fa (l : Launch) : Nat := roundUp (l.done + 8) 64

/-- The handler record slot of a coach (R346). -/
def Launch.slot (l : Launch) (c : CoachId) : Nat := l.fa + 128 * (l.lc c + 1)

/-- The post table's entry of an ID (R110). -/
def Launch.post? (l : Launch) (n : BitVec 16) : Option Post := l.posts.find? (fun p => p.id == n)

/-- Status register and continuation point of a post in an image (R110). -/
def Post.st (p : Post) (img : Nat) : Nat := if img = 0 then p.wst else p.gst
def Post.pcOff (p : Post) (img : Nat) : Nat := if img = 0 then p.wpc else p.gpc

/-- Member of a group: bit crew × 16 + coach (R33). -/
def Launch.member (l : Launch) (g crew coach : Nat) : Bool :=
  (l.groups.getD g 0).getLsbD (crew * 16 + coach)

/-- The ID of the trap post (R343). -/
def trapPost : BitVec 16 := 0xFFFE#16

/-! ### Typed pointers (R86) -/

def ptrPeer (p : BitVec 128) : Nat := bits p 127 119
def ptrCpol (p : BitVec 128) : Nat := bits p 118 117
def ptrOrd (p : BitVec 128) : Nat := bits p 116 115
def ptrWide (p : BitVec 128) : Nat := bits p 114 112
def ptrScope (p : BitVec 128) : Nat := bits p 111 109
def ptrCls (p : BitVec 128) : Nat := bits p 108 107
def ptrSpace (p : BitVec 128) : Nat := bits p 106 104
def ptrLen (p : BitVec 128) : Nat := bits p 103 64
def ptrFmt (p : BitVec 128) : Nat := bits p 63 57
def ptrBase (p : BitVec 128) : Nat := bits p 56 0

/-- Is an FMT code assigned (R88)? -/
def fmtAssigned (n : Nat) : Bool := n < 0x1B && n != 0x0F

/-- A well-formed pointer under a scope ceiling (R87). -/
def ptrWellFormed (scopeMax : Nat) (p : BitVec 128) : Bool :=
  ptrOrd p != 3 && ptrWide p < 6 && ptrScope p < 6 && ptrCls p != 3 && ptrSpace p < 6
    && fmtAssigned (ptrFmt p) && (ptrPeer p == 0 || ptrSpace p == 4)
    && ptrScope p ≤ ptrWide p && ptrWide p ≤ scopeMax

/-- A pointer from a base, an attribute word and a length (R241). -/
def ptrMake (base attr len : Nat) : BitVec 128 :=
  BitVec.ofNat 128 (base % 2 ^ 57 + attr % 128 * 2 ^ 57 + len % 2 ^ 40 * 2 ^ 64
    + attr / 256 % 2 ^ 24 * 2 ^ 104)

/-- The attribute word of a pointer (R241, R242). -/
def ptrAttr (p : BitVec 128) : Nat := bits p 127 104 * 256 + ptrFmt p

/-- Replace field [lo + w - 1:lo] of a bit vector. -/
def setField {n : Nat} (v : BitVec n) (lo w x : Nat) : BitVec n :=
  BitVec.ofNat n (v.toNat - bits v (lo + w - 1) lo * 2 ^ lo + x % 2 ^ w * 2 ^ lo)

end Sys2Proof.Machine
end

