-- ==== Sys2Proof/Machine/Translation.lean ====
section
/-! DEFINITION. Translation of virtual addresses (R92-R95), the world checks (R324, R411) and the local
stores' capacities (R13, R97). -/

namespace Sys2Proof.Machine

open Sys2Proof

/-- Who makes an access: its context, and its core where it has one (R296, R323). -/
structure Party where
  ctx : BitVec 8
  root : Nat
  sec : Bool
  core : Option CoreId
  lease : Nat
  /-- The launch, of an access that one makes. -/
  q : Option (BitVec 6)
  deriving DecidableEq, Repr

/-- The context of a launch, used by a core of it or by the scheduler (R323). -/
def Launch.party (l : Launch) (core : Option CoreId) : Party :=
  { ctx := l.ctx, root := l.root, sec := l.sec, core := core, lease := l.lease, q := some l.q }

/-- A check that failed: trap class, code, and INFO as its chapter gives it. `place`: what the record shows in ADDR
instead of the access's address, as for poison that a walker, the L2's tags or a local store's granules have (R398). -/
structure Breach where
  cls : Nat
  code : Nat
  info : Nat
  place : Option Nat := none
  deriving DecidableEq, Repr

/-- Home die of a Lunath address (R94). -/
def homeDie (a : Nat) : BitVec 3 := BitVec.ofNat 3 (a / 2 ^ 37)

/-- Is the 16 GiB region of a Lunath address secure (R324)? -/
def State.secureAddr (s : State) (a : Nat) : Bool := s.steward.secureRegions.getLsbD (a / 2 ^ 34)

/-- Has a die been lost (R406)? -/
def State.dieLost (s : State) (d : BitVec 3) : Bool := !s.steward.healthyDies.getLsbD d.toNat

/-- LSCAP.UP of a core for its next placement (R97, R410). -/
def State.upperPresent (s : State) (c : CoreId) : Bool :=
  !s.steward.fusedOff.contains c && !s.steward.sramFailed.getLsbD c.die.toNat

/-- Full capacity of a core's local store in KiB (R8, R13). -/
def coreFullKib (c : CoreId) : Nat := if coreGig c then 512 else 1024

/-- Capacity in KiB by LSCAP.UP (R13). -/
def coreKib (c : CoreId) (up : Bool) : Nat := if up then coreFullKib c else coreFullKib c / 2

/-- Bytes of a core's local store. -/
def State.capacity (s : State) (c : CoreId) : Nat := coreKib c (s.upperPresent c) * 1024

/-- Index of a virtual address at a level (R92). -/
def levelIndex (level va : Nat) : Nat :=
  match level with
  | 4 => va / 2 ^ 43 % 2 ^ 14
  | 3 => va / 2 ^ 30 % 2 ^ 13
  | 2 => va / 2 ^ 21 % 2 ^ 9
  | _ => va / 2 ^ 16 % 2 ^ 5

/-- Bytes that a leaf of a level maps (R92). -/
def levelSize (level : Nat) : Nat :=
  match level with
  | 4 => 2 ^ 43
  | 3 => 2 ^ 30
  | 2 => 2 ^ 21
  | _ => 2 ^ 16

/-- The bytes of a line that a die finds old at the home L2, since another die's L2 holds it dirty (R104). -/
def State.behind (s : State) (d : Option (BitVec 3)) (line : Nat) : List Host.Cell :=
  match s.remote.find? (fun r => r.line == line) with
  | some r => if d = some r.die then [] else r.behind
  | none => []

/-- Bytes of a line as a die, or a party outside the dies, finds them at the home L2. -/
def State.homeBytes (s : State) (d : Option (BitVec 3)) (a n : Nat) : List Byte :=
  if s.remote.isEmpty then Memory.readBytes s.mem a n
  else (List.range n).map (fun i => (cellAt (s.behind d (a / 128)) (a + i)).getD (Memory.read s.mem (a + i)))

/-! ### Local stores and the lines that a stash holds (R96, R98, R99) -/

/-- The crew whose region holds a local-store address. -/
def State.crewAt (s : State) (core : CoreId) (a : Nat) : Option Crew :=
  s.crews.find? (fun k => k.core == core && decide (k.base ≤ a) && decide (a < k.base + k.scratch))

/-- One byte of a local store; a byte that nothing has written since placement is undefined (R96). -/
def State.storeByte (s : State) (core : CoreId) (a : Nat) : Byte :=
  match cellAt (s.core core).cells a with
  | some v => v
  | none => match s.crewAt core a with
    | some k => Config.scratchByte (k.stamp + 1) a
    | none => Config.scratchByte 0 (coreIndex core * 2 ^ 20 + a)

def State.storeBytes (s : State) (core : CoreId) (a n : Nat) : List Byte :=
  (List.range n).map (fun i => s.storeByte core (a + i))

def bindValid (e : BitVec 128) : Bool := bit e 127
def bindLen (e : BitVec 128) : Nat := bits e 104 84
def bindOff (e : BitVec 128) : Nat := bits e 83 64
def bindVa (e : BitVec 128) : Nat := bits e 56 0

/-- Local-store address of a line of a binding. -/
def stashAddr (k : Crew) (entry line : Nat) : Nat :=
  k.base + bindOff (k.stash.getD entry 0) + 128 * line

/-- The dirty line of a stash that holds a Lunath line (R99). -/
def State.dirtyLine (s : State) (line : Nat) : Option (Crew × StashLine) :=
  s.crews.findSome? (fun k => (k.lines.find? (fun l => l.home == line && l.dirty)).map (fun l => (k, l)))

/-- Eight bytes of Lunath, as a walker or the reeve finds them at the home L2, after a stash that holds the line dirty has
given it back (R99): `walkRecall` and `recall` perform this where the bytes are used (log 87). -/
def State.read8 (s : State) (a : Nat) : Nat :=
  leNat (match s.dirtyLine (a / 128) with
    | some (k, l) => s.storeBytes k.core (stashAddr k l.entry l.line + a % 128) 8
    | none => s.homeBytes none a 8)

/-- Is a Lunath line poisoned (R397)? -/
def State.linePoisoned (s : State) (a : Nat) : Bool := s.poison.contains (.line (a / 128))

/-- The local-store offset of an address, as a record shows it: from the start of the crew's region that holds it (R388,
R398; log 67). -/
def State.storeOffset (s : State) (core : CoreId) (a : Nat) : Nat := a - ((s.crewAt core a).elim 0 (·.base))

/-- The lowest poisoned granule of a range of a local store. -/
def State.poisonedGranule (s : State) (core : CoreId) (a n : Nat) : Option Nat :=
  if s.poison.isEmpty then none
  else ((List.range ((n + 15) / 16)).map (fun i => a / 16 + i)).find? (fun g => s.poison.contains (.granule core g))

/-- The poisoned granule that a recall of a Lunath line meets in the stash that holds the line dirty: its core and its
address (R99, R397, R398). -/
def State.stashPoison (s : State) (line : Nat) : Option (CoreId × Nat) :=
  if s.poison.isEmpty then none
  else match s.dirtyLine line with
    | some (k, l) => (s.poisonedGranule k.core (stashAddr k l.entry l.line) 128).map (fun g => (k.core, 16 * g))
    | none => none

/-- The MACHINE code that reading `n` bytes at a location meets: a lost die, or poison, that of a stash
which holds the line dirty among it (R99, R398, R407). -/
def State.readHazard (s : State) (loc : Loc) (n : Nat) : Option Nat :=
  match loc with
  | .lunath a =>
    if s.dieLost (homeDie a) then some 0x0102
    else if s.poison.contains (.tags (homeDie a)) then some 5
    else if (s.stashPoison (a / 128)).isSome then some 3
    else if s.linePoisoned a then some 4
    else none
  | .store c a =>
    if s.poison.any (fun q => match q with
      | .granule c' g => c' == c && decide (a / 16 ≤ g) && decide (g ≤ (a + n - 1) / 16)
      | _ => false) then some 3 else none
  | _ => none

/-- What a record shows in ADDR for a MACHINE code met at a Lunath address by a walker, a fetch or another reader whose
virtual address it does not show: a local-store offset, or 0; none: the address of the access (R398, R407). -/
def State.lunathPlace (s : State) (a code : Nat) : Option Nat :=
  if code = 3 then (s.stashPoison (a / 128)).map (fun g => s.storeOffset g.1 g.2)
  else if code = 4 ∨ code = 5 then some 0 else none

/-- The core that the leaf of a TT 1 page names (R93). -/
def leafCore (e : DWord) : CoreId :=
  { die := BitVec.ofNat 3 (bits e 29 27), cluster := BitVec.ofNat 3 (bits e 26 24)
    pos := BitVec.ofNat 5 (bits e 23 19) }

def leafTT (e : DWord) : Nat := bits e 3 2

/-- An entry that breaks R93, at its level. TT 3 is reserved in every entry. Bits that R93 neither assigns nor
calls reserved-zero, and the alignment of NEXT and of a leaf's PA, are not judged (log 58). -/
def entryBroken (s : State) (level va : Nat) (e : DWord) : Bool :=
  let leaf := bit e 1
  let tt := leafTT e
  bits e 63 52 != 0 || bit e 7 || (leaf && bits e 11 8 != 0)
    || (leaf && level == 4) || (!leaf && level == 1) || tt == 3
    || (!leaf && 2 ^ 40 ≤ bits e 51 8 * 256)
    || (leaf && tt == 1 && (level != 1 || bits e 18 16 != 0
        || (coreExists (leafCore e) && s.capacity (leafCore e) ≤ bits e 15 12 * 65536)))
    || (leaf && tt == 0 && 2 ^ 40 ≤ bits e 51 16 * 65536 + va % levelSize level)

/-- The walk from level 4 down: the leaf's level and entry, or the first check that fails (R92, R93,
R387, R411; a table in a lost die's memory or poisoned, R407, R398). -/
def walk (s : State) (sec : Bool) (va : Nat) : List Nat → Nat → Except Breach (Nat × DWord)
  | [], _ => .error { cls := 6, code := 2, info := 1 }
  | level :: rest, table =>
    let a := table + 8 * levelIndex level va
    if !sec && s.secureAddr a then .error { cls := 10, code := 1, info := 0 }
    else match s.readHazard (.lunath a) 8 with
    | some code => .error { cls := 11, code := code, info := 0, place := s.lunathPlace a code }
    | none =>
      let e : DWord := BitVec.ofNat 64 (s.read8 a)
      if !bit e 0 then .error { cls := 6, code := 1, info := level }
      else if entryBroken s level va e then .error { cls := 6, code := 2, info := level }
      else if bit e 1 then .ok (level, e)
      else walk s sec va rest (bits e 51 8 * 256)

/-- The levels of a walk. -/
def walkLevels : List Nat := [4, 3, 2, 1]

/-- The Lunath lines that a walk reads, as far as it goes (R92, R99). -/
def walkLines (s : State) (va : Nat) : List Nat → Nat → List Nat
  | [], _ => []
  | level :: rest, table =>
    let a := table + 8 * levelIndex level va
    let e : DWord := BitVec.ofNat 64 (s.read8 a)
    a / 128 :: (if bit e 0 && !bit e 1 then walkLines s va rest (bits e 51 8 * 256) else [])

/-- A cached translation of an address in a context (R95). -/
def State.cached (s : State) (ctx : BitVec 8) (va : Nat) : Option Tlb :=
  s.tlb.find? (fun t => t.ctx == ctx && t.page == va / levelSize t.level)

/-- Which of two translations an instruction uses, the cached one or that of the walk: one choice for the
larger of the two pages, so that every lane in it has the same (R95, R390). -/
def staleChoice (fresh va level level' : Nat) : Bool :=
  let k := max level level'
  Config.freeBool fresh (va / levelSize k * 8 + k)

/-- What a cached translation answers: its leaf, unless this names a unit of a local store that has failed since (R387,
R410). -/
def State.cachedLeaf (s : State) (t : Tlb) : Except Breach (Nat × DWord) :=
  if leafTT t.entry = 1 ∧ s.capacity (leafCore t.entry) ≤ bits t.entry 15 12 * 65536 then
    .error { cls := 6, code := 2, info := t.level }
  else .ok (t.level, t.entry)

/-- The leaf that maps an address: by a walk, or by a cached translation that the walk no longer agrees
with, whichever the device happens to use (R95). -/
def State.leaf (s : State) (p : Party) (va : Nat) : Except Breach (Nat × DWord) :=
  let w := walk s p.sec va walkLevels p.root
  match s.cached p.ctx va with
  | none => w
  | some t =>
    match w with
    | .ok r => if r = (t.level, t.entry) then w
               else if staleChoice s.fresh va t.level r.1 then s.cachedLeaf t else w
    | .error _ => if staleChoice s.fresh va t.level t.level then s.cachedLeaf t else w

/-- The location that a leaf gives an address: its PA or unit plus the offset in the page (log 58). -/
def leafLoc (level : Nat) (e : DWord) (va : Nat) : Loc :=
  match leafTT e with
  | 1 => .store (leafCore e) (bits e 15 12 * 65536 + va % 65536)
  | 2 => .host (bits e 51 16 * 65536 + va % levelSize level)
  | _ => .lunath (bits e 51 16 * 65536 + va % levelSize level)

/-- World checks on a leaf and its location (R411). -/
def worldBreach (s : State) (sec : Bool) (e : DWord) (loc : Loc) : Option Breach :=
  if !sec && bit e 6 then some { cls := 10, code := 2, info := 0 }
  else match loc with
  | .lunath a =>
    if !sec && s.secureAddr a then some { cls := 10, code := 1, info := 0 }
    else if sec && bit e 6 && !s.secureAddr a then some { cls := 10, code := 3, info := 0 }
    else none
  | .store c _ =>
    if !sec && s.steward.secureCores.contains c then some { cls := 10, code := 4, info := 0 } else none
  | _ => none

/-- The target-type rule of a coach's access: a TT 1 page of the party's own cluster, a TT 2 page through SPACE 3
only (R10, R387 0x0004). -/
def targetOk (p : Party) (host : Bool) (e : DWord) : Bool :=
  match leafTT e with
  | 1 => !host && coreExists (leafCore e)
      && (match p.core with
          | some c => sameCluster c (leafCore e)
          | none => false)
  | 2 => host
  | _ => !host

/-- The target-type rule of the dray engine, which reaches the local stores of every cluster (R10); its TT 2
pages are POINTER 0x0010 (R386). -/
def drayTargetOk (e : DWord) : Bool := leafTT e != 1 || coreExists (leafCore e)

/-- Translate for a data access: TRANSLATION 0x0001, 0x0002, 0x0004 and 0x0003, then the world checks
(R388 step 4). -/
def State.translate (s : State) (p : Party) (host write : Bool) (va : Nat) : Except Breach Loc :=
  match s.leaf p va with
  | .error b => .error b
  | .ok (level, e) =>
    if !targetOk p host e then .error { cls := 6, code := 4, info := level }
    else if write && !bit e 4 then .error { cls := 6, code := 3, info := level }
    else
      let loc := leafLoc level e va
      match worldBreach s p.sec e loc with
      | some b => .error b
      | none => .ok loc

/-- Translate for an instruction fetch: codes 0x0F01, 0x0F03, 0x0F04, 0x0F02, then the world checks
(R356). -/
def State.translateFetch (s : State) (p : Party) (va : Nat) : Except Breach Loc :=
  match s.leaf p va with
  | .error b =>
    if b.cls = 6 then .error { b with code := if b.code = 1 then 0x0F01 else 0x0F03 } else .error b
  | .ok (level, e) =>
    if !targetOk p false e then .error { cls := 6, code := 0x0F04, info := level }
    else if !bit e 5 then .error { cls := 6, code := 0x0F02, info := level }
    else
      let loc := leafLoc level e va
      match worldBreach s p.sec e loc with
      | some b => .error b
      | none => .ok loc

end Sys2Proof.Machine
end

