-- ==== Sys2Proof/Machine/Home.lean ====
section
/-! DEFINITION. Where accesses are performed: the home L2 with its timestamps and the copies in the core
data caches (R104, R303, R307, R308), the local stores (R96, R101) and the stash (R98-R100, R392). -/

namespace Sys2Proof.Machine

open Sys2Proof

/-! ### Interrupts -/

/-- Raise MSI-X vector `v` and set its IRQSTAT cause (R320, R321). -/
def State.raiseIrq (s : State) (v : Nat) : State :=
  { s with window := { s.window with irqstat := s.window.irqstat ||| bitAt v }
           outbox := s.outbox ++ [.msix v] }

/-! ### Records and ends of launches without an instruction (R116, R347, R349, R407) -/

/-- The identity word at offset 80 of a record (R347). -/
def identityWord (l : Launch) (id : CoachId) : Nat :=
  id.coach % 16 * 2 ^ 43 + id.crew % 32 * 2 ^ 38 + l.step % 64 * 2 ^ 32 + id.gang % 2 ^ 32

/-- The sixteen words of a record (R347). -/
def recordBytes (ws : List Nat) : List Byte := ws.flatMap (natLe 8)

/-- A terminal event: the first that a launch meets is the one recorded (R349). -/
def State.endLaunch (s : State) (q : BitVec 6) (t : Terminal) : State :=
  match s.launch? q with
  | none => s
  | some l => if l.terminal.isSome then s else s.setLaunch { l with terminal := some t }

/-- The lowest linear index among a launch's gangs. -/
def State.lowestGang (s : State) (q : BitVec 6) : Nat :=
  (s.gangs.filter (fun g => g.q == q)).foldl (fun acc g => min acc g.index)
    (((s.gangs.find? (fun g => g.q == q)).map (·.index)).getD 0)

/-- PCO where no post has been passed: the other image's entry point, all ones when there is one image (R116). -/
def pcoEntry (l : Launch) (img : Nat) : Nat :=
  if l.twoImg then l.imageBase (1 - img) + l.entry (1 - img) else 2 ^ 64 - 1

/-- The record of a MACHINE event of a gang that names no instruction, nor an image or a post passed: PCE 0
(R347, R407). -/
def State.gangRecord (s : State) (l : Launch) (g code addr : Nat) : List Byte :=
  recordBytes [0, pcoEntry l 0, code % 65536 * 2 ^ 32 + 11 * 2 ^ 24 + 2 ^ 18 + 0xFFFF, 0, 0, 0, 0, 0, addr, 0,
    identityWord l { q := l.q, gang := g, crew := 0, coach := 0 }, s.time.toNat, 0, g % 2 ^ 64, 0, 0]

/-- The record of a MACHINE event that names the gang of lowest linear index (R407). -/
def State.dieRecord (s : State) (l : Launch) (code : Nat) : List Byte :=
  s.gangRecord l (s.lowestGang l.q) code 0

/-- End every launch that `p` holds of with a MACHINE event that names no instruction. -/
def State.endLaunches (s : State) (p : Launch → Bool) (code : Nat) : State :=
  s.launches.foldl (fun s l =>
    if p l then s.endLaunch l.q { status := 7, record := some (s.dieRecord l code) } else s) s

/-- TDIES of a context (R323). -/
def State.tdies (s : State) (ctx : BitVec 8) : Nat :=
  s.read8 (bits s.window.ctxbase 51 14 * 2 ^ 14 + 64 * ctx.toNat + 8) / 2 ^ 32 % 256

/-! ### The watch list (R50, R52) -/

/-- A publish word that decreases, or runs past the ring, stops its queue (R52). -/
def Queue.publishOk (q : Queue) (v : DWord) : Bool :=
  q.seen.toNat ≤ v.toNat && v.toNat ≤ q.qcons.toNat + q.size

/-- QBASE or QPUB that an enabled queue may not have (R50). -/
def State.queueAddrBad (s : State) (q : Queue) : Bool :=
  2 ^ 40 ≤ q.qbase.toNat || q.qbase.toNat % 256 != 0 || 2 ^ 40 ≤ q.qpub.toNat || q.qpub.toNat % 8 != 0
    || (!q.secure && (s.secureAddr q.qbase.toNat || s.secureAddr q.qpub.toNat))

/-- Does a write of `n` bytes at `a` touch the publish word of an enabled queue? -/
def Queue.watches (q : Queue) (a n : Nat) : Bool :=
  q.enabled && decide (a < q.qpub.toNat + 8) && decide (q.qpub.toNat < a + n)

/-- Does the publish word as it now stands stop a queue: it decreased or ran past the ring, or the queue's
addresses are bad (R50, R52)? -/
def State.stopsQueue (s : State) (q : Queue) : Bool :=
  !q.publishOk (BitVec.ofNat 64 (s.read8 q.qpub.toNat)) || s.queueAddrBad q

/-- The launch scheduler sees a write that was performed at its home L2 (R50, R52). -/
def State.watch (s : State) (a n : Nat) : State :=
  if s.queues.any (fun q => q.watches a n) then
    let stopped := s.queues.any (fun q => q.watches a n && s.stopsQueue q)
    let s1 := { s with queues := s.queues.map (fun q =>
      if q.watches a n then
        { q with seen := BitVec.ofNat 64 (s.read8 q.qpub.toNat), err := q.err || s.stopsQueue q }
      else q) }
    if stopped then s1.raiseIrq 16 else s1
  else s

/-! ### Timestamps and copies (R307, R308) -/

/-- Timestamps of a line; a line not seen before takes mts at its fill (R308). -/
def State.stamp (s : State) (line : Nat) : LineStamp :=
  match s.stamps.find? (fun t => t.line == line) with
  | some t => t
  | none =>
    let m := (s.die (homeDie (line * 128))).mts
    { line := line, wts := m, rts := m, cov := m }

def State.setStamp (s : State) (t : LineStamp) : State :=
  { s with stamps := upsert (fun k => k.line == t.line) t s.stamps }

/-- The model's own time of a line, which may be that of cores of another die, after a re-basing: it stays unless it lies
far behind DT, or so far from it that which comes first cannot be told while the line is re-based too (R309; log 59). -/
def rebasedCov (moved : Bool) (dt cov : BitVec 16) : BitVec 16 :=
  if serialFar cov dt rebaseLimit && (moved || serialLe cov dt) then dt - BitVec.ofNat 16 rebaseLimit else cov

/-- A line's timestamps re-based against a DT (R309). -/
def LineStamp.rebased (t : LineStamp) (dt : BitVec 16) : LineStamp :=
  let r := rebase dt t.rts
  { t with
    wts := if r = t.rts then t.wts else r, rts := r, cov := rebasedCov (r != t.rts) dt t.cov }

/-- A line's timestamps as an access at its home L2 finds them: re-based first (R396). -/
def State.stampNow (s : State) (line : Nat) : LineStamp :=
  (s.stamp line).rebased (s.die (homeDie (line * 128))).dt

/-- The copies of a core at a time: without the leases that are too far from it (R309, R396). -/
def nearCopies (pts : BitVec 16) (cs : List Copy) : List Copy :=
  cs.filter (fun c => match c.lease with
    | some (_, r) => !serialFar r pts rebaseLimit
    | none => true)

/-- A core whose logical time has become `pts`. -/
def Core.atTime (k : Core) (pts : BitVec 16) : Core := { k with pts := pts, copies := nearCopies pts k.copies }

/-- A core after its die's DT has moved: its time is not far behind (R396). -/
def Core.near (k : Core) (dt : BitVec 16) : Core :=
  let pts := rebase dt k.pts
  if pts = k.pts then k else k.atTime pts

/-- DT takes in a time that its L2 has met, and the cores of the die follow (R309, R396). -/
def State.noteDt (s : State) (d : BitVec 3) (t : BitVec 16) : State :=
  let dt := smax (s.die d).dt t
  if dt = (s.die d).dt then s
  else
    { s.setDie { s.die d with dt := dt } with
      cores := s.cores.map (fun k => if k.id.die = d then k.near dt else k) }

/-- DT and the latest write time take in a wts that the L2 assigns (R309). -/
def State.noteWts (s : State) (d : BitVec 3) (t : BitVec 16) : State :=
  let s1 := s.noteDt d t
  s1.setDie { s1.die d with last := smax (s1.die d).last t }

/-- The latest time of any write performed in the package (R301). -/
def State.lastWrite (s : State) (t : BitVec 16) : BitVec 16 := s.dies.foldl (fun t d => smax t d.last) t

/-- A core's logical time jumps to at least `t`, which it now knows of, and its die's DT follows (R308, R309). -/
def State.learn (s : State) (core : CoreId) (t : BitVec 16) : State :=
  let k := s.core core
  let pts := smax k.pts t
  (s.setCore { k.atTime pts with know := smax k.know t }).noteDt core.die pts

/-- Remember the old bytes of a line in a copy that does not follow the write. -/
def keepCells (old : List Host.Cell) : List Host.Cell → List Host.Cell
  | [] => old
  | (a, v) :: t => keepCells (if (cellAt old a).isSome then old else putCell old a v) t

/-- Forget bytes of a list of cells. -/
def dropCells (old : List Host.Cell) (a : Nat) : Nat → List Host.Cell
  | 0 => old
  | n + 1 => dropCells (eraseCell old a) (a + 1) n

/-- The copies of a cache after another party wrote the line. -/
def staleCopies (line : Nat) (olds : List Host.Cell) (cs : List Copy) : List Copy :=
  cs.map (fun c => if c.line = line then { c with old := keepCells c.old olds } else c)

/-- The copies of a cache whose core has met `n` current bytes of the line: they are current in the copy too, so that
later loads do not go back (R299). -/
def freshCopies (line a n : Nat) (cs : List Copy) : List Copy :=
  cs.map (fun c => if c.line = line then { c with old := dropCells c.old a n } else c)

/-- The copies of the writing core: a leased copy takes the line's new data and timestamps (R308), another one the
bytes written. -/
def ownCopies (line a n : Nat) (t : BitVec 16) (cs : List Copy) : List Copy :=
  cs.map (fun c => if c.line = line then
      (match c.lease with
       | some _ => { c with old := [], lease := some (t, t) }
       | none => { c with old := dropCells c.old a n })
    else c)

/-- The copies of a cache without those of a line. -/
def withoutLine (line : Nat) (cs : List Copy) : List Copy := cs.filter (fun c => c.line != line)

/-- Whether a core is the one that writes. -/
def isWriter (by_ : Option CoreId) (k : CoreId) : Bool := by_ == some k

/-- Whether a die is that of the core that writes. -/
def writerDie (by_ : Option CoreId) (d : BitVec 3) : Bool :=
  match by_ with
  | some c => c.die == d
  | none => false

/-- A write of bytes of one line reaches the copies: those of others keep the old bytes, those of the writing core
and its die's L2 take the new ones (R303). -/
def State.spread (s : State) (by_ : Option CoreId) (a n : Nat) : State :=
  let line := a / 128
  let olds : List Host.Cell := (List.range n).map (fun i => (a + i, Memory.read s.mem (a + i)))
  { s with
    cores := s.cores.map (fun k => if isWriter by_ k.id then k else { k with copies := staleCopies line olds k.copies })
    dies := s.dies.map (fun d => if d.copies.isEmpty then d else
      { d with copies := if writerDie by_ d.id then freshCopies line a n d.copies else staleCopies line olds d.copies }) }

/-- DT of a line's home die takes in the time that an access of a core carries there, before the line is re-based (R309,
R396). -/
def State.carryTime (s : State) (by_ : Option CoreId) (line : Nat) : State :=
  match by_ with
  | some c => s.noteDt (homeDie (line * 128)) (s.core c).pts
  | none => s

/-- The timestamps that a write at the home L2 gives its line and its core (R308). `joined`: a further part of a write
of the line by the same instruction, which is one write of the line (R332). An acquire that reads the line later still
takes the time of the releases before, which an atomic continues (R300, R302; log 59). -/
def State.stampWrite (s : State) (by_ : Option CoreId) (joined : Bool) (line : Nat) : BitVec 16 × State :=
  let s0 := s.carryTime by_ line
  let st := s0.stampNow line
  let pts := match by_ with
    | some c => (s0.core c).pts
    | none => st.rts
  let t := if joined then st.wts else smax pts (st.rts + 1)
  let cov := smax st.cov (match by_ with
    | some _ => t
    | none => s0.lastWrite t)
  let s1 := (s0.setStamp { line := line, wts := t, rts := t, cov := cov }).noteWts (homeDie (line * 128)) t
  (t, match by_ with
    | some c => s1.learn c t
    | none => s1)

/-- The write-back of a dirty copy has consumed poison: the launch that wrote it ends with MACHINE 4, ADDR 0 (R397, R398;
log 92). -/
def State.endRemote (s : State) (r : Remote) : State :=
  match r.q.bind s.launch? with
  | none => s
  | some l => s.endLaunch l.q { status := 7, record := some (s.dieRecord l 4) }

/-- Does a dirty copy have all bytes of its line from its die (R397)? -/
def Remote.whole (r : Remote) : Bool := 128 ≤ r.behind.length

/-- A dirty copy of a line in another die's L2 is written back to the home L2: every die finds its bytes there, and it
counts as a write of the line (R104, R308), which takes the line's poison away when it writes it whole, and otherwise
consumes it (R397, R398). `writeBack` recalls the line from a stash first. -/
def State.drainL2 (s : State) (line : Nat) : State :=
  match s.remote.find? (fun r => r.line == line) with
  | none => s
  | some r =>
    let s1 : State := { s with remote := s.remote.filter (fun r => r.line != line) }
    if s.linePoisoned (128 * line) && !r.whole then s1.endRemote r
    else (({ s1 with poison := s1.poison.filter (· != Poison.line line) } : State).stampWrite none false line).2.watch
      (line * 128) 128

/-- A write of bytes of one line performed at its home L2, by a core or by a party without one (R308), after any dirty
copy elsewhere has been written back. DEDUCED (log 94): a store that misses the core data cache leaves no copy in it
(R105, R308). -/
def State.homeWriteAs (s : State) (by_ : Option CoreId) (joined : Bool) (a : Nat) (data : List Byte) : State :=
  let line := a / 128
  let s0 := (s.drainL2 line).spread by_ a data.length
  let s1 := { s0 with
    mem := Memory.writeBytes s0.mem a data
    poison := if data.length = 128 then s0.poison.filter (· != Poison.line line) else s0.poison }
  match s1.stampWrite by_ joined line with
  | (t, s2) =>
    let s3 := match by_ with
      | some c => s2.setCore { s2.core c with copies := ownCopies line a data.length t (s2.core c).copies }
      | none => s2
    s3.watch a data.length

/-- A write that is one of its own (R308). -/
def State.homeWrite (s : State) (by_ : Option CoreId) (a : Nat) (data : List Byte) : State :=
  s.homeWriteAs by_ false a data

/-- A private write to a line homed on another die that stays, dirty, in the L2 of the writing core's die: the other
dies find the old bytes until it is written back (R104). -/
def State.remoteWrite (s : State) (core : CoreId) (q : Option (BitVec 6)) (a : Nat) (data : List Byte) : State :=
  let line := a / 128
  let s0 := if s.remote.any (fun r => r.line == line && r.die != core.die) then s.drainL2 line else s
  let olds : List Host.Cell := (List.range data.length).map (fun i => (a + i, Memory.read s0.mem (a + i)))
  let held := ((s0.remote.find? (fun r => r.line == line)).map (·.behind)).getD []
  let s1 := s0.spread (some core) a data.length
  { s1 with
    mem := Memory.writeBytes s1.mem a data
    cores := s1.cores.map (fun k =>
      if k.id == core then { k with copies := freshCopies line a data.length k.copies } else k)
    remote := upsert (fun r => r.line == line) ⟨core.die, line, q, keepCells held olds⟩ s1.remote }

/-- Does a private write stay in the L2 of the writing core's die? Only a line homed elsewhere can, and when it is
written back is timing (R7, R104). Without `fill` it stays only where the L2 holds the line already (R105). A poisoned line
is written at its home (R397). -/
def State.staysRemote (s : State) (by_ : Option CoreId) (cls : Nat) (fill : Bool) (a : Nat) : Bool :=
  match by_ with
  | none => false
  | some c => cls != 2 && c.die != homeDie a && !s.linePoisoned a
      && (fill || (s.die c.die).copies.any (fun q => q.line == a / 128)
        || s.remote.any (fun r => r.line == a / 128 && r.die == c.die))
      && Config.freeBool s.fresh (2 ^ 40 + a / 128)

/-- The latest write time that any of the cores knows of. -/
def State.latest (s : State) : List CoreId → BitVec 16 → BitVec 16
  | [], t => t
  | k :: rest, t => s.latest rest (smax t (s.core k).know)

/-- Cores acquire from one another, as an event of R301 has them do: each learns of the latest write that any of them
has made or acquired. -/
def State.syncCores (s : State) (cores : List CoreId) : State :=
  match cores with
  | [] => s
  | k :: rest =>
    let t := s.latest rest (s.core k).know
    cores.foldl (fun s k => s.learn k t) s

/-- The latest write time that any core of a core's cluster knows of, or `t`. -/
def State.clusterTime (s : State) (core : CoreId) (t : BitVec 16) : BitVec 16 :=
  s.latest ((s.cores.map (·.id)).filter (fun k => sameCluster k core)) t

/-- A core acquires from the cores of its cluster (R301: full-empty bits; R235: accesses of a local store, which has
no timestamps, log 60). -/
def State.acquireCluster (s : State) (core : CoreId) : State :=
  s.learn core (s.clusterTime core (s.core core).know)

/-- A core acquires at package scope: it learns of the latest write of the package (R301). -/
def State.acquirePackage (s : State) (core : CoreId) : State := s.learn core (s.lastWrite (s.core core).know)

/-! ### Local stores (R96) -/

/-- List bytes in a memory of cells. -/
def putCells : List Host.Cell → Nat → List Byte → List Host.Cell
  | m, _, [] => m
  | m, a, v :: t => putCells (putCell m a v) (a + 1) t

/-- Write bytes of a local store. -/
def State.storeWrite (s : State) (core : CoreId) (a : Nat) (data : List Byte) : State :=
  s.setCore { s.core core with cells := putCells (s.core core).cells a data }

/-- The full-empty bit of a granule (R101). -/
def State.isFull (s : State) (core : CoreId) (granule : Nat) : Bool := (s.core core).full.contains granule

/-- Insert into an increasing list. -/
def insertNat (n : Nat) : List Nat → List Nat
  | [] => [n]
  | a :: t => if a = n then a :: t else if a < n then a :: insertNat n t else n :: a :: t

/-- Set or clear a full-empty bit (R101, R281). -/
def State.setFull (s : State) (core : CoreId) (granule : Nat) (v : Bool) : State :=
  let k := s.core core
  s.setCore { k with full := if v then insertNat granule k.full else k.full.filter (· != granule) }

/-! ### Stash (R98-R100) -/

/-- Does a binding cover a virtual address? -/
def bindCovers (e : BitVec 128) (va : Nat) : Bool :=
  bindValid e && decide (bindVa e ≤ va) && decide (va < bindVa e + bindLen e)

/-- The context that a crew's launch runs in. -/
def State.ctxOf (s : State) (q : BitVec 6) : Option (BitVec 8) := (s.launch? q).map (·.ctx)

/-- The crew of the party's cluster that binds an address of its context, and the entry. -/
def State.binding (s : State) (p : Party) (va : Nat) : Option (Crew × Nat) :=
  match p.core with
  | none => none
  | some c =>
    match s.crews.find? (fun k => sameCluster k.core c && s.ctxOf k.q == some p.ctx
        && k.stash.any (fun e => bindCovers e va)) with
    | none => none
    | some k => (k.stash.findIdx? (fun e => bindCovers e va)).map (fun i => (k, i))

/-- A line that a stash gives back holds the writes of every core of its cluster: an acquire that reads it learns of what
these know (R300, R302; log 59). -/
def State.coverCluster (s : State) (core : CoreId) (line : Nat) : State :=
  s.setStamp { s.stamp line with cov := s.clusterTime core (s.stamp line).cov }

/-- The bytes of a stash line for its write-back. Where another die's L2 holds bytes of the line dirty, which the stash was
filled without, these stand unless the stash has changed them, so that no write is lost (R99, R104, R299). -/
def State.stashData (s : State) (k : Crew) (l : StashLine) : List Byte :=
  let a := stashAddr k l.entry l.line
  let old := s.behind (some k.core.die) l.home
  if old.isEmpty then s.storeBytes k.core a 128
  else (List.range 128).map (fun i =>
    let v := s.storeByte k.core (a + i)
    if cellAt old (128 * l.home + i) = some v then Memory.read s.mem (128 * l.home + i) else v)

/-- Write back a stash line and leave it clean, or absent (R99). A line that stays loses what was written to it
through its scratch bytes (R392); a dirty one that was filled without bytes of another die's L2 does not stay. A poisoned one is not
delivered: its write-back consumes the poison, and ends the crew's launch (R397, R398). -/
def State.returnLine (s : State) (k : Crew) (l : StashLine) (stay : Bool) : State :=
  let a := stashAddr k l.entry l.line
  let keep := stay && !(l.dirty && !(s.behind (some k.core.die) l.home).isEmpty)
  let s1 := if l.dirty then
      (match s.poisonedGranule k.core a 128, s.launch? k.q with
       | some g, some m => s.endLaunch k.q
          { status := 7, record := some (s.gangRecord m k.gang 3 (s.storeOffset k.core (16 * g))) }
       | _, _ => (s.homeWrite (some k.core) (128 * l.home) (s.stashData k l)).coverCluster k.core l.home)
    else if keep then s.storeWrite k.core a (s.homeBytes (some k.core.die) (128 * l.home) 128)
    else s
  let rest := k.lines.filter (fun m => !(m.entry == l.entry && m.line == l.line))
  match s1.crew? k.q k.gang k.crew with
  | none => s1
  | some k1 =>
    s1.setCrew { k1 with lines := if keep then { l with dirty := false } :: rest else rest }

/-- A recall of a Lunath line from the stash that holds it (R99). -/
def State.recall (s : State) (line : Nat) (isRead : Bool) : State :=
  match s.crews.find? (fun k => k.lines.any (fun l => l.home == line)) with
  | none => s
  | some k =>
    match k.lines.find? (fun l => l.home == line) with
    | none => s
    | some l => s.returnLine k l isRead

/-- A dirty copy of a line in another die's L2 is written back, which is an access of the line from outside the stash that
may hold it (R99, R104). -/
def State.writeBack (s : State) (line : Nat) : State :=
  if s.remote.any (fun r => r.line == line) then (s.recall line false).drainL2 line else s

/-- The lines that a walk reads are recalled from the stashes that hold them (R99). -/
def State.walkRecall (s : State) (p : Party) (va : Nat) : State :=
  if s.crews.all (·.lines.isEmpty) then s
  else (walkLines s va walkLevels p.root).foldl (fun s n => s.recall n true) s

/-- Remember the translation of an address that was used (R95). -/
def State.noteTranslation (s : State) (p : Party) (va : Nat) : State :=
  match s.cached p.ctx va with
  | some _ => s
  | none =>
    match s.leaf p va with
    | .ok (level, e) =>
        { s.walkRecall p va with
          tlb := { ctx := p.ctx, level := level, page := va / levelSize level, entry := e } :: s.tlb }
    | .error _ => s

/-! ### Reads at the home L2 and in the caches (R104, R105, R304, R308) -/

/-- How a load meets the core data cache (R104): performed at the home L2; held under a lease; or held
as a private, read-shared or constant copy. -/
inductive ReadKind where
  | home
  | leased
  | cached
  deriving DecidableEq, Repr

/-- Does the core's copy serve the load? A lease does while it is valid (R308); any other copy may have
been replaced meanwhile (R303, R304). -/
def copyServes (s : State) (k : Core) (kind : ReadKind) (c : Copy) : Bool :=
  match kind with
  | .home => false
  | .leased => match c.lease with
    | some (_, r) => serialLe k.pts r
    | none => false
  | .cached => c.old.isEmpty || Config.freeBool s.fresh c.line

/-- The bytes of a copy. -/
def copyBytes (s : State) (c : Copy) (a n : Nat) : List Byte :=
  (List.range n).map (fun i => (cellAt c.old (a + i)).getD (Memory.read s.mem (a + i)))


/-- The acquire rule of R308 on a core: the time of the write that the load returned. -/
def State.acquireTime (s : State) (core : CoreId) (acq : Bool) (t : BitVec 16) : State :=
  if acq then s.learn core t else s

/-- The copy in a die's L2 that serves a miss of its cores, if the L2 has one and has not replaced it (R104). -/
def State.l2Copy (s : State) (d : BitVec 3) (line : Nat) : Option Copy :=
  (s.die d).copies.find? (fun c => c.line == line && (c.old.isEmpty || Config.freeBool s.fresh (2 ^ 41 + line)))

/-- A private load that misses the core data cache, so that this holds no copy of the line, or has replaced it: through
the die's L2, which keeps a copy of a line homed elsewhere. `fill`: the line stays in both; otherwise it stays only in an
L2 that served it (R104, R105). -/
def State.missCached (s : State) (core : CoreId) (fill : Bool) (a n : Nat) : List Byte × State :=
  let line := a / 128
  let c : Copy := ⟨line, none, match s.l2Copy core.die line with
    | some q => q.old
    | none => s.behind (some core.die) line⟩
  let k := s.core core
  let s1 := s.setCore { k with copies := (if fill then [c] else []) ++ withoutLine line k.copies }
  let keep := core.die != homeDie a && (fill || (s.l2Copy core.die line).isSome)
  let s2 := s1.setDie { s1.die core.die with
    copies := (if keep then [c] else []) ++ withoutLine line (s1.die core.die).copies }
  (copyBytes s c a n, s2.noteDt (homeDie a) k.pts)

/-- A load performed at the home L2, or under a lease taken there (R308). An ORD 2 load that takes no lease holds the
line's next write after its core's time (log 60). The core and its die's L2 keep no older bytes (R299). -/
def State.missHome (s : State) (core : CoreId) (lease : Option Nat) (ord a n : Nat) : List Byte × State :=
  let line := a / 128
  let s0 := (if s.remote.any (fun r => r.line == line && r.die == core.die) then s.writeBack line else s)
  let sd := s0.carryTime (some core) line
  let k := sd.core core
  let st := sd.stampNow line
  let end_ := k.pts + BitVec.ofNat 16 (lease.getD 0)
  let old := sd.behind (some core.die) line
  let s1 := sd.setCore { k with copies := match lease with
    | some _ => upsert (fun c => c.line == line) ⟨line, some (st.wts, end_), old⟩ k.copies
    | none => freshCopies line a n k.copies }
  let s2 := if lease.isSome || ord == 2 then s1.setStamp { st with rts := smax st.rts end_ } else s1.setStamp st
  let s3 := s2.setDie { s2.die core.die with copies := withoutLine line (s2.die core.die).copies }
  (s0.homeBytes (some core.die) a n, (s3.acquireTime core (1 ≤ ord) st.wts).acquireTime core (1 ≤ ord) st.cov)

/-- A load of bytes of one line, by a core or by a party without one: the bytes and the state with the
copy that it leaves (R104, R105, R304, R308). `ord` is the ORD in effect. -/
def State.homeRead (s : State) (p : Party) (kind : ReadKind) (fill : Bool) (ord a n : Nat) :
    List Byte × State :=
  match p.core with
  | none => (s.homeBytes none a n, s)
  | some core =>
    let k := s.core core
    match k.copies.find? (fun c => c.line == a / 128 && copyServes s k kind c) with
    | some c =>
      (copyBytes s c a n,
        match c.lease with
        | some (w, _) => s.acquireTime core (1 ≤ ord) w
        | none => s)
    | none => match kind with
      | .cached => s.missCached core fill a n
      | .leased => s.missHome core (if fill then some p.lease else none) ord a n
      | .home => s.missHome core none ord a n

/-! ### Accesses that a stash serves (R98-R100) -/

/-- Bring a line of a binding into its stash, and mark it dirty for a write (R99, R100). -/
def State.fillLine (s : State) (k : Crew) (entry line home : Nat) (write : Bool) : State :=
  match k.lines.find? (fun l => l.entry == entry && l.line == line) with
  | some l =>
    if write && !l.dirty then
      s.setCrew { k with lines := k.lines.map (fun m =>
        if m.entry == entry && m.line == line then { m with dirty := true } else m) }
    else s
  | none =>
    let s1 := s.recall home false
    let data := s1.homeBytes (some k.core.die) (128 * home) 128
    let s2 := s1.storeWrite k.core (stashAddr k entry line) data
    s2.setCrew { k with lines := { entry := entry, line := line, home := home, dirty := write } :: k.lines }

/-- A core, and its die's L2 for it, keep no copy of a line: a later load finds nothing older than what the core has just met
elsewhere (R234, R274, R299). -/
def State.dropCopy (s : State) (c : CoreId) (line : Nat) : State :=
  let s1 := if (s.core c).copies.isEmpty then s
    else s.setCore { s.core c with copies := withoutLine line (s.core c).copies }
  if (s1.die c.die).copies.isEmpty then s1
  else s1.setDie { s1.die c.die with copies := withoutLine line (s1.die c.die).copies }

/-- The party's core keeps no copy of a line that it reads or writes in a stash. -/
def State.dropOwn (s : State) (p : Party) (line : Nat) : State :=
  match p.core with
  | some c => s.dropCopy c line
  | none => s

/-- The stash that serves an access, if one does: the binding crew, the entry, and the offset in its range (R99, R240).
`wide`: a synchronising access of package or pod scope, or an atomic of die scope or wider. -/
def State.servedBy (s : State) (p : Party) (space va : Nat) (wide : Bool) (loc : Loc) : Option (Crew × Nat × Nat) :=
  match loc with
  | .lunath _ =>
    if space = 0 && !wide then (s.binding p va).map (fun b => (b.1, b.2, va - bindVa (b.1.stash.getD b.2 0))) else none
  | _ => none

/-- Where an access to a translated location is performed: in the binding crew's stash, or at the home
L2 after a recall (R99). -/
def State.place (s : State) (p : Party) (space va : Nat) (wide write : Bool) (loc : Loc) : Loc × State :=
  match loc with
  | .lunath a =>
    match s.servedBy p space va wide loc with
    | some (k, i, off) =>
      (.store k.core (stashAddr k i 0 + off), (s.dropOwn p (a / 128)).fillLine k i (off / 128) (a / 128) write)
    | none => (.lunath a, s.recall (a / 128) (!write))
  | l => (l, s)

/-- How a read is performed: its kind, whether a miss fills the data cache (R105), and its ORD (R235). -/
structure ReadMode where
  kind : ReadKind
  fill : Bool := true
  ord : Nat := 0
  deriving DecidableEq, Repr

/-- A relaxed read at the home L2. -/
def ReadMode.atHome : ReadMode := { kind := .home }

/-- Bytes at a location of the package; other locations answer through requests. -/
def State.readLoc (s : State) (p : Party) (m : ReadMode) (loc : Loc) (n : Nat) : List Byte × State :=
  match loc with
  | .lunath a => s.homeRead p m.kind m.fill m.ord a n
  | .store c a => (s.storeBytes c a n, s)
  | _ => (List.replicate n 0, s)

/-- Write bytes at a location of the package: a write of CLASS `cls` (R104), which a miss of the L2 makes room for if
`fill` (R105), `joined` to an earlier part of the same instruction's write of the line. -/
def State.writeLocAs (s : State) (p : Party) (cls : Nat) (fill joined : Bool) (loc : Loc) (data : List Byte) : State :=
  match loc, p.core with
  | .lunath a, some c =>
    if s.staysRemote (some c) cls fill a then s.remoteWrite c p.q a data else s.homeWriteAs (some c) joined a data
  | .lunath a, none => s.homeWriteAs none joined a data
  | .store c a, _ => s.storeWrite c a data
  | _, _ => s

/-- Write bytes at a location of the package, in Lunath at the home L2. -/
def State.writeLoc (s : State) (p : Party) (loc : Loc) (data : List Byte) : State :=
  s.writeLocAs p 2 true false loc data

/-- An ORD 2 access of a line that a stash serves has its place among those of the line at its home L2: after every lease
granted there, and before the line's next write (R305; log 60). -/
def State.orderHome (s : State) (c : CoreId) (line : Nat) : State :=
  let s0 := s.carryTime (some c) line
  let s1 := s0.learn c ((s0.stampNow line).rts + 1)
  s1.setStamp { s1.stampNow line with rts := smax (s1.stampNow line).rts (s1.core c).pts }

/-- The ordering of an access of a location without timestamps (R90, R235, R300, R305): an acquire, or any ORD 2
access (`sc`), learns of the writes of the cluster from cluster scope on, of the package in another package or the host. A
stash line has the times of its home line too. `scope` is the scope in effect. -/
def State.orderPlain (s : State) (p : Party) (acq sc : Bool) (scope : Nat) (page loc : Loc) : State :=
  match p.core with
  | none => s
  | some c =>
    if !(acq || sc) || scope < 2 then s
    else match loc with
      | .lunath _ => s
      | .store _ _ =>
        (match page with
         | .lunath a =>
           let s1 := (s.acquireCluster c).learn c (s.stampNow (a / 128)).cov
           if sc then s1.orderHome c (a / 128) else s1
         | _ => s.acquireCluster c)
      | _ => s.acquirePackage c

/-- The MACHINE code that writing at a location meets: a lost die (R407). -/
def State.writeHazard (s : State) (loc : Loc) : Option Nat :=
  match loc with
  | .lunath a => if s.dieLost (homeDie a) then some 0x0102 else none
  | _ => none

/-- The MACHINE code that an access meets, and where: in a stash that serves it, poison of its granules there; a line that
is absent is first read from its home (R99, R397, R398, R407). -/
def State.accessHazard (s : State) (p : Party) (space va : Nat) (wide write : Bool) (loc : Loc) (n : Nat) :
    Option (Nat × Loc) :=
  match s.servedBy p space va wide loc with
  | none => (if write then s.writeHazard loc else s.readHazard loc n).map (fun c => (c, loc))
  | some (k, i, off) =>
    let at_ : Loc := .store k.core (stashAddr k i 0 + off)
    if k.lines.any (fun l => l.entry == i && l.line == off / 128) then
      (if write then none else s.readHazard at_ n).map (fun c => (c, at_))
    else (s.readHazard loc n).map (fun c => (c, loc))

/-- What the record of a MACHINE trap of an access shows in ADDR instead of its virtual address: a local-store offset for
poison there, that of a stash which a recall meets included, and 0 for the tags of an L2 (R398). -/
def State.hazardPlace (s : State) (h : Nat × Loc) : Option Nat :=
  match h.2 with
  | .store k a => some (s.storeOffset k a)
  | .lunath a => if h.1 = 4 then none else s.lunathPlace a h.1
  | _ => none

/-- The MACHINE breach of an access. -/
def State.hazardBreach (s : State) (h : Nat × Loc) : Breach := { cls := 11, code := h.1, info := 0, place := s.hazardPlace h }

/-- Can the scheduler, the reeve or a walker read eight bytes of Lunath: neither on a lost die nor poisoned (R397, R407)? -/
def State.wordReadable (s : State) (a : Nat) : Bool := (s.readHazard (.lunath a) 8).isNone

/-- A write of the reeve or the scheduler at a Lunath address: stashes give up their copies first (R99). -/
def State.lunathWrite (s : State) (by_ : Option CoreId) (a : Nat) (data : List Byte) : State :=
  (s.recall (a / 128) false).homeWrite by_ a data

/-! ### Structures in a context's map: records, spill areas, save slots, waybill objects -/

/-- Lengths of the pieces of [va, va + n) that do not cross a 64-byte boundary. -/
def pieces : Nat → Nat → Nat → List (Nat × Nat)
  | 0, _, _ => []
  | fuel + 1, va, n =>
    if n = 0 then []
    else
      let k := min n (64 - va % 64)
      (va, k) :: pieces fuel (va + k) (n - k)

def piecesOf (va n : Nat) : List (Nat × Nat) := pieces (n / 64 + 2) va n

/-- Read bytes of a context's map for the party, as a private access that a stash serves where a binding covers it
(R32, R99); the first failing check stops it. -/
def State.ctxReadWith (s : State) (p : Party) (va n : Nat) : Except Breach (List Byte × State) :=
  (piecesOf va n).foldl (fun acc q =>
    match acc with
    | .error b => .error b
    | .ok (bs, t) =>
      match t.translate p false false q.1 with
      | .error b => .error b
      | .ok loc =>
        match t.accessHazard p 0 q.1 false false loc q.2 with
        | some h => .error (t.hazardBreach h)
        | none =>
          match (t.walkRecall p q.1).place p 0 q.1 false false loc with
          | (l, t1) =>
            match t1.readLoc p .atHome l q.2 with
            | (cs, t2) => .ok (bs ++ cs, t2)) (.ok ([], s))

/-- The bytes of such a read. -/
def State.ctxRead (s : State) (p : Party) (va n : Nat) : Except Breach (List Byte) :=
  (s.ctxReadWith p va n).map (·.1)

/-- The first check that writing [va, va + n) fails. -/
def State.ctxWriteBreach (s : State) (p : Party) (va n : Nat) : Option Breach :=
  (piecesOf va n).findSome? (fun q =>
    match s.translate p false true q.1 with
    | .error b => some b
    | .ok loc => (s.accessHazard p 0 q.1 false true loc q.2).map s.hazardBreach)

/-- Write the pieces of a byte string whose checks have passed. -/
def State.writePieces (s : State) (p : Party) (va : Nat) (data : List Byte) : List (Nat × Nat) → State
  | [] => s
  | q :: rest =>
    let s1 := match s.translate p false true q.1 with
      | .error _ => s
      | .ok loc =>
        match (s.walkRecall p q.1).place p 0 q.1 false true loc with
        | (l, s') => s'.writeLoc p l ((data.drop (q.1 - va)).take q.2)
    s1.writePieces p va data rest

/-- Does a range of half bytes, by its first and its length, hold half byte `n`? -/
def nibIn (n : Nat) (r : Nat × Nat) : Bool := decide (r.1 ≤ n) && decide (n < r.1 + r.2)

/-- The 128-byte lines that ranges of half bytes cover whole. -/
def coveredLines (rs : List (Nat × Nat)) : List Nat :=
  (rs.flatMap (fun r => (List.range ((r.2 + 255) / 256 + 1)).map (fun i => r.1 / 256 + i))).eraseDups.filter (fun n =>
    (List.range 256).all (fun i => rs.any (nibIn (256 * n + i))))

/-- A poisoned line that writes of a party, given as ranges of half bytes of its context's map, have together written whole
at its home loses its poison (R397). -/
def State.unpoisonVa (s : State) (p : Party) (rs : List (Nat × Nat)) : State :=
  if s.poison.isEmpty then s
  else
    let homes := (coveredLines rs).filterMap (fun n =>
      let va := 128 * n % 2 ^ 57
      match s.translate p false true va with
      | .ok (.lunath a) => if (s.servedBy p 0 va false (.lunath a)).isNone then some (a / 128) else none
      | _ => none)
    { s with poison := s.poison.filter (fun q => match q with
      | .line n => !homes.contains n
      | _ => true) }

/-- Write bytes in a context's map for the party, all or nothing. -/
def State.ctxWrite (s : State) (p : Party) (va : Nat) (data : List Byte) : Except Breach State :=
  match s.ctxWriteBreach p va data.length with
  | some b => .error b
  | none => .ok ((s.writePieces p va data (piecesOf va data.length)).unpoisonVa p [(2 * va, 2 * data.length)])

end Sys2Proof.Machine
end

