-- ==== Sys2Proof/Machine/Ops.lean ====
section
/-! DEFINITION. The shared operations: a coach's registers, taking a trap and returning from one
(R342-R349), the ENCODING checks that read declared counts and masks (R357), and the issue of an
instruction (R354). -/

namespace Sys2Proof.Machine

open Sys2Proof

/-! ### Scalar registers, pointers, masks -/

/-- X[n]; 255 reads 0 (R128). -/
def Coach.xr (c : Coach) (n : Nat) : DWord := if n = 255 then 0 else c.x.getD n 0

/-- Write X[n]; 255 discards (R128). -/
def Coach.setX (c : Coach) (n : Nat) (v : DWord) : Coach :=
  if n = 255 then c else { c with x := c.x.set n v }

def Coach.pr (c : Coach) (n : Nat) : BitVec 128 := c.p.getD n 0

def Coach.setP (c : Coach) (n : Nat) (v : BitVec 128) : Coach := { c with p := c.p.set n v }

def Coach.sr (c : Coach) (n : Nat) : BitVec 384 := c.str.getD n 0

def Coach.setS (c : Coach) (n : Nat) (v : BitVec 384) : Coach := { c with str := c.str.set n v }

/-- All W lanes. -/
def Coach.lanes (c : Coach) : DWord := lowMask c.width

/-- Element j of a vector register (R67). -/
def VReg.elem (v : VReg) (j : Nat) : Word :=
  match v with
  | .u b => b
  | .a b s => b + BitVec.ofNat 32 j * s
  | .g ws => ws.getD j 0

/-- Block formats (R88). -/
def fmtBlock (fmt : Nat) : Bool := fmt == 0x18 || fmt == 0x19

/-- SPIX, SEN and PIX of a stream register (R73). -/
def strSpix (v : BitVec 384) : Nat := bits v 10 6
def strSen (v : BitVec 384) : Bool := bit v 5
def strPix (v : BitVec 384) : Nat := bits v 4 0

/-- Are a stream's scale bytes read: its data pointer has a block format now (R74)? -/
def strScaled (pr : Nat → BitVec 128) (v : BitVec 384) : Bool := strSen v && fmtBlock (ptrFmt (pr (strPix v)))

def Coach.mr (c : Coach) (n : Nat) : DWord := c.m.getD n 0

/-- Write M[n]; bits beyond W are discarded (R24). -/
def Coach.setM (c : Coach) (n : Nat) (v : DWord) : Coach :=
  { c with m := c.m.set n (v &&& c.lanes) }

/-- The live lanes: cm and not ex. -/
def Coach.live (c : Coach) : DWord := c.cm &&& ~~~c.ex

/-- Every lane not in ex. -/
def Coach.notExited (c : Coach) : DWord := c.lanes &&& ~~~c.ex

/-- The predicate of an instruction (R24). -/
def Coach.pred (c : Coach) (f : Fields) : DWord :=
  if f.pen then (if f.pneg then ~~~c.mr f.psel.toNat else c.mr f.psel.toNat) else BitVec.allOnes 64

/-- The active lanes of an instruction (R24). -/
def Coach.act (c : Coach) (f : Fields) : DWord := c.live &&& c.pred f

/-- Move to the next instruction. -/
def Coach.advance (c : Coach) (len : Nat) : Coach := { c with pc := c.pc + BitVec.ofNat 64 len }

/-- MXM (R79). -/
def Coach.mxm (c : Coach) : Bool := bit c.mxs 0

/-- Progress: WDC becomes 0 (R376). -/
def Coach.progress (c : Coach) : Coach := { c with wdc := 0 }

/-! ### Registers that an instruction names (R65, R357 0x000A) -/

/-- Registers of a field by its kind: class 0 V, 1 X, 2 P, 3 S, 4 M. -/
def fieldRegs (k : Kind) (n : Nat) : List (Nat × Nat) :=
  match k with
  | .v | .vReg | .vReg255 => if n < 252 then [(0, n)] else []
  | .x | .xReg => if n < 64 then [(1, n)] else []
  | .p | .p255 => if n < 32 then [(2, n)] else []
  | .s => [(3, n)]
  | .m => [(4, n)]
  | _ => []

/-- Consecutive registers from `n` on. -/
def regRange (cls n k : Nat) : List (Nat × Nat) := (List.range k).map (fun i => (cls, n + i))

/-- Registers implied by a range (R244, R262, R273, R280). -/
def impliedRegs (o : Op) (f : Fields) (w : Nat) : List (Nat × Nat) :=
  match o with
  | .sdef => regRange 1 f.a.toNat 5
  | .tlrset => regRange 1 f.a.toNat 12
  | .drld | .drst => regRange 1 f.a.toNat 3
  | .drcp => regRange 1 f.b.toNat 6
  | .mxscl => if w = 16 && f.k 0 0 = 1 then [(0, f.a.toNat + 1)] else []
  | .mxmulg => if w = 16 then [(0, f.c.toNat + 1)] else []
  | .charg => fieldRegs .x (bits f.lit 7 0) ++ fieldRegs .v (bits f.lit 15 8)
  | _ => []

/-- Source registers of an instruction. -/
def sourceRegs (o : Op) (f : Fields) (w : Nat) : List (Nat × Nat) :=
  let s := shape o f
  (if s.din then fieldRegs s.d f.d.toNat else []) ++ fieldRegs (kindA o f) f.a.toNat
    ++ fieldRegs (kindB o f) f.b.toNat ++ fieldRegs s.c f.c.toNat ++ impliedRegs o f w
    ++ (if f.pen then [(4, f.psel.toNat)] else [])

/-- Every register that an instruction names. -/
def namedRegs (o : Op) (f : Fields) (w : Nat) : List (Nat × Nat) :=
  fieldRegs (shape o f).d f.d.toNat ++ sourceRegs o f w
    ++ (if o == .charg then fieldRegs .v (bits f.lit 23 16) else [])

/-- The declared count of a class of registers in an image. -/
def Launch.declared (l : Launch) (img cls : Nat) : Nat :=
  match cls with
  | 0 => l.nV img
  | 1 => l.nX img
  | 2 => l.nP img
  | 3 => l.nS img
  | _ => 8

/-- ENCODING 0x000A: a register at or above the image's declared count. -/
def countBreach (l : Launch) (c : Coach) (o : Op) (f : Fields) : Bool :=
  (namedRegs o f c.width).any (fun r => l.declared c.image r.1 ≤ r.2)

/-- Does a field of slot kind name a slot outside the header's mask? -/
def slotOutside (l : Launch) (k : Kind) (n : Nat) : Bool :=
  match k with
  | .cb => !(l.cbMask).testBit n
  | .cb255 => n != 255 && !(l.cbMask).testBit n
  | .tl => !(l.tlMask).testBit n
  | .ch => !(l.chMask).testBit n
  | _ => false

/-- The chain slot of a CHRUN (R215). -/
def chrunSlotOutside (l : Launch) (o : Op) (f : Fields) : Bool :=
  o == .chrun && !(l.chMask).testBit (f.k 3 0)

/-- QEXP with TF 5 names a codebook slot in K6 (R205). -/
def qexpSlotOutside (l : Launch) (o : Op) (f : Fields) : Bool :=
  o == .qexp && f.k 5 3 == 5 && !(l.cbMask).testBit (f.k 2 0)

/-- ENCODING 0x000B: a slot outside TLMASK, CBMASK or CHMASK (R109). -/
def maskBreach (l : Launch) (o : Op) (f : Fields) : Bool :=
  let s := shape o f
  slotOutside l s.d f.d.toNat || slotOutside l (kindA o f) f.a.toNat
    || slotOutside l (kindB o f) f.b.toNat || slotOutside l s.c f.c.toNat
    || chrunSlotOutside l o f || qexpSlotOutside l o f

/-- The ENCODING code that an instruction breaks, in increasing code order (R354, R357). -/
def issueBreach (l : Launch) (c : Coach) (o : Op) (f : Fields) : Option Nat :=
  match encodingBreach o f with
  | some e => some e
  | none => if countBreach l c o f then some 0x000A else if maskBreach l o f then some 0x000B else none

/-! ### Traps -/

/-- A trap: class, code, and the record fields that the deciding rule gives (R342, R347). `fatal`: terminal wherever the
coach is, as for an RFT that cannot read its slot (R348). -/
structure Trap where
  cls : Nat
  code : Nat
  lanes : DWord := 0
  addr : DWord := 0
  info : DWord := 0
  fatal : Bool := false
  deriving DecidableEq, Repr

/-- A failed check of a context access as a trap with an address. -/
def Breach.trap (b : Breach) (addr : Nat) : Trap :=
  { cls := b.cls, code := b.code, addr := BitVec.ofNat 64 (b.place.getD addr), info := BitVec.ofNat 64 b.info }

/-- Classes that may enter a handler (R342). -/
def classHandled (cls : Nat) : Bool := (1 ≤ cls && cls ≤ 6) || cls == 8 || cls == 9

/-- Terminal status of a class (R342, R351). -/
def classStatus (cls : Nat) : Nat :=
  match cls with
  | 10 => 6
  | 11 => 7
  | 12 => 5
  | _ => 4

/-- Where a trap is raised: the PC it names, the point to resume at, the act it records and the
instruction's length (R347). -/
structure TrapSite where
  pce : DWord
  resume : DWord
  act : DWord
  ilen : Nat
  deriving DecidableEq, Repr

/-- PCO (R116). -/
def pcOther (l : Launch) (c : Coach) : Nat :=
  match (if l.twoImg then c.lpost else none) with
  | none => pcoEntry l c.image
  | some n => match l.post? n with
    | none => pcoEntry l c.image
    | some p => l.imageBase (1 - c.image) + p.pcOff (1 - c.image)

/-- LPOST as software sees it: 0xFFFF for none (R116, R291). -/
def Coach.lpostCode (c : Coach) : Nat :=
  match c.lpost with
  | none => 0xFFFF
  | some n => n.toNat

/-- The record of a trap (R347). `flags`: TERM and ACTIVE. -/
def trapRecord (s : State) (l : Launch) (c : Coach) (t : Trap) (site : TrapSite) (term active : Bool) :
    List Byte :=
  recordBytes
    [site.pce.toNat, pcOther l c,
      t.code % 65536 * 2 ^ 32 + t.cls % 256 * 2 ^ 24 + b2n term * 2 ^ 18 + b2n active * 2 ^ 17
        + c.image % 2 * 2 ^ 16 + c.lpostCode,
      site.resume.toNat, c.rpc.toNat, c.cm.toNat, site.act.toNat, t.lanes.toNat, t.addr.toNat,
      t.info.toNat, identityWord l c.id, s.time.toNat, site.ilen % 256 * 2 ^ 32 + c.depth % 2 ^ 32,
      c.id.gang % 2 ^ 64, 0, 0]

/-- The withheld record of a world breach (R352). -/
def withheldRecord (s : State) (l : Launch) (c : Coach) (pce : DWord) : List Byte :=
  recordBytes
    [pce.toNat, pcOther l c, 2 ^ 19 + 2 ^ 18 + c.image % 2 * 2 ^ 16 + c.lpostCode, 0, 0, 0, 0, 0, 0, 0,
      identityWord l c.id, s.time.toNat, 0, c.id.gang % 2 ^ 64, 0, 0]

/-- Add a record to the steward's log (R352, R412). -/
def State.logRecord (s : State) (r : List Byte) : State :=
  { s with steward := { s.steward with log := s.steward.log ++ [r] } }

/-- Does a launch have a gang resident on, or has its context touched, a die whose L2 tags are poisoned (R398)? -/
def State.onPoisonedTags (s : State) (l : Launch) : Bool :=
  s.poison.any (fun p => match p with
    | .tags d => s.gangs.any (fun g => g.q == l.q && g.status != .saved && g.run.die == d)
        || (s.tdies l.ctx).testBit d.toNat
    | _ => false)

/-- A terminal trap of a coach (R349, R351, R352); one of L2 tags reaches every launch of the die (R398). -/
def State.terminalTrap (s : State) (l : Launch) (c : Coach) (t : Trap) (site : TrapSite) : State :=
  let full := trapRecord s l c t site true false
  if t.cls = 11 ∧ t.code = 5 then
    (s.endLaunch c.id.q { status := 7, record := some full }).endLaunches s.onPoisonedTags 5
  else
  if t.cls = 11 ∧ t.code = 1 then s.endLaunch c.id.q { status := 7, record := none }
  else if t.cls = 10 ∧ !l.sec then
    (s.logRecord full).endLaunch c.id.q
      { status := 6, record := some (withheldRecord s l c site.pce) }
  else s.endLaunch c.id.q { status := classStatus t.cls, record := some full }

/-- The trap word (R345). -/
def trapWord (cls slot : Nat) : DWord := BitVec.ofNat 64 (cls * 2 ^ 57 + slot)

/-- Is it a wait of an instruction that has begun to send its requests (R59, R319)? -/
def Wait.sends (w : Wait) : Bool := w == .remote || w == .window 3

/-- The coach at its handler's entry (R345, R366, R376, R378). -/
def Coach.enterHandler (c : Coach) (l : Launch) (p : Post) (t : Trap) (site : TrapSite) : Coach :=
  { c.setX (p.st c.image) (trapWord t.cls (l.slot c.id)) with
    rpc := noPc
    pc := BitVec.ofNat 64 (l.imageBase c.image + p.pcOff c.image)
    wdc := 0, lastPost := none, charg := none, answers := []
    heldAnswers := if t.cls = 8 ∧ c.wait.sends then c.answers else []
    suspended := if t.cls = 8 then some (site.pce, c.wait) else none
    wait := .ready }

/-- A request whose data nothing awaits any more. -/
def Request.forget (r : Request) : Request :=
  { r with kind := if r.kind = 0 then 3 else if r.kind = 2 then 1 else r.kind, held := false }

/-- The requests of a coach, each as `f` makes it. -/
def State.mapRequests (s : State) (id : CoachId) (f : Request → Request) : State :=
  { s with requests := s.requests.map (fun r => if r.coach = id then f r else r) }

/-- The requests of a coach as its handler begins: those that the interrupted instruction awaits stand for its return,
any other brings no more data (R378, R402). -/
def State.holdRequests (s : State) (c : Coach) (t : Trap) : State :=
  s.mapRequests c.id (fun r =>
    if r.kind = 1 then r else if t.cls = 8 ∧ c.wait = .remote then { r with held := true } else r.forget)

/-- Does a coach still wait for data that a request brings? -/
def State.awaitsData (s : State) (id : CoachId) : Bool :=
  s.requests.any (fun r => r.coach == id && !r.held && (r.kind == 0 || r.kind == 2))

/-- Is the handler of the coach's record slot running (R347)? An unreadable slot counts as a failed
record write (R346). -/
def State.slotActive (s : State) (l : Launch) (c : Coach) : Except Breach Bool :=
  match s.ctxRead (l.party (some c.core)) (l.slot c.id + 16) 8 with
  | .error b => .error b
  | .ok bs => .ok (leNat bs / 2 ^ 17 % 2 = 1)

/-- The commands that a coach has in progress as its handler begins: stopped by a trap (R270). -/
def State.markTrapped (s : State) (c : Coach) : State :=
  match s.crewOf c with
  | none => s
  | some k =>
    if k.tl.any (fun t => t.busy && t.own == c.id.coach) then
      s.setCrew { k with tl := k.tl.map (fun t => if t.busy && t.own == c.id.coach then { t with trapped := true } else t) }
    else s

/-- Taking a trap: the handler entry of R345 where the class, the image and the record slot allow it,
otherwise the terminal event of R349. A record write that fails is terminal with MACHINE 1 (R346). -/
def State.takeTrap (s : State) (c : Coach) (t : Trap) (site : TrapSite) : State :=
  match s.launch? c.id.q with
  | none => s
  | some l =>
    let failed := s.terminalTrap l c { cls := 11, code := 1 } site
    match (if classHandled t.cls && !t.fatal then l.post? trapPost else none) with
    | none => s.terminalTrap l c t site
    | some p =>
      match s.slotActive l c with
      | .error _ => failed
      | .ok true => s.terminalTrap l c t site
      | .ok false =>
        match s.ctxWrite (l.party (some c.core)) (l.slot c.id) (trapRecord s l c t site false true) with
        | .error _ => failed
        | .ok s1 => ((s1.markTrapped c).holdRequests c t).setCoach (c.enterHandler l p t site)

/-- The conditions that RFT requires of the saved record (R348). -/
def rftOk (l : Launch) (c : Coach) (flags resume depth : Nat) : Bool :=
  flags / 2 ^ 17 % 2 == 1 && depth % 2 ^ 32 == c.depth && resume % 4 == 0
    && decide (l.imageBase c.image ≤ resume)
    && decide (resume < l.imageBase c.image + l.imageLen c.image)

/-- The wait that an RFT to the waiting instruction returns to; the others form again when that
instruction issues (R378). -/
def Wait.restored (w : Wait) : Wait :=
  match w with
  | .barrier _ _ _ _ _ | .gwait _ | .fe _ _ | .swcall _ | .remote => w
  | _ => .ready

/-- The wait that an RFT returns the coach to: that of the WATCHDOG trap when RESUME is unchanged
(R378). -/
def Coach.resumedWait (c : Coach) (resume : DWord) : Wait :=
  match c.suspended with
  | some (pc, w) => if pc = resume then w.restored else .ready
  | none => .ready

/-- Does an RFT return to the instruction that a WATCHDOG trap interrupted while it sent its requests (R378, R402)? -/
def Coach.backTo (c : Coach) (resume : DWord) : Bool := c.suspended.any (fun p => p.1 == resume && p.2.sends)

/-- The post record that an RFT to an unchanged MIGRATE re-arms (R366). -/
def Coach.rearmed (c : Coach) (resume : DWord) : Option (BitVec 16) :=
  match c.suspended with
  | some (pc, .migrate n) => if pc = resume then some n else none
  | _ => none

/-- Several writes of X registers. -/
def Coach.setXs (c : Coach) : List (Nat × DWord) → Coach
  | [] => c
  | (n, v) :: t => (c.setX n v).setXs t

/-- The bytes of the waiting instruction that an RFT passes over, the registers it leaves written, and the act under
which it continues, when what it waited for has happened (R37, R378). -/
def Coach.overAt (c : Coach) (resume : DWord) : Nat × List (Nat × DWord) × Option DWord :=
  match c.suspended with
  | some (pc, .ended len ws act) => if pc = resume then (len, ws, act) else (0, [], none)
  | _ => (0, [], none)

/-- The coach after RFT (R348, R366, R376, R378). -/
def Coach.returnFromTrap (c : Coach) (resume rpc cm : DWord) : Coach :=
  { c.setXs (c.overAt resume).2.1 with
    pc := resume + BitVec.ofNat 64 (c.overAt resume).1
    rpc := rpc, cm := (c.overAt resume).2.2.getD (cm &&& c.lanes), wdc := 0, wait := c.resumedWait resume
    answers := if c.backTo resume then c.heldAnswers else []
    heldAnswers := [], lastPost := c.rearmed resume, suspended := none }

/-- The coach goes on as it comes from its handler: to the answers of its interrupted instruction, those that are still to
come included, if it returns to it (R378, R402). -/
def State.comeBack (s : State) (c : Coach) : State :=
  let s1 := s.mapRequests c.id (fun r => if c.wait = .remote ∧ r.held then { r with held := false } else r.forget)
  s1.setCoach (if c.wait = .remote ∧ s1.awaitsData c.id = false then { c with wait := .ready } else c)

/-! ### Issue -/

/-- Requests of a coach that no response has answered. -/
def State.outstanding (s : State) (c : Coach) : Bool := s.requests.any (fun r => r.coach == c.id)

/-- Has a coach a request under way to its own package through the fabric (R234)? -/
def State.ownWaits (s : State) (c : Coach) : Bool := s.requests.any (fun r => r.own && r.coach == c.id)

/-- Why an instruction does not complete at its issue. -/
inductive Stop where
  | trap (t : Trap)
  /-- The coach is not ready: the PC stays, and the state carries what the instruction has begun. -/
  | wait (w : Wait) (s : State)
  deriving DecidableEq, Repr

/-- What waits for every earlier access of the coach (R289, R290, R292, R293, R295, R298). -/
def State.drained (s : State) (c : Coach) (r : Except Stop State) : Except Stop State :=
  if s.outstanding c then .error (.wait .remote s) else r

/-- An ENCODING trap (R355). -/
def encodingTrap (code : Nat) (word0 word1 : Word) : Trap :=
  { cls := 3, code := code, info := word1 ++ word0 }

/-- An OPERAND trap (R358). -/
def operandTrap (code info : Nat) : Trap := { cls := 4, code := code, info := BitVec.ofNat 64 info }

/-- Words 0 and 1 of an instruction, as INFO of an ENCODING trap has them (R355). -/
def encodingInfo (o : Op) (f : Fields) : Word × Word :=
  (f.word0 o, if f.form = .f32 then 0 else f.word1)

/-! ### Poisoned registers (R397, R398) -/

/-- The class of a register kind: those of `fieldRegs`, then the divergence stack and the slots. -/
def regClass (k : RegKind) : Nat :=
  match k with
  | .v => 0
  | .x => 1
  | .p => 2
  | .s => 3
  | .m => 4
  | .stack => 5
  | .cb => 6
  | .ch => 7
  | .tl => 8

/-- Is a poison that of a register, by class and number, of a coach? A crew's coaches share its slots. -/
def poisonsReg (id : CoachId) (r : Nat × Nat) (q : Poison) : Bool :=
  match q with
  | .register i k n => regClass k == r.1 && n == r.2
      && (if 6 ≤ r.1 then i.q == id.q && i.gang == id.gang && i.crew == id.crew else i == id)
  | _ => false

/-- Is a register of a coach poisoned? -/
def State.regPoisoned (s : State) (id : CoachId) (r : Nat × Nat) : Bool := s.poison.any (poisonsReg id r)

/-- The registers that name V registers through a latch entry that is not valid (R72). -/
def State.latchReads (s : State) (c : Coach) (o : Op) (f : Fields) : List (Nat × Nat) :=
  let field (k : Kind) (n : Nat) : List (Nat × Nat) :=
    if (k == .v || k == .vReg || k == .vReg255) && 252 ≤ n && n < 255 then
      (if (match (s.core c.core).latch.getD (n - 252) none with
          | some e => e.owner == c.id && (s.core c.core).lastVector == some c.id
          | none => false) then []
       else ((c.lor.getD (n - 252) none).map (fun r => (0, r))).toList)
    else []
  field (kindA o f) f.a.toNat ++ field (kindB o f) f.b.toNat ++ field (shape o f).c f.c.toNat

/-- The pointer registers through which an instruction's streams are read (R74). -/
def Coach.streamPointers (c : Coach) (o : Op) (f : Fields) : List (Nat × Nat) :=
  (fieldRegs (if kindA o f == .s then .s else .none) f.a.toNat
    ++ fieldRegs (if kindB o f == .s then .s else .none) f.b.toNat).flatMap (fun r =>
      let v := c.sr r.2
      if o == .spos then []
      else (2, strPix v) :: (if strScaled c.pr v then [(2, strSpix v)] else []))

/-- The codebook slot that a CB4 pointer names (R88). -/
def Coach.cb4Slot (c : Coach) (n : Nat) : List (Nat × Nat) :=
  let fmt := ptrFmt (c.pr n)
  if 0x10 ≤ fmt && fmt ≤ 0x17 then [(6, fmt - 0x10)] else []

/-- The slots that an instruction reads, with those of CB4 pointers that it reads through. One that only the values of
scale bytes call for is judged with these (R207, R233). -/
def Coach.slotReads (c : Coach) (o : Op) (f : Fields) : List (Nat × Nat) :=
  (c.streamPointers o f).flatMap (fun r => c.cb4Slot r.2) ++
  (if c.act f = 0 then [] else match o with
   | .cblut | .cbenc => [(6, f.b.toNat)]
   | .qexp => if f.k 5 3 = 5 then [(6, f.k 2 0)] else []
   | .chrun => [(7, f.k 3 0)]
   | .drld | .drst => [(8, f.d.toNat)]
   | .drcp => [(8, f.d.toNat), (8, f.a.toNat)]
   | .ld | .st | .mxout => c.cb4Slot f.a.toNat
   | _ => [])

/-- The block registers that a matrix instruction reads: the tile (R250, R256). -/
def tileReads (o : Op) (f : Fields) : List (Nat × Nat) :=
  match o with
  | .mxmul | .mxmulg | .mxscl | .mxout => regRange 0 f.d.toNat 32
  | .mxamax => regRange 0 f.a.toNat 32
  | _ => []

/-- The registers that an instruction reads: none but its predicate when no lane is active, save what its streams take
(R74, R157). A CHARG's are read by its CHRUN (R214). -/
def State.poisonReads (s : State) (c : Coach) (o : Op) (f : Fields) : List (Nat × Nat) :=
  let ptrs := c.streamPointers o f
  let named := sourceRegs o f c.width
  let live := if c.act f = 0 then (named.filter (fun r => r.1 == 4 && f.pen && r.2 == f.psel.toNat))
    else if o == .charg then [] else named ++ s.latchReads c o f ++ tileReads o f
  let args := match c.charg with
    | some p => if o == .chrun then sourceRegs .charg (.of96 p.w0 p.w1 p.lit) c.width else []
    | none => []
  live ++ args ++ ptrs ++ c.slotReads o f

/-- Does the instruction read a poisoned register (R397)? -/
def State.readsPoison (s : State) (c : Coach) (o : Op) (f : Fields) : Bool :=
  !s.poison.isEmpty && (s.poisonReads c o f).any (s.regPoisoned c.id)

/-- The trap that stops an instruction before its meaning: an unconsumed CHARG prefix (R364), an
ENCODING breach (R357), or a poisoned source register (R398). -/
def State.preTrap (s : State) (l : Launch) (c : Coach) (o : Op) (f : Fields) : Option Trap :=
  match (if o == .chrun then none else c.charg) with
  | some p => some (operandTrap 0x010B p.pc.toNat)
  | none =>
    match issueBreach l c o f with
    | some e => some (encodingTrap e (encodingInfo o f).1 (encodingInfo o f).2)
    | none => if s.readsPoison c o f then some { cls := 11, code := 2 } else none

/-- The latch entries that survive the issue of a vector instruction: all are lost when the slot last
issued for another coach (R58, R71). -/
def Core.latchFor (k : Core) (c : CoachId) : List (Option Latch) :=
  if k.lastVector = some c then k.latch else [none, none, none]

/-- One use less; at 0 the entry expires (R71). -/
def ageLatch (l : Option Latch) : Option Latch :=
  match l with
  | none => none
  | some e => if e.uses ≤ 1 then none else some { e with uses := e.uses - 1 }

/-- Is a latch entry live for the coach (R58)? -/
def Core.latchLive (k : Core) (c : CoachId) : Bool :=
  k.latch.any (fun l => match l with
    | some e => e.owner == c
    | none => false)

/-- The core as the instruction's sources find it. -/
def State.beginIssue (s : State) (c : Coach) (o : Op) : State :=
  if o.isVector then
    s.setCore { s.core c.core with latch := (s.core c.core).latchFor c.id }
  else s

/-- Matrix and dray instructions, whose completion is progress (R25, R376). -/
def Op.isEngine (o : Op) : Bool := (0xB0 ≤ o.code && o.code ≤ 0xB6) || (0xD0 ≤ o.code && o.code ≤ 0xD4)

/-- Instructions that the grid runs in steps (R260, R261). -/
def Op.startsGrid (o : Op) : Bool := o == .mxmul || o == .mxmulg

/-- A coach after the issue of an instruction: the slot's ages (R58), the post record (R366), the consumed prefix
(R364), progress (R376). -/
def Coach.issuedAs (c : Coach) (o : Op) (f : Fields) (cycles : Nat) (done : Bool) : Coach :=
  { c with
    lastScalar := if o.isVector then c.lastScalar else cycles
    lastVector := if o.isVector then cycles else c.lastVector
    lastPost := if !done || o == .rft then c.lastPost else if o == .post then some f.id16 else none
    charg := if !done || o == .charg then c.charg else none
    grid := if o.startsGrid then c.grid else c.grid.map (fun w => { w with moved := true })
    wdc := if done && Op.isEngine o && !o.startsGrid then 0 else c.wdc }

/-- A core after the issue of an instruction by one of its coaches: affinity (R58) and the latch's uses (R71); a
CHARG counts with its CHRUN (R214). An attempt that only begins to wait is no issue for the latch, which stays
(log 40). `before` is the core before the issue. -/
def Core.issuedBy (k before : Core) (id : CoachId) (o : Op) (done : Bool) : Core :=
  if !o.isVector then { k with issued := k.issued + 1 }
  else if o == .charg then { k with issuedVector := k.issuedVector + 1 }
  else if done then
    { k with issuedVector := k.issuedVector + 1, lastVector := some id, prev := some id
             run := if before.prev = some id && before.latchLive id && before.run < 3
                    then before.run + 1 else 1
             latch := k.latch.map ageLatch }
  else { k with issuedVector := k.issuedVector + 1, latch := before.latch }

/-- The registers and slots that a completed instruction writes whole (R397): a vector or a mask register only when every
lane not in ex is active. -/
def Coach.writesWhole (c : Coach) (o : Op) (f : Fields) : List (Nat × Nat) :=
  let full := c.notExited &&& ~~~(c.act f) == 0
  if c.act f = 0 then []
  else match o with
  | .cbld => [(6, f.d.toNat)]
  | .chld => [(7, f.d.toNat)]
  | .tlrset => [(8, f.d.toNat)]
  | .mxzero => regRange 0 f.d.toNat 32
  | .elect => fieldRegs .m f.d.toNat
  | .vote | .xtom => if (shape o f).din then []
      else (fieldRegs (shape o f).d f.d.toNat).filter (fun r => full || r.1 == 4)
  | _ => if !(shape o f).dout || (shape o f).din then []
         else (fieldRegs (shape o f).d f.d.toNat).filter (fun r => full || (r.1 != 0 && r.1 != 4))

/-- Does a completed instruction overwrite a poisoned register of its coach (R397)? -/
def overwrites (c : Coach) (o : Op) (f : Fields) (q : Poison) : Bool :=
  (c.writesWhole o f).any (fun r => poisonsReg c.id r q)
    || (o == .restc && c.act f != 0 && (match q with
      | .register i k _ => i == c.id && regClass k < 6
      | _ => false))

/-- What the issue of any instruction leaves behind on its coach and core, and destination registers free of
poison (R397). An instruction that waits is not done. `before`, `old`: the core and the coach before the issue. -/
def State.endIssue (s : State) (before : Core) (old : Coach) (o : Op) (f : Fields) (done : Bool) :
    State :=
  match s.coach? old.id with
  | none => s
  | some c =>
    let s1 := (s.setCoach (c.issuedAs o f s.cycles done)).setCore ((s.core c.core).issuedBy before old.id o done)
    { s1 with poison := if done then s.poison.filter (fun q => !overwrites old o f q) else s.poison }

/-- What the end of an instruction that an engine has run leaves behind: it is progress, and has written its destination
(R376, R397). -/
def State.endEngine (s : State) (old : Coach) (o : Op) (f : Fields) : State :=
  match s.coach? old.id with
  | none => s
  | some c =>
    let s1 := s.setCoach { c with wdc := 0 }
    { s1 with poison := s.poison.filter (fun q => !overwrites old o f q) }

/-! ### The coach's own matrix instruction in flight (R81, R255, R263, R344) -/

/-- The streams of a matrix instruction and the pointers that they use. -/
def Coach.gridRegs (c : Coach) (w : GridWork) : List (Nat × Nat) :=
  [w.f.a.toNat, w.f.b.toNat].flatMap (fun n =>
    (3, n) :: (2, strPix (c.sr n)) :: (if strSen (c.sr n) then [(2, strSpix (c.sr n))] else []))

/-- Instructions that follow every earlier access of their coach, or read or write its whole state. -/
def Op.isWholeCoach (o : Op) : Bool :=
  match o with
  | .drld | .drst | .drcp | .savec | .restc | .cbld | .stbind | .pscope | .tlbi | .icinv | .launch | .swcall
  | .cstatrc => true
  | _ => (0xB0 ≤ o.code && o.code ≤ 0xB6)

/-- Must an instruction follow the end of the coach's matrix instruction: it uses the tile, a stream, or writes a pointer
of a stream, or acts on everything before it, as one with ORD does (R81, R226, R252, R255, R311)? -/
def Coach.gridHolds (c : Coach) (o : Op) (f : Fields) : Bool :=
  match c.grid with
  | none => false
  | some w =>
    Op.isWholeCoach o || (f.x31 && o.isCrossLane) || (namedRegs o f c.width).any (fun r => r.1 == 3 && (c.gridRegs w).contains r)
      || (fieldRegs (shape o f).d f.d.toNat).any (c.gridRegs w).contains

/-- A trap, which waits for the coach's matrix instruction in flight (R344, R361). -/
def State.trapAfterGrid (s : State) (c c1 : Coach) (t : Trap) (site : TrapSite) : State :=
  if c.grid.isSome then s.setCoach { c with wait := .ownGrid } else s.takeTrap c1 t site

/-- A completed instruction has used the answers that came back for it; those that an RFT brings back are for the
instruction that it returns to, a CHARG with its CHRUN (R214, R378). -/
def State.dropAnswers (s : State) (id : CoachId) (o : Op) : State :=
  match s.coach? id with
  | none => s
  | some c => if c.answers.isEmpty || o == .rft || o == .charg then s else s.setCoach { c with answers := [] }

/-- Where a trap of the instruction is raised: at the CHARG of a prefixed CHRUN (R364); TRAP and BRK resume
after themselves (R344). -/
def Coach.site (c : Coach) (o : Op) (f : Fields) (t : Trap) : TrapSite :=
  let act := if t.cls = 11 ∨ t.cls = 8 ∨ (t.cls = 7 ∧ t.code ≠ 1 ∧ ¬ (t.code = 2 ∧ t.info.toNat % 2 = 0))
    then 0 else c.act f
  let resume := if t.cls = 1 ∨ t.cls = 2 then c.pc + BitVec.ofNat 64 f.len else c.pc
  match c.charg with
  | some p => if o == .chrun then { pce := p.pc, resume := p.pc, act := act, ilen := 12 + f.len }
              else { pce := c.pc, resume := resume, act := act, ilen := f.len }
  | none => { pce := c.pc, resume := resume, act := act, ilen := f.len }

/-- The meaning of an instruction, on the state that its sources find and the issuing coach. -/
abbrev Body := State → Launch → Coach → Except Stop State

/-- The issue of an instruction by the selected coach: the checks of R354 that precede its meaning, its
meaning, and what every issue leaves behind. A trap takes its entry from the state before the issue
(R344): a vector-slot instruction that traps leaves the latch and the ages of R58 as they were, and is no issue of the
slot for them (R71, R344, R354 do not say; DESIGN CHOICE, log 88). -/
def issue (o : Op) (f : Fields) (body : Body) (s : State) : Host.Outcome State Fault Refusal :=
  match s.current with
  | none => .fault .noCoachSelected
  | some c =>
    match s.launch? c.id.q with
    | none => .fault .noCoachSelected
    | some l =>
      match s.preTrap l c o f with
      | some t => .next (s.trapAfterGrid c { c with charg := if o == .chrun then c.charg else none } t (c.site o f t))
      | none =>
        if c.gridHolds o f then .next (s.setCoach { c with wait := .ownGrid }) else
        match body (s.beginIssue c o) l { c with wait := .ready } with
        | .error (.trap t) => .next (s.trapAfterGrid c c t (c.site o f t))
        | .error (.wait .ownGrid _) => .next (s.setCoach { c with wait := .ownGrid })
        | .error (.wait w s1) =>
          match s1.coach? c.id with
          | none => .next s1
          | some c1 => .next ((s1.setCoach { c1 with wait := w }).endIssue (s.core c.core) c o f false)
        | .ok s1 => .next ((s1.dropAnswers c.id o).endIssue (s.core c.core) c o f true)

/-- The first of several checks that fails (R354: increasing code order). -/
def firstTrap : List (Option Trap) → Option Trap
  | [] => none
  | some t :: _ => some t
  | none :: rest => firstTrap rest

/-- Run a meaning when no OPERAND check fails. -/
def checked (ts : List (Option Trap)) (r : Except Stop State) : Except Stop State :=
  match firstTrap ts with
  | some t => .error (.trap t)
  | none => r

/-- A check that raises an OPERAND trap. -/
def operandIf (b : Bool) (code info : Nat) : Option Trap :=
  if b then some (operandTrap code info) else none

/-- Complete an instruction that changes only its coach. -/
def finish (s : State) (c : Coach) (f : Fields) : Except Stop State := .ok (s.setCoach (c.advance f.len))

/-- An instruction whose effect is once for the coach when act is nonzero, and is otherwise skipped
(R157). -/
def whenActive (s : State) (c : Coach) (f : Fields) (r : Except Stop State) : Except Stop State :=
  if c.act f = 0 then finish s c f else r

/-- Where a trap of words that do not issue is raised: at the CHARG that a CHRUN completes (R364), under the predicate that
word 1 holds (R24, R347); a word 1 of 0 has none. -/
def Coach.wordSite (c : Coach) (w0 w1 : Word) (len : Nat) : TrapSite :=
  let act := c.act (Fields.of64 (W0.ofWord w0) (W1.ofWord w1))
  match (if Op.ofCode (opcField w0) == some .chrun then c.charg else none) with
  | some p => { pce := p.pc, resume := p.pc, act := act, ilen := 12 + len }
  | none => { pce := c.pc, resume := c.pc, act := act, ilen := len }

/-- The trap of words that are no form of an instruction: of an instruction other than a CHRUN that follows a CHARG, that
of the prefix (R364). `code` 1 and 2: no instruction at all (R356). -/
def Coach.wordTrap (c : Coach) (code : Nat) (w0 w1 : Word) : Trap :=
  match (if code ≤ 2 || Op.ofCode (opcField w0) == some .chrun then none else c.charg) with
  | some p => operandTrap 0x010B p.pc.toNat
  | none => encodingTrap code w0 (if code = 1 then 0 else w1)

/-- A fetched word that is no instruction (R356) or no form that the device decodes, as a trap of the selected
coach. -/
def raiseEncoding (code len : Nat) (w0 w1 : Word) (s : State) : Host.Outcome State Fault Refusal :=
  match s.current with
  | none => .fault .noCoachSelected
  | some c => .next (s.trapAfterGrid c { c with charg := none } (c.wordTrap code w0 w1) (c.wordSite w0 w1 len))

end Sys2Proof.Machine
end

