-- ==== Sys2Proof/Machine/Access.lean ====
section
/-! DEFINITION. Data accesses through typed pointers: the checks of R388 in their order, the places where
elements lie (R90), requests to other packages and to the host (R314-R319, R395), and the performance of
loads and stores with their conversions (R230-R235). -/

namespace Sys2Proof.Machine

open Sys2Proof

/-! ### Elements -/

/-- Size in bytes of an element of a format; `raw` is the size that the form gives the raw format; a
half-byte element lies in one byte (R88, R230). -/
def fmtBytes (raw fmt : Nat) : Nat :=
  match fmt with
  | 0x00 => raw
  | 0x03 | 0x04 | 0x08 | 0x09 => 2
  | 0x05 | 0x06 | 0x0A => 4
  | 0x07 => 8
  | 0x1A => 16
  | _ => 1

/-- Half-byte formats (R88). -/
def fmtHalf (fmt : Nat) : Bool :=
  fmt == 0x0D || fmt == 0x0E || (0x10 ≤ fmt && fmt ≤ 0x17) || fmt == 0x19

/-- CB4 formats (R88). -/
def fmtCb4 (fmt : Nat) : Bool := 0x10 ≤ fmt && fmt ≤ 0x17

/-- An access of one element: lane, pointer register, the pointer, byte offset from BASE, size,
alignment of the address and of the offset. -/
structure Elem where
  lane : Nat
  ptr : Nat
  p : BitVec 128
  off : Int
  size : Nat
  align : Nat := 1
  offMul : Nat := 1
  scale : Bool := false
  write : Bool := false
  atomic : Bool := false
  deriving DecidableEq, Repr

/-- BASE + off. -/
def Elem.addr (e : Elem) : Int := (ptrBase e.p : Int) + e.off

/-- BASE + off as an address of 57 bits. -/
def Elem.va (e : Elem) : Nat := (e.addr % (2 ^ 57 : Int)).toNat

/-- A failing element: lane, address for ADDR, and INFO. -/
structure Failure where
  cls : Nat
  code : Nat
  lane : Nat
  addr : Int
  info : Nat
  scale : Bool
  deriving DecidableEq, Repr

def Elem.fail (e : Elem) (cls code : Nat) (addr : Int) (info : Nat) : Failure :=
  { cls := cls, code := code, lane := e.lane, addr := addr, info := info, scale := e.scale }

/-- INFO of a POINTER trap (R386). -/
def Elem.info (e : Elem) : Nat := e.ptr + 256 * b2n e.scale

/-- BASE + off as SCRATCH bounds it and as the record shows it: of SPACE 2, the offset in bits [19:0], without the crew index
(R90, R388). -/
def Elem.local_ (e : Elem) : Int := if ptrSpace e.p = 2 then e.addr % (2 ^ 20 : Int) else e.addr

/-- One check of steps 1 to 3 of R388, by its POINTER code: the address that ADDR shows on failure. -/
def pointerCheck (l : Launch) (code : Nat) (e : Elem) : Option Int :=
  let sp := ptrSpace e.p
  let a := e.addr
  let shown := e.local_
  match code with
  | 1 => if ptrWellFormed l.scopeMax e.p then none else some shown
  | 2 => if e.write && (ptrCls e.p == 1 || sp == 5) then some shown else none
  | 3 => if sp = 2 ∧ (a < 0 ∨ (2 ^ 25 : Int) ≤ a ∨ (l.crewCount : Int) ≤ a / (2 ^ 20 : Int))
         then some shown else none
  | 5 =>
    if sp = 1 ∨ sp = 2 then
      if 0 ≤ shown ∧ shown + (e.size : Int) ≤ (l.scratch : Int) then none
      else if 0 ≤ shown ∧ shown < (l.scratch : Int) then some (l.scratch : Int)
      else some shown
    else none
  | 4 =>
    if 0 ≤ e.off ∧ e.off + (e.size : Int) ≤ (ptrLen e.p : Int) then none
    else if 0 ≤ e.off ∧ e.off < (ptrLen e.p : Int) then some (shown + ((ptrLen e.p : Int) - e.off))
    else some shown
  | 6 => if a % (e.align : Int) ≠ 0 ∨ e.off % (e.offMul : Int) ≠ 0 then some shown else none
  | _ => none

/-- Is the pointer's space translated at the requester (R90)? -/
def translated (sp : Nat) : Bool := sp == 0 || sp == 3 || sp == 5

/-- The location of an element whose space is not translated (R90). -/
def State.plainLoc (s : State) (c : Coach) (e : Elem) : Loc :=
  match ptrSpace e.p with
  | 1 => match s.crewOf c with
    | some k => .store k.core (k.base + e.addr.toNat)
    | none => .store c.core e.addr.toNat
  | 2 => match s.crew? c.id.q c.id.gang (e.va / 2 ^ 20 % 32) with
    | some k => .store k.core (k.base + e.va % 2 ^ 20)
    | none => .store c.core (e.va % 2 ^ 20)
  | _ => .peer e.va

/-- Translation of an element (R388 step 4), or its place in a space that is not translated. -/
def State.elemLoc (s : State) (p : Party) (c : Coach) (e : Elem) : Except Breach Loc :=
  if translated (ptrSpace e.p) then s.translate p (ptrSpace e.p == 3) e.write e.va
  else .ok (s.plainLoc c e)

/-- The die that R91 compares with the issuing core's: the home die of the location (R94). -/
def Loc.die (l : Loc) : Option (BitVec 3) :=
  match l with
  | .lunath a => some (homeDie a)
  | .store c _ => some c.die
  | _ => none

/-- A scope outside its domain: the second to fourth conditions of R91. -/
def scopeBreach (c : Coach) (e : Elem) (loc : Loc) : Bool :=
  let sc := ptrScope e.p
  let sp := ptrSpace e.p
  ptrCls e.p != 0
    && (((sp == 0 || sp == 5) && 1 ≤ sc && sc ≤ 3 && loc.die != some c.core.die)
      || (sp == 3 && sc < 4) || (sp == 4 && sc < 5))

/-- What an instruction's accesses allow beyond their elements: `.fe` (R102), an atomic that the host
link cannot carry (R240), lanes in the record, and whether the peer check was made at an earlier issue: answers have been
received, or a WAITV goes on (R400). -/
structure AccessMode where
  fe : Bool := false
  hostBad : Bool := false
  /-- A LAUNCH of a non-secure coach to a queue of the secure world (R411). -/
  worldBad : Bool := false
  /-- The completion add of a dray command (R279). -/
  completion : Bool := false
  lanes : Bool := true
  answered : Bool := false
  deriving DecidableEq, Repr

/-- Address of the pod-table entry of a package (R314). -/
def State.podAt (s : State) (n : Nat) : Nat := bits s.window.podbase 51 12 * 4096 + 8 * n

/-- The pod-table entry of a package (R314). -/
def State.podEntry (s : State) (n : Nat) : Nat := s.read8 (s.podAt n)

/-- The plane of a virtual line (R316). -/
def planeOf (va : Nat) : Nat := va / 128 % 16

/-- The port that carries a plane. -/
def State.portOf (s : State) (plane : Nat) : BitVec 4 := s.steward.planes.getD plane 0

/-- Can a party of a world send on a plane: its port is of that world, and some port of that world is up (R324, R399,
R403)? -/
def State.portOk (s : State) (sec : Bool) (plane : Nat) : Bool :=
  s.steward.securePorts.getLsbD (s.portOf plane).toNat == sec
    && (List.range 16).any (fun q => s.steward.securePorts.getLsbD q == sec && !s.steward.portsDown.getLsbD q)

/-- The peer check of one element (R399, R400): the FABRIC code and INFO; or the MACHINE event of a pod-table entry that
cannot be read (R398, R407). DESIGN CHOICE (log 93): an entry's reserved-zero bits are not looked at (R314). -/
def State.peerBreach (s : State) (l : Launch) (e : Elem) : Option Failure :=
  let n := ptrPeer e.p
  if !s.window.podWritten then some (e.fail 9 3 e.addr n)
  else match s.readHazard (.lunath (s.podAt n)) 8 with
  | some code => some (e.fail 11 code (((s.lunathPlace (s.podAt n) code).map (fun (a : Nat) => (a : Int))).getD e.addr) 0)
  | none =>
    let w := s.podEntry n
    let info := n + w % 2 ^ 32 * 2 ^ 32
    if w % 2 = 0 then some (e.fail 9 1 e.addr info)
    else if w / 4 % 512 ≠ l.part.toNat then some (e.fail 9 2 e.addr info)
    else if !s.portOk l.sec (planeOf e.va) then some (e.fail 9 4 e.addr info)
    else none

/-- A completion pointer that breaks R279 (R386 0x0011). -/
def completionBad (p : BitVec 128) : Bool := !(ptrCls p == 2 && (ptrFmt p == 0 || ptrFmt p == 7))

/-- The checks of R388 after translation: LAUNCH's world check of step 4 (R411), step 5, then step 6, then what the access itself meets: a lost
die or poison (R398, R407). -/
inductive LateCheck where
  | world | scope | fe | hostAtomic | completion | peer | hazard
  deriving DecidableEq, Repr

/-- A synchronising access of package or pod scope, or an atomic of die scope or wider (R99). -/
def ptrWide? (p : BitVec 128) (atomic : Bool) : Bool :=
  (ptrCls p == 2 && 4 ≤ ptrScope p) || (atomic && 3 ≤ ptrScope p)

/-- One late check of an element at its location. -/
def State.lateCheck (s : State) (l : Launch) (c : Coach) (m : AccessMode) (k : LateCheck) (e : Elem)
    (loc : Loc) : Option Failure :=
  match k with
  | .world => if m.worldBad then some (e.fail 10 5 0 0) else none
  | .scope => if scopeBreach c e loc then some (e.fail 5 7 e.local_ e.info) else none
  | .fe => match loc with
    | .store _ _ => none
    | _ => if m.fe then some (e.fail 5 8 e.local_ e.info) else none
  | .hostAtomic => if m.hostBad && ptrSpace e.p == 3 then some (e.fail 5 9 e.local_ e.info) else none
  | .completion => if m.completion && completionBad e.p then some (e.fail 5 0x11 e.local_ e.info) else none
  | .peer => match loc with
    | .peer _ =>
      if m.answered then none else s.peerBreach l e
    | _ => none
  | .hazard =>
    (s.accessHazard (l.party (some c.core)) (ptrSpace e.p) e.va (ptrWide? e.p e.atomic) (e.write && !e.atomic) loc
      e.size).map (fun h => e.fail 11 h.1 (((s.hazardPlace h).map (fun (a : Nat) => (a : Int))).getD e.local_) 0)

/-- A check judges data elements before scale bytes (R388). -/
def decideFailures (fs : List Failure) : List Failure :=
  let data := fs.filter (fun f => !f.scale)
  if data.isEmpty then fs else data

/-- The failure of the lowest lane. -/
def lowestFailure : List Failure → Option Failure
  | [] => none
  | f :: t => match lowestFailure t with
    | none => some f
    | some g => if g.lane < f.lane then some g else some f

/-- The trap of the elements that fail the deciding check (R388). -/
def failureTrap (m : AccessMode) (fs : List Failure) : Option Trap :=
  match lowestFailure (decideFailures fs) with
  | none => none
  | some f => some
    { cls := f.cls, code := f.code, addr := BitVec.ofInt 64 f.addr, info := BitVec.ofNat 64 f.info
      lanes := if m.lanes && f.cls != 11 then
          (decideFailures fs).foldl (fun acc g => acc ||| bitAt g.lane) 0 else 0 }

/-- Steps 1 to 3 of R388, in their order of codes. -/
def earlyTrap (l : Launch) (m : AccessMode) (es : List Elem) : List Nat → Option Trap
  | [] => none
  | code :: rest =>
    match failureTrap m (es.filterMap (fun e =>
        (pointerCheck l code e).map (fun a => e.fail 5 code a e.info))) with
    | some t => some t
    | none => earlyTrap l m es rest

/-- The order of the POINTER codes of steps 1 to 3 (R388). -/
def earlyOrder : List Nat := [1, 2, 3, 5, 4, 6]

/-- The order of classes and codes within step 4 (R388, R411); a MACHINE event of the walk comes last. -/
def walkOrder : List (Nat × Option Nat) :=
  [(6, some 1), (6, some 2), (6, some 4), (6, some 3), (10, none), (11, none)]

/-- Step 4 of R388 over the elements' translations. -/
def walkTrap (m : AccessMode) (rs : List (Elem × Except Breach Loc)) :
    List (Nat × Option Nat) → Option Trap
  | [] => none
  | k :: rest =>
    match failureTrap m (rs.filterMap (fun r => match r.2 with
        | .error b => if b.cls = k.1 && (k.2 == none || k.2 == some b.code)
                      then some (r.1.fail b.cls b.code (((b.place.map (fun (a : Nat) => (a : Int))).getD r.1.addr)) b.info) else none
        | .ok _ => none)) with
    | some t => some t
    | none => walkTrap m rs rest

/-- Steps 5 and 6 of R388, and the hazards of the access itself. -/
def State.lateTrap (s : State) (l : Launch) (c : Coach) (m : AccessMode) (rs : List (Elem × Loc)) :
    List LateCheck → Option Trap
  | [] => none
  | k :: rest =>
    match failureTrap m (rs.filterMap (fun r => s.lateCheck l c m k r.1 r.2)) with
    | some t => some t
    | none => s.lateTrap l c m rs rest

/-- The elements whose translation succeeded, with their locations. -/
def located (rs : List (Elem × Except Breach Loc)) : List (Elem × Loc) :=
  rs.filterMap (fun r => match r.2 with
    | .ok loc => some (r.1, loc)
    | .error _ => none)

/-- All checks of R388 for the elements of one instruction, and their locations. -/
def State.resolve (s : State) (l : Launch) (c : Coach) (m : AccessMode) (es : List Elem) :
    Except Trap (List (Elem × Loc)) :=
  match earlyTrap l m es earlyOrder with
  | some t => .error t
  | none =>
    let rs := es.map (fun e => (e, s.elemLoc (l.party (some c.core)) c e))
    match walkTrap m rs walkOrder with
    | some t => .error t
    | none =>
      match s.lateTrap l c m (located rs) [.world, .scope, .fe, .hostAtomic, .completion, .peer, .hazard] with
      | some t => .error t
      | none => .ok (located rs)

/-! ### Requests to other packages and to the host -/

/-- FTMO in ticks (R321). -/
def State.ftmo (s : State) : Nat :=
  let n := bits s.window.ftmo 13 0
  if n = 0 then Config.defaultFtmo else n

/-- Tags of a fabric packet: 7 bits (R315). -/
def fabricTags : Nat := 128

/-- Does an outstanding request to another package, or to the host, use a tag? -/
def State.tagUsed (s : State) (fabric : Bool) (n : Nat) : Bool :=
  s.requests.any (fun r => r.tag == n && r.limit.isSome == fabric)

/-- Tags of a request to the host: 10 bits (R320). -/
def hostTags : Nat := 1024

/-- Tags that a request can take. -/
def State.tagsLeft (s : State) (fabric : Bool) : Nat :=
  ((List.range (if fabric then fabricTags else hostTags)).filter (fun n => !s.tagUsed fabric n)).length

/-- A tag for a new request. One of the fabric whose last request timed out without a response is used last, the
longest ago first, so that a late response is not taken for its answer (R401; log 63). -/
def State.nextTag (s : State) (fabric : Bool) : Nat :=
  if fabric then
    match (List.range fabricTags).find? (fun n => !s.tagUsed true n && !s.staleTags.contains n) with
    | some n => n
    | none => (s.staleTags.reverse.find? (fun n => !s.tagUsed true n)).getD 0
  else ((List.range hostTags).find? (fun n => !s.tagUsed false n)).getD 0

/-- The key under which the answer to a read is kept. -/
def readKey (e : Elem) (loc : Loc) : Nat :=
  match loc with
  | .host _ => e.va * 8 + 3
  | _ => (ptrPeer e.p * 2 ^ 57 + (e.va - e.va % 128)) * 8 + 4

/-- The key under which the answer to an atomic of a lane is kept. -/
def atomicKey (lane : Nat) : Nat := 2 ^ 90 + lane

/-- SYNC of a packet (R315). DESIGN CHOICE (log 94): 1 for an access of CLASS 2 with ORD 0. -/
def packetSync (p : BitVec 128) : BitVec 2 :=
  if ptrCls p = 2 then BitVec.ofNat 2 (max 1 (ptrOrd p)) else 0

/-- A packet of the coalescer without its bytes (R315, R318). -/
def State.packet (s : State) (l : Launch) (p : BitVec 128) (op va tag : Nat) (be : BitVec 128)
    (data : List Byte) : Packet :=
  { be := be, dst := BitVec.ofNat 9 (ptrPeer p), src := s.window.pkgno, op := BitVec.ofNat 4 op
    sync := packetSync p, sec := l.sec, tag := BitVec.ofNat 7 tag, fctx := l.fctx
    dl := BitVec.ofNat 16 (s.time.toNat + s.ftmo), aop := 0, aw := 0
    line := BitVec.ofNat 50 (va / 128), data := data }

/-- Byte enables of `n` bytes at offset `o` of a line. -/
def byteEnables (o n : Nat) : BitVec 128 := BitVec.ofNat 128 ((2 ^ n - 1) * 2 ^ o)

/-- A packet leaves a port for its switch (R316). -/
def State.send (s : State) (port : BitVec 4) (p : Packet) : State :=
  { s with outbox := s.outbox ++ [Emission.packet port.toNat p] }

/-- A sender. -/
def State.sender (s : State) (id : SenderId) : Sender :=
  (s.senders.find? (fun k => k.id == id)).getD
    { id := id, entries := [], last := none, nacks := 0, since := 0, backoff := none, packets := [] }

/-- Replace a sender. -/
def State.setSender (s : State) (k : Sender) : State :=
  { s with senders := upsert (fun j => j.id == k.id) k s.senders }

/-- Has a sender a free place in its replay window (R59)? -/
def State.hasPlace (s : State) (id : SenderId) : Bool := decide ((s.sender id).entries.length < Config.windowSize)

/-- A packet enters the replay window of a die or of a port, with the coach and the PC that it comes from, if any (R59,
R316). -/
def State.joinWindow (s : State) (id : SenderId) (owner : Option (CoachId × DWord)) (p : Packet) : State :=
  let k := s.sender id
  s.setSender { k with entries := k.entries ++ [owner], packets := k.packets ++ [p] }

/-- A coach's packet enters the replay window of its die's sender to the fabric ports (R59, R316); the pod-table entry that
was read for it has been recalled from a stash (R99, R314). -/
def State.sendFrom (s : State) (c : Coach) (p : Packet) : State :=
  (s.recall (s.podAt p.dst.toNat / 128) true).joinWindow (.dieFabric c.core.die) (some (c.id, c.pc)) p

/-- Has a request of a coach's die room: a place in the die's replay window and a tag; to the host, a tag (R59, R315,
R320)? -/
def State.hasRoom (s : State) (c : Coach) (fabric : Bool) : Bool :=
  decide (0 < s.tagsLeft fabric)
    && (!fabric || s.hasPlace (.dieFabric c.core.die))

/-- Note a request that awaits its response (R401). -/
def State.await_ (s : State) (c : Coach) (p : BitVec 128) (va tag kind key count : Nat) (fabric : Bool) : State :=
  let r : Request :=
    { tag := tag, coach := c.id, kind := kind, key := key, count := count
      limit := if fabric then some (s.time.toNat + 2 * s.ftmo) else none
      held := false, own := fabric && ptrPeer p == s.window.pkgno.toNat, plane := planeOf va }
  { s with
    requests := s.requests ++ [r]
    staleTags := if fabric then s.staleTags.filter (· != tag) else s.staleTags }

/-- Has an answer with this key come back? -/
def Coach.answer (c : Coach) (key : Nat) : Option (List Byte) :=
  (c.answers.find? (fun a => a.key == key)).map (·.bytes)

/-- Is a location outside the package? -/
def Loc.isRemote (l : Loc) : Bool :=
  match l with
  | .peer _ | .host _ => true
  | _ => false

/-- Is a location in another package? -/
def Loc.isPeer (l : Loc) : Bool :=
  match l with
  | .peer _ => true
  | _ => false

/-- Byte enables of every element of one packet's line (R315). -/
def lineEnables (key : Nat) (rs : List (Elem × Loc)) : BitVec 128 :=
  (rs.filter (fun r => r.2.isRemote && readKey r.1 r.2 == key)).foldl
    (fun acc r => acc ||| byteEnables (r.1.va % 128) r.1.size) 0

/-- The bytes of a remote element from its answer: all ones where the access timed out (R319). -/
def Coach.answerBytes (c : Coach) (e : Elem) (loc : Loc) : List Byte :=
  match c.answer (readKey e loc) with
  | none => List.replicate e.size 0xFF#8
  | some bs =>
    let o := match loc with
      | .host _ => 0
      | _ => e.va % 128
    (List.range e.size).map (fun i => bs.getD (o + i) 0xFF#8)

/-- Has the access with this key timed out or failed (R319, R395)? -/
def Coach.answerBad (c : Coach) (key : Nat) : Bool := c.answers.any (fun a => a.key == key && !a.good)

/-! ### Host memory in the data cache (R104) -/

/-- Does an access of host space use the core data cache: one that is not synchronising (R104)? -/
def hostCopied (p : BitVec 128) : Bool := ptrCls p != 2

/-- The bytes of a host element that the core's data cache delivers: it holds them, and has not replaced them (R7,
R104). -/
def State.hostCopy (s : State) (c : Coach) (e : Elem) (loc : Loc) : Option (List Byte) :=
  match loc with
  | .host a =>
    let bs := (List.range e.size).filterMap (fun i => cellAt (s.core c.core).host (a + i))
    if hostCopied e.p ∧ bs.length = e.size ∧ Config.freeBool s.fresh (2 ^ 43 + a / 128) then some bs else none
  | _ => none

/-- The data cache after a load of host memory that went to the host: it keeps the bytes, or none older (R104, R105,
R299), unless the core has written host memory since, so that they may be the older ones (R234). -/
def State.keepHost (s : State) (c : Coach) (e : Elem) (loc : Loc) (bs : List Byte) : State :=
  match loc with
  | .host a =>
    let k := s.core c.core
    if c.answers.any (fun q => q.key == readKey e loc && q.good && q.keep) then
      s.setCore { k with host := if hostCopied e.p && ptrCpol e.p != 3 then putCells k.host a bs else dropCells k.host a e.size }
    else s
  | _ => s

/-- Bytes written where the cells list any: what a write through a cache leaves in it. -/
def overCells (cs : List Host.Cell) (a : Nat) : List Byte → List Host.Cell
  | [] => cs
  | v :: t => overCells (if (cellAt cs a).isSome then putCell cs a v else cs) (a + 1) t

/-! ### Requests of an instruction -/

/-- Does a read still lack its data: no answer has come, and the data cache does not deliver it? -/
def State.lacks (s : State) (c : Coach) (r : Elem × Loc) : Bool :=
  r.2.isRemote && (c.answer (readKey r.1 r.2)).isNone && (s.hostCopy c r.1 r.2).isNone

/-- Does a read of the instruction still lack its data? -/
def State.lacksAnswer (s : State) (c : Coach) (rs : List (Elem × Loc)) : Bool := rs.any (s.lacks c)

/-- The coach with the bytes that the data cache delivers for accesses of its instruction among its answers: what an
instruction has been given once, it keeps (R104, R263). -/
def State.withCopies (s : State) (c : Coach) (rs : List (Elem × Loc)) : Coach :=
  { c with answers := c.answers ++ rs.filterMap (fun r =>
      if (c.answer (readKey r.1 r.2)).isSome then none
      else (s.hostCopy c r.1 r.2).map (fun bs => { key := readKey r.1 r.2, bytes := bs, keep := false })) }

/-- A core writes bytes of host memory: reads of it that are still under way may bring older bytes, which its data cache does
not keep (R234). -/
def State.passReads (s : State) (core : CoreId) : State :=
  { s with requests := s.requests.map (fun r =>
      if r.limit.isNone && (s.coach? r.coach).any (fun c => c.core == core) then { r with keep := false } else r) }

/-- The data cache of a core holds nothing of `n` bytes of host memory that an atomic has changed, and takes nothing older
(R104, R234). -/
def State.dropHostBytes (s : State) (core : CoreId) (a n : Nat) : State :=
  let s1 := if (s.core core).host.isEmpty then s
    else s.setCore { s.core core with host := dropCells (s.core core).host a n }
  s1.passReads core

/-- Put an access behind those of its lane and of lower ones. -/
def insertLane (r : Elem × Loc) : List (Elem × Loc) → List (Elem × Loc)
  | [] => [r]
  | q :: t => if q.1.lane ≤ r.1.lane then q :: insertLane r t else r :: q :: t

/-- Accesses in the order of their lanes (R315). -/
def byLane (rs : List (Elem × Loc)) : List (Elem × Loc) := rs.foldl (fun acc r => insertLane r acc) []

/-- Send the read requests of one instruction for which there is room, one a line (R59, R315); host elements are read
one by one. -/
def State.sendReads (s : State) (l : Launch) (c : Coach) (all : List (Elem × Loc)) :
    List (Elem × Loc) → List Nat → State
  | [], _ => s
  | r :: rest, sent =>
    let key := readKey r.1 r.2
    if !s.lacks c r || sent.contains key || !s.hasRoom c r.2.isPeer then s.sendReads l c all rest sent
    else
      let tag := s.nextTag r.2.isPeer
      let s1 := match r.2 with
        | .host a => { s with outbox := s.outbox ++ [Emission.hostRead tag a r.1.size] }
        | _ => s.sendFrom c (s.packet l r.1.p 0 r.1.va tag (lineEnables key all) [])
      (s1.await_ c r.1.p r.1.va tag 0 key (match r.2 with
        | .host _ => r.1.size
        | _ => 128) r.2.isPeer).sendReads l c all rest (key :: sent)

/-! ### Senders (R59, R60) -/

/-- Does a link carry nothing, since it retrains (R404)? -/
def State.retraining (s : State) (id : LinkId) : Bool := s.links.any (fun k => k.id == id && k.retraining)

/-- Does a core's sender cross a link that carries nothing: that of its die to the I/O die, where the reeve is (spec/01_device.md;
R404)? -/
def State.cutOff (s : State) (id : SenderId) : Bool :=
  match id with
  | .coreReeve c => s.retraining (.die c.die)
  | _ => false

/-- A new entry of a sender: accepted at once while none waits, else behind the waiting ones, up to a
full window (R59). -/
def State.enterQueue (s : State) (id : SenderId) (owner : CoachId × DWord) : Option State :=
  let k := s.sender id
  if k.entries.isEmpty ∧ ¬ s.cutOff id then some (s.setSender { k with last := some owner })
  else if k.entries.length < Config.windowSize then
    some (s.setSender { k with last := some owner, entries := k.entries ++ [some owner] })
  else none

/-- The sender of a core, or of its die, at a join: 0 coach to memory, 1 dray to network, 2 core to reeve, 3 die to
fabric (R59, R370). -/
def joinSender (core : CoreId) (join : Nat) : SenderId :=
  match join with
  | 0 => .coachMemory core
  | 1 => .drayNetwork core
  | 2 => .coreReeve core
  | _ => .dieFabric core.die

/-- Send the read requests of elements that lack their data, as many as there is room for, and wait for the answers; or
wait for room. The rest is sent when the answers have come (R59, R319; log 64). -/
def State.askFor (s : State) (l : Launch) (c : Coach) (rs : List (Elem × Loc)) : Stop :=
  let s1 := s.sendReads l c rs (byLane rs) []
  if s1.requests.length = s.requests.length then
    .wait (if rs.any (fun r => r.2.isPeer && s.lacks c r) then .window 3 else .remote) s
  else .wait .remote s1

/-- Must an access of a location of the package wait for a request that the coach has sent to its own package through the
fabric: it might be of the same location (R234)? -/
def State.ownPending (s : State) (c : Coach) (rs : List (Elem × Loc)) : Bool :=
  s.ownWaits c && rs.any (fun r => !r.2.isPeer)

/-- Admit an entry of a join, or wait on its full window (R59). -/
def State.entering (s : State) (c : Coach) (join : Nat) (k : State → Except Stop State) :
    Except Stop State :=
  match s.enterQueue (joinSender c.core join) (c.id, c.pc) with
  | none => .error (.wait (.window join) s)
  | some s1 => k s1

/-! ### Loads -/

/-- How a load through a pointer meets the data cache (R104). -/
def ptrReadKind (p : BitVec 128) : ReadKind :=
  if ptrCls p = 2 then (if 4 ≤ ptrScope p then .home else .leased) else .cached

/-- The ORD in effect: accesses of CLASS 0 and 1 are relaxed (R235). -/
def ptrOrder (p : BitVec 128) : Nat := if ptrCls p = 2 then ptrOrd p else 0

/-- Does a synchronising access order (R235)? -/
def ptrOrders (p : BitVec 128) : Bool := 1 ≤ ptrOrder p

/-- The scope in effect (R90). -/
def ptrEffScope (p : BitVec 128) : Nat :=
  match ptrSpace p with
  | 1 => min (ptrScope p) 1
  | 2 => min (ptrScope p) 2
  | _ => ptrScope p

/-- How a load through a pointer is performed (R104, R105, R235); the gather and matrix paths never acquire
(R311). -/
def ptrReadMode (p : BitVec 128) (relaxed : Bool) : ReadMode :=
  { kind := ptrReadKind p, fill := ptrCpol p != 3, ord := if relaxed then 0 else ptrOrder p }

/-- Perform the read of one element. -/
def State.readElem (s : State) (l : Launch) (c : Coach) (relaxed : Bool) (r : Elem × Loc) :
    Nat × State :=
  let p := l.party (some c.core)
  let m := ptrReadMode r.1.p relaxed
  if r.2.isRemote then
    let bs := c.answerBytes r.1 r.2
    (leNat bs, (s.keepHost c r.1 r.2 bs).orderPlain p (1 ≤ m.ord) (m.ord == 2) (ptrEffScope r.1.p) r.2 r.2)
  else
    let s0 := if translated (ptrSpace r.1.p) then s.noteTranslation p r.1.va else s
    match s0.place p (ptrSpace r.1.p) r.1.va (ptrWide? r.1.p false) false r.2 with
    | (loc, s1) =>
      match s1.readLoc p m loc r.1.size with
      | (bs, s2) => (leNat bs, s2.orderPlain p (1 ≤ m.ord) (m.ord == 2) (ptrEffScope r.1.p) r.2 loc)

/-- Perform the reads of elements in order. -/
def State.readElems (s : State) (l : Launch) (c : Coach) (relaxed : Bool) :
    List (Elem × Loc) → List Nat × State
  | [] => ([], s)
  | r :: rest =>
    match s.readElem l c relaxed r with
    | (v, s1) =>
      match s1.readElems l c relaxed rest with
      | (vs, s2) => (v :: vs, s2)

/-- Granules that elements in local stores touch, scale bytes among them, whose reads are further accesses of the
instruction (R101, R102, R233; log 61). -/
def granulesOf (rs : List (Elem × Loc)) : List (CoreId × Nat) :=
  rs.foldl (fun acc r => match r.2 with
    | .store k a =>
      let g := (k, a / 16)
      if acc.contains g then acc else acc ++ [g]
    | _ => acc) []

/-- Order granules by core and granule number. -/
def insertGranule (g : CoreId × Nat) : List (CoreId × Nat) → List (CoreId × Nat)
  | [] => [g]
  | h :: t =>
    if coreIndex g.1 * 2 ^ 20 + g.2 ≤ coreIndex h.1 * 2 ^ 20 + h.2 then g :: h :: t
    else h :: insertGranule g t

def sortGranules (gs : List (CoreId × Nat)) : List (CoreId × Nat) := gs.foldr insertGranule []

/-- Clear the full-empty bits of granules. -/
def State.clearGranules (s : State) : List (CoreId × Nat) → State
  | [] => s
  | g :: t => (s.setFull g.1 g.2 false).clearGranules t

/-- Resolve and read the elements of one instruction. A remote read first sends its requests and waits
(R319); a `.fe` or `.fec` load waits for its granules (R102). `feq`: 0 none, 1 .fe, 2 .fec. -/
def State.loadElems (s : State) (l : Launch) (c : Coach) (f : Fields) (m : AccessMode) (feq : Nat)
    (relaxed : Bool) (es : List Elem) : Except Stop (List Nat × State) :=
  match s.resolve l c { m with fe := feq != 0, answered := m.answered || !c.answers.isEmpty } es with
  | .error t => .error (.trap t)
  | .ok rs =>
    if s.ownPending c rs then .error (.wait .remote s)
    else if s.lacksAnswer c rs then .error (s.askFor l c rs)
    else
      let gs := granulesOf rs
      if feq != 0 && gs.any (fun g => !s.isFull g.1 g.2) then
        .error (.wait (.fe f (sortGranules gs)) s)
      else
        match s.readElems l (s.withCopies c rs) relaxed rs with
        | (vs, s1) =>
          let s2 := if feq = 2 then s1.clearGranules gs else s1
          .ok (vs, if feq = 0 then s2 else s2.acquireCluster c.core)

/-! ### Conversions of loads and stores (R88, R232) -/

/-- A codebook slot of a coach's crew. -/
def State.cbSlot (s : State) (c : Coach) (n : Nat) : CbSlot :=
  match s.crewOf c with
  | some k => k.cb.getD n { loaded := false, entries := [] }
  | none => { loaded := false, entries := [] }

/-- An element of bits `n` as a 32-bit register value (R88). -/
def fmtToWord (fmt : Nat) (cb : List (BitVec 16)) (n : Nat) : Word :=
  BitVec.ofNat 32 (match fmt with
    | 0x01 => toBits 32 (sextInt n 8)
    | 0x03 => toBits 32 (sextInt n 16)
    | 0x08 => exactB32 (FloatFormat.b16.decode n)
    | 0x09 => exactB32 (FloatFormat.bf16.decode n)
    | 0x0B => exactB32 (FloatFormat.e4m3.decode n)
    | 0x0C => exactB32 (FloatFormat.e5m2.decode n)
    | 0x0D => exactB32 (FloatFormat.e2m1.decode n)
    | 0x0E => toBits 32 (sextInt n 4)
    | _ => if fmtCb4 fmt then exactB32 (cbEntry cb n) else n)

/-- An element as an X register value: integers extend to 64 bits (R232). -/
def fmtToDWord (fmt : Nat) (cb : List (BitVec 16)) (n : Nat) : DWord :=
  match fmt with
  | 0x01 => BitVec.ofInt 64 (sextInt n 8)
  | 0x03 => BitVec.ofInt 64 (sextInt n 16)
  | 0x05 => BitVec.ofInt 64 (sextInt n 32)
  | 0x0E => BitVec.ofInt 64 (sextInt n 4)
  | 0x00 | 0x02 | 0x04 | 0x06 | 0x07 => BitVec.ofNat 64 n
  | _ => (fmtToWord fmt cb n).setWidth 64

/-- A register value of `w` bits as element bits (R232). -/
def fmtFromReg (fmt : Nat) (cb : List (BitVec 16)) (w n : Nat) : Nat :=
  let lo := n % 2 ^ 32
  match fmt with
  | 0x01 => toBits 8 (clampInt (-128) 127 (sextInt n w))
  | 0x02 => min (n % 2 ^ w) 255
  | 0x03 => toBits 16 (clampInt (-32768) 32767 (sextInt n w))
  | 0x04 => min (n % 2 ^ w) 65535
  | 0x05 => toBits 32 (clampInt (-(2 ^ 31)) (2 ^ 31 - 1) (sextInt n w))
  | 0x06 => min (n % 2 ^ w) (2 ^ 32 - 1)
  | 0x08 => storeFloat .b16 lo
  | 0x09 => storeFloat .bf16 lo
  | 0x0A => lo
  | 0x0B => storeFloat .e4m3 lo
  | 0x0C => storeFloat .e5m2 lo
  | 0x0D => storeFloat .e2m1 lo
  | 0x0E => toBits 4 (clampInt (-8) 7 (sextInt n w))
  | _ => if fmtCb4 fmt then cbEncode cb (FloatFormat.b32.decode lo) else n

/-- Nibble `h` (0 low, 1 high) of a byte. -/
def nibble (n h : Nat) : Nat := n / 16 ^ h % 16

/-! ### Lane accesses with blocks -/

/-- One lane's access: byte offset, nibble, and element index for the scale byte. -/
structure LaneAt where
  lane : Nat
  off : Int
  nib : Nat := 0
  index : Int := 0
  deriving DecidableEq, Repr

/-- The data pointer of an access with the sizes of its form, and the scale pointer of a block format
(R233). -/
structure LanePlan where
  ptr : Nat
  scalePtr : Option Nat
  raw : Nat
  offMul : Nat := 1
  deriving DecidableEq, Repr

/-- FMT of the data pointer. -/
def LanePlan.fmt (q : LanePlan) (c : Coach) : Nat := ptrFmt (c.pr q.ptr)

/-- Element index `e` at its byte offset (R230). -/
def laneIndex (fmt raw lane : Nat) (e : Int) : LaneAt :=
  if fmtHalf fmt then { lane := lane, off := e / 2, nib := (e % 2).toNat, index := e }
  else { lane := lane, off := e * (fmtBytes raw fmt : Int), index := e }

/-- The elements of the lanes: data first, then scale bytes. -/
def LanePlan.elems (q : LanePlan) (c : Coach) (write atomic : Bool) (ls : List LaneAt) : List Elem :=
  let p := c.pr q.ptr
  let n := fmtBytes q.raw (ptrFmt p)
  ls.map (fun a => ⟨a.lane, q.ptr, p, a.off, n, min n 16, q.offMul, false, write, atomic⟩)
    ++ (match q.scalePtr with
        | none => []
        | some k => ls.map (fun a =>
            ⟨a.lane, k, c.pr k, a.index / 32, 1, 1, 1, true, false, false⟩))

/-- The codebook that a CB4 tag uses: slot FMT − 0x10 of the scale pointer (R233). -/
def Coach.scaleCb (c : Coach) (q : LanePlan) : Nat :=
  match q.scalePtr with
  | some k => ptrFmt (c.pr k) - 0x10
  | none => 0

/-- A block element with a CB4 tag (R148). -/
def isCb4Tag (fmt byte : Nat) : Bool := fmt == 0x19 && byte / 64 == 2

/-- A BLK4 block whose tag names a format other than CB4; a ZERO block names none (R148, R233; log 65). -/
def isPlainTag (fmt byte : Nat) : Bool := fmt == 0x19 && byte / 64 < 2

/-- FMT of a scale pointer that a block format accepts before any tag is met (R233): only BLK4 has CB4 tags. -/
def scaleFmtOk (fmt n : Nat) : Bool := n == 0 || n == 2 || (fmt == 0x19 && fmtCb4 n)

/-- The OPERAND trap of blocks whose tags do not match the scale pointer's FMT, or need a codebook that is not named or
not loaded (R233, R358 0x0106, 0x0108, 0x0109), or the MACHINE trap of a poisoned one (R398). -/
def State.blockTrap (s : State) (c : Coach) (q : LanePlan) (ls : List LaneAt) (scales : List Nat) :
    Option Trap :=
  let need := (ls.zip scales).filter (fun r => isCb4Tag (q.fmt c) r.2)
  match q.scalePtr with
  | none => none
  | some k =>
    if fmtCb4 (ptrFmt (c.pr k)) && scales.any (isPlainTag (q.fmt c)) then
      some (operandTrap 0x0106 (ptrFmt (c.pr k) + 256 * k))
    else if need.isEmpty then none
    else if !fmtCb4 (ptrFmt (c.pr k)) then
      some { operandTrap 0x0109 0 with lanes := need.foldl (fun acc r => acc ||| bitAt r.1.lane) 0 }
    else if s.regPoisoned c.id (6, c.scaleCb q) then some { cls := 11, code := 2 }
    else if !(s.cbSlot c (c.scaleCb q)).loaded then some (operandTrap 0x0108 (c.scaleCb q))
    else none

/-- A data element as a 32-bit register value: its nibble, and its block's scale (R88, R149). -/
def State.elemWord (s : State) (c : Coach) (q : LanePlan) (a : LaneAt) (n scale : Nat) : Word :=
  let fmt := q.fmt c
  let bits := if fmtHalf fmt then nibble n a.nib else n
  if fmtBlock fmt then
    BitVec.ofNat 32 (dequant (fmt == 0x19) scale (s.cbSlot c (c.scaleCb q)).entries bits)
  else fmtToWord fmt (s.cbSlot c (fmt - 0x10)).entries bits

/-- The accesses of one operand: its plan and its lanes. -/
abbrev LaneLoad := LanePlan × List LaneAt

/-- The data and the scale bytes of each operand among the values that several bring. -/
def planValues : List LaneLoad → List Nat → List (LaneLoad × List Nat × List Nat)
  | [], _ => []
  | q :: rest, vs =>
    let n := q.2.length
    if q.1.scalePtr.isSome then
      (q, vs.take n, (vs.drop n).take n) :: planValues rest (vs.drop (2 * n))
    else (q, vs.take n, List.replicate n 0) :: planValues rest (vs.drop n)

/-- Of the OPERAND traps that fail, the one of least code, the first among equals (R354). -/
def leastTrap : List (Option Trap) → Option Trap
  | [] => none
  | none :: rest => leastTrap rest
  | some t :: rest => match leastTrap rest with
    | none => some t
    | some u => if u.code < t.code then some u else some t

/-- Load a 32-bit value for each lane access of the operands of one instruction, whose accesses are checked together
(R231, R232, R233, R388); and the OPERAND trap that the blocks' tags show, judged on the bytes read (log 66). -/
def State.loadPlans (s : State) (l : Launch) (c : Coach) (f : Fields) (feq : Nat) (qs : List LaneLoad) :
    Except Stop (List (List (Nat × Word)) × Option Trap × State) :=
  match s.loadElems l c f {} feq false (qs.flatMap (fun q => q.1.elems c false false q.2)) with
  | .error e => .error e
  | .ok (vs, s1) =>
    let parts := planValues qs vs
    .ok (parts.map (fun r => (r.1.2.zip (r.2.1.zip r.2.2)).map (fun x =>
        (x.1.lane, s.elemWord c r.1.1 x.1 x.2.1 x.2.2))),
      leastTrap (parts.map (fun r => s.blockTrap c r.1.1 r.1.2 r.2.2)), s1)

/-- Load a 32-bit value for each lane access of one operand. -/
def State.loadLanes (s : State) (l : Launch) (c : Coach) (f : Fields) (q : LanePlan) (feq : Nat)
    (ls : List LaneAt) : Except Stop (List (Nat × Word) × State) :=
  match s.loadPlans l c f feq [(q, ls)] with
  | .error e => .error e
  | .ok (_, some t, _) => .error (.trap t)
  | .ok (vs, none, s1) => .ok (vs.headD [], s1)

/-! ### Stores -/

/-- One stored element: its place, the nibble of its byte for a half-byte format, and its bits. -/
abbrev StoreItem := (Elem × Loc) × Option Nat × Nat

/-- The byte that a half-byte element leaves over an old one (R232). -/
def nibbleOver (old h n : Nat) : Nat := old - nibble old h * 16 ^ h + n % 16 * 16 ^ h

/-- The line of Lunath that an access is performed in. -/
def Loc.line (loc : Loc) : Option Nat :=
  match loc with
  | .lunath a => some (a / 128)
  | _ => none

/-- Store the bytes of one element; a half-byte element changes only its nibble (R232). `lines`: the lines of Lunath
that the instruction has written, each in one write (R332). -/
def State.writeElem (s : State) (l : Launch) (c : Coach) (lines : List Nat) (x : StoreItem) : State :=
  let r := x.1
  let p := l.party (some c.core)
  let s0 := if translated (ptrSpace r.1.p) then s.noteTranslation p r.1.va else s
  match s0.place p (ptrSpace r.1.p) r.1.va (ptrWide? r.1.p false) true r.2 with
  | (loc, s1) =>
    let joined := (loc.line.map lines.contains).getD false
    let s2 := s1.orderPlain p false (ptrOrder r.1.p == 2) (ptrEffScope r.1.p) r.2 loc
    s2.writeLocAs p (ptrCls r.1.p) (ptrCpol r.1.p != 3) joined loc (match x.2.1 with
      | none => natLe r.1.size x.2.2
      | some h => natLe 1 (nibbleOver (leNat (s2.readLoc p .atHome loc 1).1) h x.2.2))

/-- A store to host space leaves as a posted write, through the core's data cache (R104). -/
def State.hostStore (s : State) (c : Coach) (n : Nat) (e : Elem) (a : Nat) : State :=
  let k := s.core c.core
  let s1 := ({ s with outbox := s.outbox ++ [Emission.hostWrite a (natLe e.size n)] } : State).passReads c.core
  if k.host.isEmpty then s1 else s1.setCore { k with host := overCells k.host a (natLe e.size n) }

/-- Half-byte stores outside the package change only their nibbles: they go as whole bytes, over what a read of each byte
has brought, one for all nibbles of a byte, at the place of the lowest lane (R232, R315; log 62). A byte whose read has
timed out is not stored (R319). `before`: the stores that have been seen. -/
def Coach.wholeBytes (c : Coach) (all before : List StoreItem) : List StoreItem → List StoreItem
  | [] => []
  | x :: rest =>
    let joined (y : StoreItem) : Bool := y.2.1.isSome && y.1.2 == x.1.2
    (if x.2.1.isNone || !x.1.2.isRemote then [x]
     else if before.any joined || c.answerBad (readKey x.1.1 x.1.2) then []
     else [(x.1, none, (all.filter joined).foldl (fun b y => nibbleOver b (y.2.1.getD 0) y.2.2)
        (leNat (c.answerBytes x.1.1 x.1.2)))]) ++ c.wholeBytes all (x :: before) rest

/-- The accesses of half-byte stores outside the package, which read before they write (R232). -/
def halfReads (half : Bool) (rs : List (Elem × Loc)) : List (Elem × Loc) := if half then rs.filter (fun r => r.2.isRemote) else []

/-- The bytes that stores of one instruction give a remote line, later lanes over earlier ones (R234, R315). -/
def lineData (key : Nat) (rs : List StoreItem) : List Host.Cell :=
  (rs.filter (fun r => r.1.2.isRemote && readKey r.1.1 r.1.2 == key)).foldl
    (fun acc r => putCells acc (r.1.1.va % 128) (natLe r.1.1.size r.2.2)) []

/-- The key of the mark that a write of a line has been sent. -/
def sentKey (key : Nat) : Nat := 2 ^ 91 + key

/-- Send the write packets of one instruction that have not been sent and for which there is room, one a line, and mark
them (R59, R315). -/
def State.sendWrites (s : State) (l : Launch) (c : Coach) (all : List StoreItem) :
    List StoreItem → List Answer → List Answer × State
  | [], sent => (sent, s)
  | r :: rest, sent =>
    let key := readKey r.1.1 r.1.2
    if !r.1.2.isPeer || sent.any (fun a => a.key == sentKey key) || !s.hasRoom c true then s.sendWrites l c all rest sent
    else
      let cells := lineData key all
      let tag := s.nextTag true
      let be := cells.foldl (fun acc q => acc ||| byteEnables q.1 1) (0 : BitVec 128)
      let data := (List.range 128).map (fun i => (cellAt cells i).getD 0)
      ((s.sendFrom c (s.packet l r.1.1.p 1 r.1.1.va tag be data)).await_ c r.1.1.p r.1.1.va tag 1 key 0 true).sendWrites
        l c all rest ({ key := sentKey key, bytes := [] } :: sent)

/-- Have all packets of the instruction's writes been sent? -/
def allSent (rs : List StoreItem) (sent : List Answer) : Bool :=
  rs.all (fun r => !r.1.2.isPeer || sent.any (fun a => a.key == sentKey (readKey r.1.1 r.1.2)))

/-- Perform the stores of one instruction in increasing lane order (R234); those to other packages have been sent. -/
def State.writeElems (s : State) (l : Launch) (c : Coach) (lines : List Nat) : List StoreItem → State
  | [] => s
  | r :: rest =>
    let p := l.party (some c.core)
    let sc := ptrOrder r.1.1.p == 2
    let s1 := match r.1.2 with
      | .peer _ => s.orderPlain p false sc (ptrEffScope r.1.1.p) r.1.2 r.1.2
      | .host a => (s.hostStore c r.2.2 r.1.1 a).orderPlain p false sc (ptrEffScope r.1.1.p) r.1.2 r.1.2
      | _ => s.writeElem l c lines r
    s1.writeElems l c (r.1.2.line.toList ++ lines) rest

/-- Does a store write a whole byte, or with others of its instruction both nibbles of it? -/
def coversByte (rs : List StoreItem) (a : Nat) : Bool :=
  let on (r : StoreItem) : Bool := match r.1.2 with
    | .lunath b => decide (b ≤ a) && decide (a < b + r.1.1.size)
    | _ => false
  rs.any (fun r => on r && r.2.1 == none) || (rs.any (fun r => on r && r.2.1 == some 0) && rs.any (fun r => on r && r.2.1 == some 1))

/-- A poisoned line that the stores of one instruction have written whole at its home loses its poison, not one whose stores
have stayed in the L2 of another die (R397). -/
def State.unpoisonLines (s : State) (p : Party) (rs : List StoreItem) : State :=
  if s.poison.isEmpty then s
  else
    let home := rs.filter (fun r =>
      (s.servedBy p (ptrSpace r.1.1.p) r.1.1.va (ptrWide? r.1.1.p false) r.1.2).isNone)
    { s with poison := s.poison.filter (fun q => match q with
      | .line n => s.remote.any (fun r => r.line == n) || !(List.range 128).all (fun i => coversByte home (128 * n + i))
      | _ => true) }

/-- The stores of one instruction: its packets as there is room, then all others (R59, R234). -/
def State.performStores (s : State) (l : Launch) (c : Coach) (rs : List StoreItem) : Except Stop State :=
  let items := c.wholeBytes rs [] rs
  match s.sendWrites l c items items c.answers with
  | (sent, s1) =>
    if allSent items sent then .ok ((s1.writeElems l c [] items).unpoisonLines (l.party (some c.core)) items)
    else .error (.wait (.window 3) (s1.setCoach { c with answers := sent }))

/-- Do two places overlap, of `n` and of `m` bytes? -/
def Loc.meets (x : Loc) (n : Nat) (y : Loc) (m : Nat) : Bool :=
  let at_ (a b : Nat) : Bool := decide (a < b + m) && decide (b < a + n)
  match x, y with
  | .lunath a, .lunath b => at_ a b
  | .store k a, .store j b => k == j && at_ a b
  | .host a, .host b => at_ a b
  | .peer a, .peer b => at_ a b
  | _, _ => false

/-- Is a place among those that a panel is read from? Its elements have at most four bytes. -/
def Panel.meets (q : Panel) (x : Loc) (n : Nat) : Bool :=
  q.data.any (fun y => x.meets n y 4) || q.scales.any (fun y => x.meets n y 1)

/-- Must a store or atomic of the coach follow the reads of its matrix instruction in flight: it is a release, or goes to
a byte that the instruction reads (R235, R263)? -/
def Coach.gridBlocks (c : Coach) (p : BitVec 128) (rs : List (Elem × Loc)) : Bool :=
  match c.grid with
  | none => false
  | some w => ptrOrders p || rs.any (fun r => w.a.meets r.2 r.1.size || w.b.meets r.2 r.1.size)

/-- A release waits until every earlier access of its coach is performed or has timed out (R235,
R313). -/
def State.releaseBlocked (s : State) (c : Coach) (p : BitVec 128) : Bool :=
  ptrOrders p && s.outstanding c

/-- Element bits of the lanes of a store, and how many saturate against a calibrated block scale
(R151, R232, R233). -/
def State.storeBits (s : State) (c : Coach) (q : LanePlan) (w : Nat) (v scale : Nat) : Nat × Bool :=
  let fmt := q.fmt c
  if fmtBlock fmt then
    quantise (tagFormat (fmt == 0x19) (scale / 64)) (s.cbSlot c (c.scaleCb q)).entries (scale % 64)
      (v % 2 ^ 32)
  else (fmtFromReg fmt (s.cbSlot c (fmt - 0x10)).entries w v, false)

/-- Add to CSTAT.QSAT, which stops at 2^32 − 1 (R78, R385). -/
def addQsat (cstat : DWord) (n : Nat) : DWord :=
  setField cstat 16 32 (min (bits cstat 47 16 + n) (2 ^ 32 - 1))

/-- Store a register value of `w` bits for each lane access (R231-R235). The coach makes progress
(R376). -/
def State.storeLanes (s : State) (l : Launch) (c : Coach) (m : AccessMode) (q : LanePlan) (w : Nat)
    (ls : List (LaneAt × Nat)) : Except Stop (State × Coach) :=
  let es := q.elems c true false (ls.map (·.1))
  match s.resolve l c { m with answered := !c.answers.isEmpty } es with
  | .error t => .error (.trap t)
  | .ok rs =>
    let data := rs.take ls.length
    let scaleRs := rs.drop ls.length
    if c.gridBlocks (c.pr q.ptr) data then .error (.wait .ownGrid s)
    else if s.releaseBlocked c (c.pr q.ptr) then .error (.wait .remote s)
    else if s.ownPending c rs then .error (.wait .remote s)
    else if s.lacksAnswer c (halfReads (fmtHalf (q.fmt c)) data ++ scaleRs) then
      .error (s.askFor l c (halfReads (fmtHalf (q.fmt c)) data ++ scaleRs))
    else
      let cr := s.withCopies c (halfReads (fmtHalf (q.fmt c)) data ++ scaleRs)
      match s.readElems l cr false scaleRs with
      | (svs, s1) =>
        let scales := if q.scalePtr.isSome then svs else List.replicate ls.length 0
        match s.blockTrap c q (ls.map (·.1)) scales with
        | some t => .error (.trap t)
        | none =>
          let outs := (ls.zip scales).map (fun r => s.storeBits c q w r.1.2 r.2)
          let half (a : LaneAt) : Option Nat := if fmtHalf (q.fmt c) then some a.nib else none
          let items : List StoreItem := (data.zip (ls.zip outs)).map (fun r => (r.1, half r.2.1.1, r.2.2.1))
          match s1.performStores l cr items with
          | .error e => .error e
          | .ok s2 =>
            .ok (s2, { c with
              cstat := addQsat c.cstat (outs.filter (·.2)).length
              wdc := if data.any (fun r => !r.2.isPeer) then 0 else c.wdc })

end Sys2Proof.Machine
end

