-- ==== Sys2Proof/Machine/Operands.lean ====
section
/-! DEFINITION. Vector operands: shape tags (R67, R68), the operand latch (R70-R72), streams (R73-R75),
uniform values (R83), literals and scalar operands of vector instructions (R126, R129), the block in
matrix mode (R254, R361), and the writing of results. -/

namespace Sys2Proof.Machine

open Sys2Proof


/-- The register in W words. -/
def VReg.expand (v : VReg) (w : Nat) : VReg := .g ((List.range w).map v.elem)

def VReg.isG (v : VReg) : Bool :=
  match v with
  | .g _ => true
  | _ => false

/-- V0-V251 of a coach. -/
def Coach.vr (c : Coach) (n : Nat) : VReg := c.v.getD n (.u 0)

/-! ### Reading a V operand (R66, R72) -/

/-- The valid latch entry of a coach, by entry number (R71). -/
def State.latchOf (s : State) (c : Coach) (e : Nat) : Option Latch :=
  match (s.core c.core).latch.getD e none with
  | some l => if l.owner = c.id then some l else none
  | none => none

/-- A V operand as delivered: its value, the origin that a HOLD records, and whether no valid entry and
no origin was found (R70, R72). -/
structure Delivered where
  value : VReg
  origin : Option Nat
  lost : Bool
  deriving DecidableEq, Repr

/-- Read a V operand. What a latch field delivers never counts as tag U (R179), whether the entry is
valid or its origin register is read. -/
def State.readV (s : State) (c : Coach) (n : Nat) : Delivered :=
  if n < 252 then { value := c.vr n, origin := some n, lost := false }
  else if n = 255 then { value := .u 0, origin := none, lost := false }
  else
    match s.latchOf c (n - 252), c.lor.getD (n - 252) none with
    | some l, o => { value := l.value, origin := o, lost := false }
    | none, some r => { value := (c.vr r).expand 64, origin := none, lost := false }
    | none, none => { value := .g (List.replicate 64 0), origin := none, lost := true }

/-- Set CSTAT.LLOST (R72). -/
def Coach.noteLost (c : Coach) (lost : Bool) : Coach :=
  if lost then { c with cstat := c.cstat ||| 2#64 } else c

/-! ### Streams (R73-R75) -/

/-- Word i of a stream register. -/
def strWord (v : BitVec 384) (i : Nat) : Nat := bits v (64 * i + 63) (64 * i)

def strPos (v : BitVec 384) : Nat := bits v 63 16


/-- Extent of dimension d (R73). -/
def strExt (v : BitVec 384) (d : Nat) : Nat :=
  match d with
  | 0 => bits v (64 * 4 + 31) (64 * 4)
  | 1 => bits v (64 * 4 + 63) (64 * 4 + 32)
  | 2 => bits v (64 * 5 + 31) (64 * 5)
  | 3 => bits v (64 * 5 + 63) (64 * 5 + 32)
  | _ => bits v (64 * 3 + 63) (64 * 3 + 32)

/-- Signed element stride of dimension d (R73). -/
def strStride (v : BitVec 384) (d : Nat) : Int :=
  sextInt (match d with
    | 0 => bits v (64 * 1 + 31) (64 * 1)
    | 1 => bits v (64 * 1 + 63) (64 * 1 + 32)
    | 2 => bits v (64 * 2 + 31) (64 * 2)
    | 3 => bits v (64 * 2 + 63) (64 * 2 + 32)
    | _ => bits v (64 * 3 + 31) (64 * 3)) 32

/-- Elements of the stream (R74). -/
def strCount (v : BitVec 384) : Nat :=
  strExt v 0 * strExt v 1 * strExt v 2 * strExt v 3 * strExt v 4

/-- Element offset of stream element e (R74). -/
def strOffset (v : BitVec 384) (e : Nat) : Int :=
  let q0 := e / strExt v 0
  let q1 := q0 / strExt v 1
  let q2 := q1 / strExt v 2
  ((e % strExt v 0 : Nat) : Int) * strStride v 0 + ((q0 % strExt v 1 : Nat) : Int) * strStride v 1
    + ((q1 % strExt v 2 : Nat) : Int) * strStride v 2 + ((q2 % strExt v 3 : Nat) : Int) * strStride v 3
    + ((q2 / strExt v 3 : Nat) : Int) * strStride v 4

/-- The stream at another position. -/
def strAt (v : BitVec 384) (pos : Nat) : BitVec 384 := setField v 16 48 pos

/-- The access of stream element e for a lane: at its element offset, scaled by its element index. -/
def strLane (v : BitVec 384) (fmt lane e : Nat) : LaneAt :=
  { laneIndex fmt 4 lane (strOffset v e) with index := (e : Int) }

/-- The plan of a stream's accesses (R74). -/
def Coach.strPlan (c : Coach) (v : BitVec 384) : LanePlan :=
  { ptr := strPix v, scalePtr := if strScaled c.pr v then some (strSpix v) else none, raw := 4 }

/-- The accesses of the next vector of a stream (R74). -/
def strLanes (v : BitVec 384) (c : Coach) : List LaneAt :=
  ((List.range c.width).filter (fun j => strPos v + j < strCount v)).map (fun j =>
    strLane v (ptrFmt (c.pr (strPix v))) j (strPos v + j))

/-- The vector of the values that lanes have read; the others are 0 (R74). -/
def lanesVector (w : Nat) (vals : List (Nat × Word)) : VReg :=
  .g ((List.range w).map (fun j => match vals.find? (fun r => r.1 == j) with
    | some r => r.2
    | none => 0))

/-- The position of stream S[n] advances by W (R74). -/
def Coach.advanceStream (c : Coach) (n : Nat) : Coach :=
  c.setS n (strAt (c.sr n) (min (strPos (c.sr n) + c.width) (strCount (c.sr n))))

/-- Read the next vector of stream S[n]; its position advances by W (R74). -/
def State.readStream (s : State) (l : Launch) (c : Coach) (f : Fields) (n : Nat) :
    Except Stop (VReg × State × Coach) :=
  match s.loadLanes l c f (c.strPlan (c.sr n)) 0 (strLanes (c.sr n) c) with
  | .error e => .error e
  | .ok (vals, s1) => .ok (lanesVector c.width vals, s1, c.advanceStream n)

/-- FMT codes that a vector access accepts (R230). -/
def fmtOkV (fmt : Nat) : Bool := fmtAssigned fmt && fmt != 0x07 && fmt != 0x1A

/-- The OPERAND checks of a stream's pointers: FMT (0x0106), a codebook not loaded (0x0108), a block
format without a scale pointer (0x0109) (R74, R230, R233, R358). A stream that is exhausted makes no access and raises
nothing (R362). -/
def State.streamTrap (s : State) (l : Launch) (c : Coach) (code n : Nat) : Option Trap :=
  let v := c.sr n
  let p := c.pr (strPix v)
  let fmt := ptrFmt p
  if !ptrWellFormed l.scopeMax p || strCount v ≤ strPos v then none
  else match code with
  | 0x0106 =>
    if !fmtOkV fmt then some (operandTrap 0x0106 (fmt + 256 * strPix v))
    else if fmtBlock fmt && strSen v then
      let sp := c.pr (strSpix v)
      let sf := ptrFmt sp
      if ptrWellFormed l.scopeMax sp && !scaleFmtOk fmt sf then
        some (operandTrap 0x0106 (sf + 256 * strSpix v)) else none
    else none
  | 0x0108 => if fmtCb4 fmt && !(s.cbSlot c (fmt - 0x10)).loaded
              then some (operandTrap 0x0108 (fmt - 0x10)) else none
  | _ => if fmtBlock fmt && !strSen v then some (operandTrap 0x0109 0) else none

/-- Is A, or B, a stream of the instruction (R129)? -/
def streamA (o : Op) (f : Fields) : Bool := f.astr && allowsAstr o f
def streamB (o : Op) (f : Fields) : Bool := f.bstr && allowsBstr o f && f.form != .f96

/-- The coach after A has been read: where A is a stream, it has advanced (R75). -/
def Coach.afterA (c : Coach) (o : Op) (f : Fields) : Coach := if streamA o f then c.advanceStream f.a.toNat else c

/-- The coach after A and B have been read. -/
def Coach.afterStreams (c : Coach) (o : Op) (f : Fields) : Coach :=
  if streamB o f then (c.afterA o f).advanceStream f.b.toNat else c.afterA o f

/-- The stream registers that an instruction reads as vectors, each with the coach that the read finds (R75). -/
def Coach.streamsRead (c : Coach) (o : Op) (f : Fields) : List (Nat × Coach) :=
  (if streamA o f then [(f.a.toNat, c)] else []) ++ (if streamB o f then [(f.b.toNat, c.afterA o f)] else [])

/-- The first trap of a code over the instruction's streams. -/
def State.streamTraps (s : State) (l : Launch) (c : Coach) (o : Op) (f : Fields) (code : Nat) :
    Option Trap :=
  (c.streamsRead o f).findSome? (fun r => s.streamTrap l r.2 code r.1)

/-! ### The block in matrix mode (R254, R361) -/

/-- VB of MXS (R79). -/
def Coach.vb (c : Coach) : Nat := bits c.mxs 9 2

/-- Is a register of the accumulator block named? -/
def Coach.inBlock (c : Coach) (n : Nat) : Bool := c.vb ≤ n && n < c.vb + 32

/-- The register that a V field of a source names, through a latch entry's origin too. -/
def Coach.touched (c : Coach) (k : Kind) (n : Nat) : Option Nat :=
  match k with
  | .v | .vReg | .vReg255 => if n < 252 then some n else if n = 255 then none else c.lor.getD (n - 252) none
  | _ => none

/-- Does an instruction take old elements of the latch entry that it writes: lanes that it leaves unchanged (R68,
R70, R225), or elements that PACK keeps (R201)? -/
def Coach.readsLatchD (c : Coach) (o : Op) (f : Fields) : Bool :=
  (c.notExited &&& ~~~(c.act f)) != 0
    || (match o with
      | .compress | .expand | .scan | .matchL => c.act f != c.lanes
      | .qamax => f.k 2 2 == 1 && c.act f != c.lanes
      | .pack => 2 ≤ f.k 2 0
      | _ => false)

/-- The block registers that the fields of an instruction name, D first. A D that names a latch entry counts where the
instruction takes old elements of it. -/
def Coach.blockNamed (c : Coach) (o : Op) (f : Fields) : List Nat :=
  let sh := shape o f
  ([if f.d.toNat < 252 || c.readsLatchD o f then c.touched sh.d f.d.toNat else none, c.touched (kindA o f) f.a.toNat,
    c.touched (kindB o f) f.b.toNat, c.touched sh.c f.c.toNat].filterMap (fun r => r)).filter c.inBlock

/-- OPERAND 0x0103: the block touched while MXM = 1. -/
def Coach.blockTrap (c : Coach) (o : Op) (f : Fields) : Option Trap :=
  if c.mxm then
    match c.blockNamed o f with
    | [] => none
    | r :: _ => some (operandTrap 0x0103 r)
  else none

/-! ### Operands of a vector instruction -/

/-- What a stream delivers: nothing that a HOLD or the latch could trace (R70). -/
def Delivered.ofStream (v : VReg) : Delivered := { value := v, origin := none, lost := false }

/-- Operand A where it is no stream: a V operand. -/
def State.plainA (s : State) (c : Coach) (f : Fields) : Delivered := s.readV c f.a.toNat

/-- Operand B where it is no stream: a literal, an X register or a V operand (R126, R129). -/
def State.plainB (s : State) (c : Coach) (o : Op) (f : Fields) : Delivered :=
  if f.form = .f96 then .ofStream (.u f.lit)
  else if f.bscl && allowsBscl o f then .ofStream (.u ((c.xr f.b.toNat).setWidth 32))
  else s.readV c f.b.toNat

/-- The sources of a vector instruction. -/
structure Sources where
  a : Delivered
  b : VReg
  c : VReg
  deriving DecidableEq, Repr

/-- The accesses of an instruction's streams (R74, R75). -/
def Coach.streamLoads (c : Coach) (o : Op) (f : Fields) : List LaneLoad :=
  (c.streamsRead o f).map (fun r => (c.strPlan (r.2.sr r.1), strLanes (r.2.sr r.1) c))

/-- The sources once the streams have delivered their vectors, A's first. -/
def State.gather (s : State) (c : Coach) (o : Op) (f : Fields) (vs : List VReg) : Sources × Coach :=
  let a := if streamA o f then Delivered.ofStream (vs.headD (.u 0)) else s.plainA c f
  let b := if streamB o f then Delivered.ofStream (vs.getLastD (.u 0)) else s.plainB c o f
  let d := s.readV c f.c.toNat
  (⟨a, b.value, d.value⟩, (c.afterStreams o f).noteLost (a.lost || b.lost || d.lost))

/-- Read A, B and C (R69, R75); the accesses of both streams are those of one instruction (R388). `extra`: a check that
the values decide, judged with those of the blocks' tags. -/
def State.sourcesWith (s : State) (l : Launch) (c : Coach) (o : Op) (f : Fields) (extra : Sources → Option Trap) :
    Except Stop (Sources × State × Coach) :=
  match s.loadPlans l c f 0 (c.streamLoads o f) with
  | .error e => .error e
  | .ok (vals, t, s1) =>
    let r := s1.gather c o f (vals.map (lanesVector c.width))
    match leastTrap [t, extra r.1] with
    | some t => .error (.trap t)
    | none => .ok (r.1, s1, r.2)

/-- The sources of an instruction whose values decide no check. -/
def State.sources (s : State) (l : Launch) (c : Coach) (o : Op) (f : Fields) :
    Except Stop (Sources × State × Coach) := s.sourcesWith l c o f (fun _ => none)

/-! ### Writing results (R66, R68, R70, R71) -/

/-- A result: its natural tag and value, and the lanes that keep their old element when exited (R68). -/
structure Result where
  value : VReg
  /-- In a G result, exited lanes keep their old element (R68). -/
  keepExited : Bool := false
  deriving DecidableEq, Repr

/-- The register after a result is written under act (R68). -/
def mergeResult (c : Coach) (act : DWord) (old : VReg) (r : Result) : VReg :=
  let full := c.notExited &&& ~~~act == 0
  if full && !(r.value.isG && r.keepExited) then
    (match r.value with
     | .g _ => r.value.expand c.width
     | v => v)
  else .g ((List.range c.width).map (fun j => if bit act j then r.value.elem j else old.elem j))

/-- Entries whose origin is a written register become invalid (R71). -/
def dropOrigin (c : Coach) (n : Nat) (ls : List (Option Latch)) : List (Option Latch) :=
  (List.range ls.length).map (fun e => match ls.getD e none with
    | some l => if l.owner = c.id && c.lor.getD e none == some n then none else some l
    | none => none)

/-- Fill latch entry e for the coach; the issue's ageing brings its uses to 2 (R70, R71). -/
def State.fillLatch (s : State) (c : Coach) (e : Nat) (v : VReg) : State :=
  let k := s.core c.core
  s.setCore { k with latch := k.latch.set e (some { value := v.expand 64, owner := c.id, uses := 3 }) }

/-- Write a vector destination: a register, a latch entry alone, or nothing (R66, R70). The lanes that a write of an entry
alone leaves are those that a read of the entry would deliver (log 40). -/
def State.writeV (s : State) (c : Coach) (n : Nat) (act : DWord) (r : Result) : State × Coach :=
  if n < 252 then
    let k := s.core c.core
    (s.setCore { k with latch := dropOrigin c n k.latch },
      { c with v := c.v.set n (mergeResult c act (c.vr n) r) })
  else if n = 255 then (s, c)
  else
    let old := (s.readV c n).value
    (s.fillLatch c (n - 252) (mergeResult c act old r), { c with lor := c.lor.set (n - 252) none })

/-- The HOLD copy of operand A (R70). -/
def State.holdA (s : State) (c : Coach) (f : Fields) (a : Delivered) : State × Coach :=
  let h := f.hold.toNat
  if h = 0 then (s, c)
  else (s.fillLatch c (h - 1) a.value, { c with lor := c.lor.set (h - 1) a.origin })

/-- The OPERAND checks of a vector instruction, in increasing code order. -/
def State.vectorChecks (s : State) (l : Launch) (c : Coach) (o : Op) (f : Fields) :
    List (Option Trap) :=
  [c.blockTrap o f, s.streamTraps l c o f 0x0106, s.streamTraps l c o f 0x0108,
    s.streamTraps l c o f 0x0109]

/-- A vector instruction with one vector result: the checks, the sources, HOLD, the result of the
lanes' operation and its write (R66-R75). `g` also sees the coach with its streams advanced, and answers
the coach with the status it sets. -/
def vectorOp (o : Op) (f : Fields) (g : Coach → Sources → Result × Coach) : Body := fun s l c =>
  checked (s.vectorChecks l c o f)
    (match s.sources l c o f with
     | .error e => .error e
     | .ok (src, s1, c1) =>
       let (r, c2) := g c1 src
       let (s2, c3) := s1.holdA c2 f src.a
       let (s3, c4) := s2.writeV c3 f.d.toNat (c.act f) r
       finish s3 c4 f)

/-! ### Uniform values (R83, R359) -/

/-- A uniform operand's value: its base, or the common element of the active lanes; otherwise the lanes
that differ from the lowest active lane. -/
def uniformValue (v : VReg) (act : DWord) : Except DWord Word :=
  match v with
  | .u b => .ok b
  | .a b s =>
    if s = 0 then .ok b
    else uniformLanes v.elem act
  | .g _ => uniformLanes v.elem act
where
  /-- The common element of the lanes of a mask. -/
  uniformLanes (el : Nat → Word) (act : DWord) : Except DWord Word :=
    match (List.range 64).find? (fun j => bit act j) with
    | none => .ok 0
    | some j0 =>
      let bad := maskOf 64 (fun j => bit act j && el j != el j0)
      if bad = 0 then .ok (el j0) else .error bad

end Sys2Proof.Machine
end

