-- ==== Sys2Proof/Machine/Flags.lean ====
section
/-! DEFINITION. Status and comparison: the condition codes of CMPX, BRC, VCMP and WAITV (R159, R166, R181,
R288), masks as conditions (R168, R175), the fields of MODE (R76) and CSTAT (R78, R295), and the flags of
barrier arrival (R36, R285). -/

namespace Sys2Proof.Machine

open Sys2Proof

/-- CC of CMPX on 64-bit values: eq, ne, lt, le, gt, ge (R159). -/
def condX (sgn : Bool) (cc : Nat) (a b : DWord) : Bool :=
  let lt := if sgn then a.slt b else a.ult b
  match cc with
  | 0 => a == b
  | 1 => a != b
  | 2 => lt
  | 3 => lt || a == b
  | 4 => !(lt || a == b)
  | _ => !lt

/-- CC of BRC: z, nz, lt, ge, signed (R166). -/
def condBrc (cc : Nat) (a : DWord) : Bool :=
  match cc with
  | 0 => a == 0
  | 1 => a != 0
  | 2 => a.msb
  | _ => !a.msb

/-- A mask operand as a condition, inverted by NEG (R168). -/
def Coach.cond (c : Coach) (f : Fields) : DWord :=
  if f.k 0 0 = 1 then ~~~c.mr f.a.toNat else c.mr f.a.toNat

/-- Fields of MODE (R76). -/
def modeRnd (m : DWord) : Nat := bits m 2 0
def modeSub (m : DWord) : Nat := bits m 4 3
def modeSat (m : DWord) : Nat := bits m 6 5

/-- A value that SRW may write to MODE (R76, R367). -/
def modeOk (m : DWord) : Bool :=
  bits m 63 7 == 0 && (modeSat m == 1 || modeSat m == 2) && modeSub m != 3
    && (1 ≤ modeRnd m && modeRnd m ≤ 5)

/-- The rounding, saturation and subnormal modes of an instruction (R76, R124). -/
def Coach.rnd (c : Coach) (f : Fields) : Nat := if f.rnd = 0 then modeRnd c.mode else f.rnd.toNat
def Coach.sat (c : Coach) (f : Fields) : Nat := if f.sat = 0 then modeSat c.mode else f.sat.toNat
def Coach.sub (c : Coach) : Nat := modeSub c.mode

/-- CSTAT after CSTATRC with CLR: FTO, LLOST, QSAT (R295). -/
def clearCstat (clr : Nat) (m : DWord) : DWord :=
  let m1 := if clr % 2 = 1 then m &&& ~~~1#64 else m
  let m2 := if clr / 2 % 2 = 1 then m1 &&& ~~~2#64 else m1
  if clr / 4 % 2 = 1 then m2 &&& ~~~0x0000FFFFFFFF0000#64 else m2

/-- Is a group slot valid (R34)? -/
def Coach.slotValid (c : Coach) (s : Nat) : Bool := bit (c.g.getD s 0) 8

/-- The group of a slot (R34). -/
def Coach.groupOf (c : Coach) (s : Nat) : Nat := bits (c.g.getD s 0) 7 0

/-- ALs and ARRs (R36, R285). -/
def Coach.alOf (c : Coach) (s : Nat) : DWord := c.al.getD s 0
def Coach.arrOf (c : Coach) (s : Nat) : Bool := c.arr.getD s false

/-- Every lane of the coach has reached slot s or exited (R36). -/
def Coach.covers (c : Coach) (s : Nat) : Bool := (c.alOf s ||| c.ex) == c.lanes

/-- The coach arrives at slot s's current phase when its lanes cover it (R36): ARRs is set, ALs cleared,
and the pending contribution becomes that of the phase (R286). -/
def Coach.tryArrive (c : Coach) (s : Nat) : Coach :=
  if c.slotValid s && !c.arrOf s && c.covers s then
    { c with arr := c.arr.set s true, al := c.al.set s 0, sent := c.sent.set s (c.cont.getD s none)
             cont := c.cont.set s none, wdc := 0 }
  else c

/-- Arrival at every slot, as an EXIT can bring it about (R36). -/
def Coach.arriveAll (c : Coach) : Coach :=
  (((c.tryArrive 0).tryArrive 1).tryArrive 2).tryArrive 3

end Sys2Proof.Machine
end

