-- ==== Sys2Proof/Machine/Elementwise.lean ====
section
/-! DEFINITION. Instructions that compute lane by lane: natural tags of their results (R179), packed
sub-elements (R130), and the sweep form (R132, R196, R359). -/

namespace Sys2Proof.Machine

open Sys2Proof

/-! ### Sub-elements (R130, R181, R184) -/

/-- Element t of width w of a word. -/
def subElem (w t : Nat) (a : Word) : Nat := a.toNat / 2 ^ (w * t) % 2 ^ w

/-- The results of the sub-elements of a word, packed in their order. -/
def mapSub (w : Nat) (g : Nat → Nat → Nat → Nat) (a b c : Word) : Word :=
  BitVec.ofNat 32 ((List.range (32 / w)).foldl (fun acc t =>
    acc + g (subElem w t a) (subElem w t b) (subElem w t c) % 2 ^ w * 2 ^ (w * t)) 0)

/-! ### Natural tags (R179) -/

/-- Base and stride of a U or A value. -/
def affineParts (v : VReg) : Option (Word × Word) :=
  match v with
  | .u b => some (b, 0)
  | .a b s => some (b, s)
  | .g _ => none

/-- A lane's computation: words of A, B and C. -/
abbrev LaneFn := Word → Word → Word → Word

/-- The A result of an integer form, where R179 gives one. -/
abbrev TagFn := VReg → VReg → VReg → Option VReg

/-- No A result. -/
def noTag : TagFn := fun _ _ _ => none

/-- The natural result of a lane computation: U from U sources, an A form, otherwise G (R179). -/
def natural (w : Nat) (g : LaneFn) (tag : TagFn) (a b c : VReg) : VReg :=
  match a, b, c with
  | .u x, .u y, .u z => .u (g x y z)
  | _, _, _ => match tag a b c with
    | some v => v
    | none => .g ((List.range w).map (fun j => g (a.elem j) (b.elem j) (c.elem j)))

/-! ### Sweeps (R132) -/

/-- The step unit of a sweep in bytes. -/
def sweepUnit (lit : BitVec 32) : Int :=
  match bits lit 31 30 with
  | 0 => 4
  | 1 => 64
  | 2 => 256
  | _ => 4096

/-- Segments of a sweep. -/
def sweepIter (lit : BitVec 32) : Nat := bits lit 11 0

/-- Offset of segment k: the X register's low 32 bits and k signed steps. -/
def sweepOffset (lit : BitVec 32) (lo : Nat) (x : DWord) (k : Nat) : Int :=
  ((x.toNat % 2 ^ 32 : Nat) : Int) + (k : Int) * sextInt (bits lit (lo + 5) lo) 6 * sweepUnit lit

/-- Does a sweep read a B operand: none with B = 255 (R132), whose value is then 0 in every lane (R66; log 47)? -/
def sweepReadsB (o : Op) (f : Fields) : Bool := aluReadsB o && f.b.toNat != 255

/-- Offsets of the operands of segment k: A, B where the instruction reads it, D. -/
def sweepOffsets (o : Op) (f : Fields) (c : Coach) (k : Nat) : List Int :=
  sweepOffset f.lit 18 (c.xr f.a.toNat) k
    :: (if sweepReadsB o f then [sweepOffset f.lit 24 (c.xr f.b.toNat) k] else [])
    ++ [sweepOffset f.lit 12 (c.xr f.d.toNat) k]

/-- First failing byte of a word of a segment, for a POINTER code (R386 0x0005, 0x0006). -/
def sweepFails (scratch code : Nat) (a : Int) : Option Int :=
  if code = 5 then
    if 0 ≤ a ∧ a + 4 ≤ (scratch : Int) then none
    else if 0 ≤ a ∧ a < (scratch : Int) then some scratch
    else some a
  else if a % 4 = 0 then none else some a

/-- The first failing byte of a lane over the segments from k on. -/
def sweepLaneFails (o : Op) (f : Fields) (c : Coach) (scratch code lane : Nat) : Nat → Nat → Option Int
  | 0, _ => none
  | n + 1, k =>
    match (sweepOffsets o f c k).findSome? (fun a => sweepFails scratch code (a + 4 * (lane : Int))) with
    | some b => some b
    | none => sweepLaneFails o f c scratch code lane n (k + 1)

/-- A POINTER trap of a sweep: the lanes that fail, the lowest one's first failing byte, and no pointer
register (R388). -/
def sweepTrap (o : Op) (f : Fields) (c : Coach) (scratch code : Nat) : Option Trap :=
  let fails := ((List.range c.width).filter (fun j => bit (c.act f) j)).filterMap (fun j =>
    (sweepLaneFails o f c scratch code j (sweepIter f.lit) 0).map (fun a => (j, a)))
  match fails with
  | [] => none
  | (_, a) :: _ => some
    { cls := 5, code := code, lanes := fails.foldl (fun acc r => acc ||| bitAt r.1) 0
      addr := BitVec.ofInt 64 a, info := 0xFF }

/-- One word of a crew's scratch. -/
def State.scrWord (s : State) (k : Crew) (a : Int) : Word :=
  BitVec.ofNat 32 (leNat (s.storeBytes k.core (k.base + a.toNat) 4))

/-- Write the lanes' words of a segment. -/
def State.sweepWrite (s : State) (k : Crew) (ad : Int) : List (Nat × Word) → State
  | [] => s
  | (j, w) :: rest =>
    (s.storeWrite k.core (k.base + (ad + 4 * (j : Int)).toNat) (natLe 4 w.toNat)).sweepWrite k ad rest

/-- The poison that a segment's reads meet (R398). -/
def State.sweepHazard (s : State) (k : Crew) (lanes : List Nat) (as : List Int) : Option Trap :=
  if s.poison.isEmpty then none
  else (as.flatMap (fun a => lanes.map (fun (j : Nat) => k.base + (a + 4 * (j : Int)).toNat))).findSome? (fun a =>
    (s.readHazard (.store k.core a) 4).map (fun code =>
      { cls := 11, code := code, addr := BitVec.ofNat 64 (a - k.base) }))

/-- The segments of a sweep from k on: each reads all its words before it writes any. -/
def State.sweepLoop (s : State) (c : Coach) (o : Op) (f : Fields) (g : LaneFn) (k : Crew) (cu : Word)
    (lanes : List Nat) : Nat → Nat → Except Trap State
  | 0, _ => .ok s
  | n + 1, i =>
    let aa := sweepOffset f.lit 18 (c.xr f.a.toNat) i
    let ab := sweepOffset f.lit 24 (c.xr f.b.toNat) i
    let ad := sweepOffset f.lit 12 (c.xr f.d.toNat) i
    match s.sweepHazard k lanes (if sweepReadsB o f then [aa, ab] else [aa]) with
    | some t => .error t
    | none =>
      let out := lanes.map (fun (j : Nat) =>
        (j, g (s.scrWord k (aa + 4 * (j : Int)))
          (if sweepReadsB o f then s.scrWord k (ab + 4 * (j : Int)) else 0) cu))
      (s.sweepWrite k ad out).sweepLoop c o f g k cu lanes n (i + 1)

/-- Does a sweep store to a byte that the coach's matrix instruction in flight reads (R132, R263)? -/
def Coach.gridBlocksSweep (c : Coach) (f : Fields) (k : Crew) (lanes : List Nat) : Bool :=
  match c.grid with
  | none => false
  | some w => (List.range (sweepIter f.lit)).any (fun i => lanes.any (fun (j : Nat) =>
      let x : Loc := .store k.core (k.base + (sweepOffset f.lit 12 (c.xr f.d.toNat) i + 4 * (j : Int)).toNat)
      w.a.meets x 4 || w.b.meets x 4))

/-- A sweep: the uniform C, the bounds of every segment, then the segments (R132, R359), whose stores follow the reads of the
coach's matrix instruction in flight (R263). -/
def sweepBody (o : Op) (f : Fields) (g : Coach → LaneFn) : Body := fun s _ c =>
  match uniformValue (s.readV c f.c.toNat).value (c.act f) with
  | .error bad => .error (.trap { operandTrap 0x0101 f.c.toNat with lanes := bad })
  | .ok cu =>
    match s.crewOf c with
    | none => finish s c f
    | some k =>
      let lanes := (List.range c.width).filter (fun j => bit (c.act f) j)
      checked [c.blockTrap o f, sweepTrap o f c k.scratch 5, sweepTrap o f c k.scratch 6]
        (if c.gridBlocksSweep f k lanes then .error (.wait .ownGrid s)
         else match s.sweepLoop c o f (g c) k cu lanes (sweepIter f.lit) 0 with
         | .error t => .error (.trap t)
         | .ok s1 => finish s1 (if c.act f = 0 then c else c.progress) f)

/-- An instruction that computes lane by lane, in its register or its sweep form. -/
def laneOp (o : Op) (f : Fields) (g : Coach → LaneFn) (tag : Coach → TagFn) (s : State) :
    Host.Outcome State Fault Refusal :=
  issue o f (if isSweep o f then sweepBody o f g
    else vectorOp o f (fun c src =>
      ({ value := natural c.width (g c) (tag c) src.a.value src.b src.c }, c))) s

/-- A comparison that writes a mask in the lanes of act (R183, R186). -/
def compareOp (o : Op) (f : Fields) (g : Coach → Word → Word → Bool) (s : State) :
    Host.Outcome State Fault Refusal :=
  issue o f (fun s l c =>
    checked (s.vectorChecks l c o f)
      (match s.sources l c o f with
       | .error e => .error e
       | .ok (src, s1, c1) =>
         let hit := maskOf c.width (fun j => g c1 (src.a.value.elem j) (src.b.elem j))
         let act := c1.act f
         let old := c1.mr f.d.toNat
         let (s2, c2) := s1.holdA (c1.setM f.d.toNat ((old &&& ~~~act) ||| (hit &&& act))) f src.a
         finish s2 c2 f)) s

end Sys2Proof.Machine
end

