-- ==== Sys2Proof/Machine/Scalar.lean ====
section
/-! DEFINITION. The scalar instructions, opcodes 0x00-0x1F (R157-R164). -/

namespace Sys2Proof.Machine

open Sys2Proof

/-- The value of a B operand: an X register or the sign-extended literal (R126, R157). -/
def Coach.bValue (c : Coach) (f : Fields) : DWord :=
  if f.form = .f96 then f.lit.signExtend 64 else c.xr f.b.toNat

/-- A scalar instruction with one X result that also reads the old D (R157, R159). -/
def scalarBody (f : Fields) (g : DWord → DWord → DWord → DWord → DWord) : Body := fun s _ c =>
  whenActive s c f (finish s
    (c.setX f.d.toNat (g (c.xr f.d.toNat) (c.xr f.a.toNat) (c.bValue f) (c.xr f.c.toNat))) f)

/-- A scalar instruction x[d] := g a b c (R157, R159). -/
def scalarOp (o : Op) (f : Fields) (g : DWord → DWord → DWord → DWord) (s : State) :
    Host.Outcome State Fault Refusal :=
  issue o f (scalarBody f (fun _ a b c => g a b c)) s

/-- A scalar instruction x[d] := g x[d] a b (R159). -/
def scalarOpD (o : Op) (f : Fields) (g : DWord → DWord → DWord → DWord) (s : State) :
    Host.Outcome State Fault Refusal :=
  issue o f (scalarBody f (fun d a b _ => g d a b)) s

/-- K6[0] SGN (R159). -/
def signedForm (f : Fields) : Bool := f.k 0 0 == 1

/-- Bits [127:64] of a product (MULHX). -/
def mulHigh (sgn : Bool) (a b : DWord) : DWord :=
  if sgn then BitVec.ofInt 64 (a.toInt * b.toInt / (2 ^ 64 : Int))
  else BitVec.ofNat 64 (a.toNat * b.toNat / 2 ^ 64)

/-- Quotient rounded toward zero; all ones for a divisor of 0 (DIVX). -/
def divide (sgn : Bool) (a b : DWord) : DWord :=
  if b = 0 then BitVec.allOnes 64 else if sgn then a.sdiv b else a / b

/-- Remainder with the sign of a; a for a divisor of 0 (REMX). -/
def remainder (sgn : Bool) (a b : DWord) : DWord :=
  if b = 0 then a else if sgn then a.srem b else a % b

/-- SHLX: 0 when the count reaches 64. -/
def shiftLeft (a b : DWord) : DWord := if 64 ≤ b.toNat then 0 else a <<< b.toNat

/-- SHRX: 0 when the count reaches 64. -/
def shiftRight (a b : DWord) : DWord := if 64 ≤ b.toNat then 0 else a >>> b.toNat

/-- SARX: copies of bit 63 when the count reaches 64. -/
def shiftArith (a b : DWord) : DWord := a.sshiftRight (min b.toNat 63)

/-- Leading zero bits of a 64-bit value (CLZX). -/
def leadingZeros (a : DWord) : DWord :=
  if a = 0 then 64 else BitVec.ofNat 64 (63 - Nat.log2 a.toNat)

/-- Set bits of the low `n` bits of a number. -/
def popCount : Nat → Nat → Nat
  | 0, _ => 0
  | n + 1, v => v % 2 + popCount n (v / 2)

/-- The field position and the width in use of BFEX and BFIX (R159). -/
def fieldPos (b : DWord) : Nat := bits b 5 0
def fieldWidth (b : DWord) : Nat := min (bits b 14 8) (64 - fieldPos b)

/-- BFEX (R159). -/
def fieldExtract (sgn : Bool) (a b : DWord) : DWord :=
  let w := fieldWidth b
  let v := a.toNat / 2 ^ fieldPos b % 2 ^ w
  if sgn && 0 < w then BitVec.ofInt 64 (sextInt v w) else BitVec.ofNat 64 v

/-- BFIX (R159). -/
def fieldInsert (d a b : DWord) : DWord :=
  let mk := lowMask (fieldWidth b) <<< fieldPos b
  (d &&& ~~~mk) ||| ((a <<< fieldPos b) &&& mk)

/-- LEAX: a + b' × 2^SH (R159). -/
def leaOffset (f : Fields) (a b : DWord) : DWord :=
  let b' := if f.k 3 3 = 1 then (b.setWidth 32).setWidth 64 else b
  a + b' <<< f.k 2 0

/-- NOP (R159). -/
def execNop (w0 : W0) (s : State) : Host.Outcome State Fault Refusal :=
  issue .nop (.of32 w0) (fun s _ c => finish s c (.of32 w0)) s

/-- MOVX (R159). -/
def execMovx (w0 : W0) (s : State) : Host.Outcome State Fault Refusal :=
  scalarOp .movx (.of32 w0) (fun a _ _ => a) s

/-- The result of MOVI, from the old destination and the literal (R160). -/
def moviValue (f : Fields) (d : DWord) : DWord :=
  match f.k 1 0 with
  | 0 => f.lit.signExtend 64
  | 1 => f.lit.setWidth 64
  | _ => f.lit ++ d.setWidth 32

/-- MOVI (R160). -/
def execMovi (w0 : W0) (w1 : W1) (lit : BitVec 32) (s : State) : Host.Outcome State Fault Refusal :=
  scalarOpD .movi (.of96 w0 w1 lit) (fun d _ _ => moviValue (.of96 w0 w1 lit) d) s

/-- CLZX (R159). -/
def execClzx (w0 : W0) (s : State) : Host.Outcome State Fault Refusal :=
  scalarOp .clzx (.of32 w0) (fun a _ _ => leadingZeros a) s

/-- POPX (R159). -/
def execPopx (w0 : W0) (s : State) : Host.Outcome State Fault Refusal :=
  scalarOp .popx (.of32 w0) (fun a _ _ => BitVec.ofNat 64 (popCount 64 a.toNat)) s

/-- ADDX (R159). -/
def execAddx (w0 : W0) (w1 : W1) (s : State) : Host.Outcome State Fault Refusal :=
  scalarOp .addx (.of64 w0 w1) (fun a b _ => a + b) s

/-- ADDX with a literal (R159). -/
def execAddxF96 (w0 : W0) (w1 : W1) (lit : BitVec 32) (s : State) : Host.Outcome State Fault Refusal :=
  scalarOp .addx (.of96 w0 w1 lit) (fun a b _ => a + b) s

/-- SUBX (R159). -/
def execSubx (w0 : W0) (w1 : W1) (s : State) : Host.Outcome State Fault Refusal :=
  scalarOp .subx (.of64 w0 w1) (fun a b _ => a - b) s

/-- SUBX with a literal (R159). -/
def execSubxF96 (w0 : W0) (w1 : W1) (lit : BitVec 32) (s : State) : Host.Outcome State Fault Refusal :=
  scalarOp .subx (.of96 w0 w1 lit) (fun a b _ => a - b) s

/-- MULX (R159). -/
def execMulx (w0 : W0) (w1 : W1) (s : State) : Host.Outcome State Fault Refusal :=
  scalarOp .mulx (.of64 w0 w1) (fun a b _ => a * b) s

/-- MULX with a literal (R159). -/
def execMulxF96 (w0 : W0) (w1 : W1) (lit : BitVec 32) (s : State) : Host.Outcome State Fault Refusal :=
  scalarOp .mulx (.of96 w0 w1 lit) (fun a b _ => a * b) s

/-- MULHX (R159). -/
def execMulhx (w0 : W0) (w1 : W1) (s : State) : Host.Outcome State Fault Refusal :=
  scalarOp .mulhx (.of64 w0 w1) (fun a b _ => mulHigh (signedForm (Fields.of64 w0 w1)) a b) s

/-- MULHX with a literal (R159). -/
def execMulhxF96 (w0 : W0) (w1 : W1) (lit : BitVec 32) (s : State) : Host.Outcome State Fault Refusal :=
  scalarOp .mulhx (.of96 w0 w1 lit) (fun a b _ => mulHigh (signedForm (Fields.of96 w0 w1 lit)) a b) s

/-- DIVX (R159). -/
def execDivx (w0 : W0) (w1 : W1) (s : State) : Host.Outcome State Fault Refusal :=
  scalarOp .divx (.of64 w0 w1) (fun a b _ => divide (signedForm (Fields.of64 w0 w1)) a b) s

/-- DIVX with a literal (R159). -/
def execDivxF96 (w0 : W0) (w1 : W1) (lit : BitVec 32) (s : State) : Host.Outcome State Fault Refusal :=
  scalarOp .divx (.of96 w0 w1 lit) (fun a b _ => divide (signedForm (Fields.of96 w0 w1 lit)) a b) s

/-- REMX (R159). -/
def execRemx (w0 : W0) (w1 : W1) (s : State) : Host.Outcome State Fault Refusal :=
  scalarOp .remx (.of64 w0 w1) (fun a b _ => remainder (signedForm (Fields.of64 w0 w1)) a b) s

/-- REMX with a literal (R159). -/
def execRemxF96 (w0 : W0) (w1 : W1) (lit : BitVec 32) (s : State) : Host.Outcome State Fault Refusal :=
  scalarOp .remx (.of96 w0 w1 lit) (fun a b _ => remainder (signedForm (Fields.of96 w0 w1 lit)) a b) s

/-- ANDX (R159). -/
def execAndx (w0 : W0) (w1 : W1) (s : State) : Host.Outcome State Fault Refusal :=
  scalarOp .andx (.of64 w0 w1) (fun a b _ => a &&& b) s

/-- ANDX with a literal (R159). -/
def execAndxF96 (w0 : W0) (w1 : W1) (lit : BitVec 32) (s : State) : Host.Outcome State Fault Refusal :=
  scalarOp .andx (.of96 w0 w1 lit) (fun a b _ => a &&& b) s

/-- ORX (R159). -/
def execOrx (w0 : W0) (w1 : W1) (s : State) : Host.Outcome State Fault Refusal :=
  scalarOp .orx (.of64 w0 w1) (fun a b _ => a ||| b) s

/-- ORX with a literal (R159). -/
def execOrxF96 (w0 : W0) (w1 : W1) (lit : BitVec 32) (s : State) : Host.Outcome State Fault Refusal :=
  scalarOp .orx (.of96 w0 w1 lit) (fun a b _ => a ||| b) s

/-- XORX (R159). -/
def execXorx (w0 : W0) (w1 : W1) (s : State) : Host.Outcome State Fault Refusal :=
  scalarOp .xorx (.of64 w0 w1) (fun a b _ => a ^^^ b) s

/-- XORX with a literal (R159). -/
def execXorxF96 (w0 : W0) (w1 : W1) (lit : BitVec 32) (s : State) : Host.Outcome State Fault Refusal :=
  scalarOp .xorx (.of96 w0 w1 lit) (fun a b _ => a ^^^ b) s

/-- SHLX (R159). -/
def execShlx (w0 : W0) (w1 : W1) (s : State) : Host.Outcome State Fault Refusal :=
  scalarOp .shlx (.of64 w0 w1) (fun a b _ => shiftLeft a b) s

/-- SHLX with a literal (R159). -/
def execShlxF96 (w0 : W0) (w1 : W1) (lit : BitVec 32) (s : State) : Host.Outcome State Fault Refusal :=
  scalarOp .shlx (.of96 w0 w1 lit) (fun a b _ => shiftLeft a b) s

/-- SHRX (R159). -/
def execShrx (w0 : W0) (w1 : W1) (s : State) : Host.Outcome State Fault Refusal :=
  scalarOp .shrx (.of64 w0 w1) (fun a b _ => shiftRight a b) s

/-- SHRX with a literal (R159). -/
def execShrxF96 (w0 : W0) (w1 : W1) (lit : BitVec 32) (s : State) : Host.Outcome State Fault Refusal :=
  scalarOp .shrx (.of96 w0 w1 lit) (fun a b _ => shiftRight a b) s

/-- SARX (R159). -/
def execSarx (w0 : W0) (w1 : W1) (s : State) : Host.Outcome State Fault Refusal :=
  scalarOp .sarx (.of64 w0 w1) (fun a b _ => shiftArith a b) s

/-- SARX with a literal (R159). -/
def execSarxF96 (w0 : W0) (w1 : W1) (lit : BitVec 32) (s : State) : Host.Outcome State Fault Refusal :=
  scalarOp .sarx (.of96 w0 w1 lit) (fun a b _ => shiftArith a b) s

/-- ROTX (R159). -/
def execRotx (w0 : W0) (w1 : W1) (s : State) : Host.Outcome State Fault Refusal :=
  scalarOp .rotx (.of64 w0 w1) (fun a b _ => a.rotateLeft (b.toNat % 64)) s

/-- ROTX with a literal (R159). -/
def execRotxF96 (w0 : W0) (w1 : W1) (lit : BitVec 32) (s : State) : Host.Outcome State Fault Refusal :=
  scalarOp .rotx (.of96 w0 w1 lit) (fun a b _ => a.rotateLeft (b.toNat % 64)) s

/-- MINX (R159). -/
def execMinx (w0 : W0) (w1 : W1) (s : State) : Host.Outcome State Fault Refusal :=
  scalarOp .minx (.of64 w0 w1) (fun a b _ => if condX (signedForm (Fields.of64 w0 w1)) 2 b a then b else a) s

/-- MINX with a literal (R159). -/
def execMinxF96 (w0 : W0) (w1 : W1) (lit : BitVec 32) (s : State) : Host.Outcome State Fault Refusal :=
  scalarOp .minx (.of96 w0 w1 lit) (fun a b _ => if condX (signedForm (Fields.of96 w0 w1 lit)) 2 b a then b else a) s

/-- MAXX (R159). -/
def execMaxx (w0 : W0) (w1 : W1) (s : State) : Host.Outcome State Fault Refusal :=
  scalarOp .maxx (.of64 w0 w1) (fun a b _ => if condX (signedForm (Fields.of64 w0 w1)) 2 a b then b else a) s

/-- MAXX with a literal (R159). -/
def execMaxxF96 (w0 : W0) (w1 : W1) (lit : BitVec 32) (s : State) : Host.Outcome State Fault Refusal :=
  scalarOp .maxx (.of96 w0 w1 lit) (fun a b _ => if condX (signedForm (Fields.of96 w0 w1 lit)) 2 a b then b else a) s

/-- CMPX (R159). -/
def execCmpx (w0 : W0) (w1 : W1) (s : State) : Host.Outcome State Fault Refusal :=
  scalarOp .cmpx (.of64 w0 w1) (fun a b _ => if condX ((Fields.of64 w0 w1).k 3 3 == 1) ((Fields.of64 w0 w1).k 2 0) a b then 1 else 0) s

/-- CMPX with a literal (R159). -/
def execCmpxF96 (w0 : W0) (w1 : W1) (lit : BitVec 32) (s : State) : Host.Outcome State Fault Refusal :=
  scalarOp .cmpx (.of96 w0 w1 lit) (fun a b _ => if condX ((Fields.of96 w0 w1 lit).k 3 3 == 1) ((Fields.of96 w0 w1 lit).k 2 0) a b then 1 else 0) s

/-- SELX (R159). -/
def execSelx (w0 : W0) (w1 : W1) (s : State) : Host.Outcome State Fault Refusal :=
  scalarOp .selx (.of64 w0 w1) (fun a b c => if c = 0 then b else a) s

/-- SELX with a literal (R159). -/
def execSelxF96 (w0 : W0) (w1 : W1) (lit : BitVec 32) (s : State) : Host.Outcome State Fault Refusal :=
  scalarOp .selx (.of96 w0 w1 lit) (fun a b c => if c = 0 then b else a) s

/-- BFEX (R159). -/
def execBfex (w0 : W0) (w1 : W1) (s : State) : Host.Outcome State Fault Refusal :=
  scalarOp .bfex (.of64 w0 w1) (fun a b _ => fieldExtract (signedForm (Fields.of64 w0 w1)) a b) s

/-- BFEX with a literal (R159). -/
def execBfexF96 (w0 : W0) (w1 : W1) (lit : BitVec 32) (s : State) : Host.Outcome State Fault Refusal :=
  scalarOp .bfex (.of96 w0 w1 lit) (fun a b _ => fieldExtract (signedForm (Fields.of96 w0 w1 lit)) a b) s

/-- BFIX (R159). -/
def execBfix (w0 : W0) (w1 : W1) (s : State) : Host.Outcome State Fault Refusal :=
  scalarOpD .bfix (.of64 w0 w1) fieldInsert s

/-- BFIX with a literal (R159). -/
def execBfixF96 (w0 : W0) (w1 : W1) (lit : BitVec 32) (s : State) : Host.Outcome State Fault Refusal :=
  scalarOpD .bfix (.of96 w0 w1 lit) fieldInsert s

/-- MADX (R159). -/
def execMadx (w0 : W0) (w1 : W1) (s : State) : Host.Outcome State Fault Refusal :=
  scalarOp .madx (.of64 w0 w1) (fun a b c => a * b + c) s

/-- MADX with a literal (R159). -/
def execMadxF96 (w0 : W0) (w1 : W1) (lit : BitVec 32) (s : State) : Host.Outcome State Fault Refusal :=
  scalarOp .madx (.of96 w0 w1 lit) (fun a b c => a * b + c) s

/-- LEAX (R159). -/
def execLeax (w0 : W0) (w1 : W1) (s : State) : Host.Outcome State Fault Refusal :=
  scalarOp .leax (.of64 w0 w1) (fun a b _ => leaOffset (Fields.of64 w0 w1) a b) s

/-- LEAX with a literal (R159). -/
def execLeaxF96 (w0 : W0) (w1 : W1) (lit : BitVec 32) (s : State) : Host.Outcome State Fault Refusal :=
  scalarOp .leax (.of96 w0 w1 lit) (fun a b _ => leaOffset (Fields.of96 w0 w1 lit) a b) s

/-! ### System registers and lane transfers (R161-R164) -/

/-- LSCAP of the coach's core (R97). -/
def State.lscap (s : State) (c : Coach) : DWord :=
  let up := match s.crewOf c with
    | some k => k.up
    | none => s.upperPresent c.core
  BitVec.ofNat 64 (b2n up * 2 ^ 17 + b2n (coreGig c.core) * 2 ^ 16 + coreKib c.core up)

/-- A system register of the SRR space (R291). -/
def State.sysReg (s : State) (l : Launch) (c : Coach) (n : Nat) : Option DWord :=
  match n with
  | 0x00 => some c.mode
  | 0x01 => some c.cstat
  | 0x02 => some c.mxs
  | 0x03 => some (s.lscap c)
  | 0x04 => some (BitVec.ofNat 64 c.width)
  | 0x05 => some (BitVec.ofNat 64 l.step)
  | 0x06 => some (BitVec.ofNat 64 (c.id.gang % l.gridX))
  | 0x07 => some (BitVec.ofNat 64 (c.id.gang / l.gridX % l.gridY))
  | 0x08 => some (BitVec.ofNat 64 (c.id.gang / l.gridX / l.gridY))
  | 0x09 => some (BitVec.ofNat 64 c.id.crew)
  | 0x0A => some (BitVec.ofNat 64 (if c.cmp16 then 2 * c.id.coach else c.id.coach))
  | 0x0B => some (BitVec.ofNat 64 c.lpostCode)
  | 0x0C => some (BitVec.ofNat 64 c.image)
  | 0x0D => some s.time
  | _ => none

/-- SRR (R161, R291, R367): CSTAT is read once every earlier access of the coach, which may set its FTO, is complete. -/
def execSrr (w0 : W0) (s : State) : Host.Outcome State Fault Refusal :=
  let f := Fields.of32 w0
  issue .srr f (fun s l c =>
    match s.sysReg l c f.a.toNat with
    | none => .error (.trap (operandTrap 0x0111 f.a.toNat))
    | some v => whenActive s c f
        (if f.a.toNat = 1 ∧ s.outstanding c then .error (.wait .remote s) else finish s (c.setX f.d.toNat v) f)) s

/-- SRW: MODE alone is written, with a value that R76 allows (R161, R367). -/
def execSrw (w0 : W0) (s : State) : Host.Outcome State Fault Refusal :=
  let f := Fields.of32 w0
  issue .srw f (fun s _ c =>
    if f.d.toNat = 0 ∧ modeOk (c.xr f.a.toNat) then
      whenActive s c f (finish s { c with mode := c.xr f.a.toNat } f)
    else .error (.trap (operandTrap 0x0111 f.d.toNat))) s

/-- Element b mod W of Va, extended (R162). -/
def vtoxValue (c : Coach) (f : Fields) : DWord :=
  let e := (if f.a.toNat = 255 then VReg.u 0 else c.vr f.a.toNat).elem ((c.bValue f).toNat % c.width)
  if f.k 0 0 = 1 then e.signExtend 64 else e.setWidth 64

/-- VTOX in either format (R162, R361). -/
def vtoxBody (f : Fields) : Body := fun s _ c =>
  checked [c.blockTrap .vtox f] (whenActive s c f (finish s (c.setX f.d.toNat (vtoxValue c f)) f))

/-- VTOX (R162). -/
def execVtox (w0 : W0) (w1 : W1) (s : State) : Host.Outcome State Fault Refusal :=
  issue .vtox (.of64 w0 w1) (vtoxBody (.of64 w0 w1)) s

/-- VTOX with a literal lane (R162). -/
def execVtoxF96 (w0 : W0) (w1 : W1) (lit : BitVec 32) (s : State) :
    Host.Outcome State Fault Refusal :=
  issue .vtox (.of96 w0 w1 lit) (vtoxBody (.of96 w0 w1 lit)) s

/-- XTOV writes the lanes of act with natural tag U or A (R163). -/
def xtovBody (f : Fields) (v : Coach → VReg) : Body := fun s _ c =>
  checked [c.blockTrap .xtov f]
    (whenActive s c f
      (let (s1, c1) := s.writeV c f.d.toNat (c.act f) { value := v c }
       finish s1 c1 f))

/-- XTOV (R163). -/
def execXtov (w0 : W0) (s : State) : Host.Outcome State Fault Refusal :=
  let f := Fields.of32 w0
  issue .xtov f (xtovBody f (fun c => .u ((c.xr f.a.toNat).setWidth 32))) s

/-- XTOV with a stride (R163). -/
def execXtovF64 (w0 : W0) (w1 : W1) (s : State) : Host.Outcome State Fault Refusal :=
  let f := Fields.of64 w0 w1
  issue .xtov f (xtovBody f (fun c =>
    .a ((c.xr f.a.toNat).setWidth 32) ((c.xr f.b.toNat).setWidth 32))) s

/-- MTOX (R164). -/
def execMtox (w0 : W0) (s : State) : Host.Outcome State Fault Refusal :=
  let f := Fields.of32 w0
  issue .mtox f (fun s _ c =>
    whenActive s c f (finish s (c.setX f.d.toNat (match f.k 1 0 with
      | 0 => c.mr f.a.toNat
      | 1 => c.cm
      | _ => c.ex)) f)) s

/-- XTOM (R164). -/
def execXtom (w0 : W0) (s : State) : Host.Outcome State Fault Refusal :=
  let f := Fields.of32 w0
  issue .xtom f (fun s _ c =>
    let x := c.xr f.a.toNat
    let m := c.mr f.d.toNat
    whenActive s c f (finish s (c.setM f.d.toNat (match f.k 1 0 with
      | 0 => x
      | 1 => m &&& x
      | 2 => m ||| x
      | _ => m &&& ~~~x)) f)) s

end Sys2Proof.Machine
end

