-- ==== Sys2Proof/Machine/VectorInt.lean ====
section
/-! DEFINITION. The vector integer instructions, opcodes 0x40-0x58 (R181-R183). -/

namespace Sys2Proof.Machine

open Sys2Proof

/-- Element width of an integer instruction (R130). -/
def Fields.ew (f : Fields) : Nat := 32 / 2 ^ f.k 1 0

/-- SGN of an integer instruction (R130). -/
def Fields.sgn (f : Fields) : Bool := f.k 2 2 == 1

/-- An element as an integer (R181). -/
def elemInt (sgn : Bool) (w n : Nat) : Int := if sgn then sextInt n w else ((n % 2 ^ w : Nat) : Int)

/-- The exact value wrapped or saturated to the element width (R181). -/
def narrow (sat : Nat) (sgn : Bool) (w : Nat) (z : Int) : Nat :=
  if sat = 1 then
    toBits w (if sgn then clampInt (-(2 ^ (w - 1) : Int)) (2 ^ (w - 1) - 1) z else clampInt 0 (2 ^ w - 1) z)
  else toBits w z

/-- Sub-elements computed exactly and narrowed (R181). -/
def intExact (f : Fields) (g : Int → Int → Int → Int) (c : Coach) : LaneFn :=
  mapSub f.ew (fun x y z => narrow (c.sat f) f.sgn f.ew
    (g (elemInt f.sgn f.ew x) (elemInt f.sgn f.ew y) (elemInt f.sgn f.ew z)))

/-- Sub-elements computed as bits. -/
def intBits (f : Fields) (g : Nat → Nat → Nat → Nat) (_ : Coach) : LaneFn := mapSub f.ew g

/-- The word as a whole. -/
def wholeWord (g : LaneFn) (_ : Coach) : LaneFn := g

/-- An A form of R179 with EW 0; forms that read SAT only when it resolves to wrap. -/
def affineTag (f : Fields) (readsSat : Bool) (t : TagFn) (c : Coach) : TagFn := fun a b d =>
  if f.k 1 0 = 0 ∧ (readsSat = false ∨ c.sat f ≠ 1) then t a b d else none

/-- No A form. -/
def plainTag (_ : Coach) : TagFn := noTag

/-- A or U, plus or minus A or U. -/
def tagSum (g : Word → Word → Word) : TagFn := fun a b _ =>
  match affineParts a, affineParts b with
  | some p, some q => some (.a (g p.1 q.1) (g p.2 q.2))
  | _, _ => none

/-- The A product of one A and one U operand, U counting as A of stride 0. Of a VMAD too the two stand in either order, as
R179 has them of a VMUL (DEDUCED, log 88). -/
def tagProduct (a b : VReg) : Option (Word × Word) :=
  match a, b with
  | .u k, .u x => some (x * k, 0)
  | .a x s, .u k | .u k, .a x s => some (x * k, s * k)
  | _, _ => none

def tagMul : TagFn := fun a b _ => (tagProduct a b).map (fun p => .a p.1 p.2)

def tagMad : TagFn := fun a b d =>
  match tagProduct a b, affineParts d with
  | some p, some q => some (.a (p.1 + q.1) (p.2 + q.2))
  | _, _ => none

/-- A shifted left by a U count below 32. -/
def tagShl : TagFn := fun a b _ =>
  match a, b with
  | .a x s, .u n => if n.toNat < 32 then some (.a (x <<< n.toNat) (s <<< n.toNat)) else none
  | _, _ => none

def tagNeg : TagFn := fun a _ _ =>
  match a with
  | .a x s => some (.a (-x) (-s))
  | _ => none

/-- |a| and −a of a signed element: on saturation the most negative value gives the largest (R181). -/
def narrowSigned (f : Fields) (g : Int → Int) (c : Coach) : LaneFn :=
  mapSub f.ew (fun x _ _ => narrow (c.sat f) true f.ew (g (sextInt x f.ew)))

/-- Bits [2w − 1:w] of the exact product. -/
def intMulHigh (f : Fields) (_ : Coach) : LaneFn :=
  mapSub f.ew (fun x y _ => toBits f.ew (elemInt f.sgn f.ew x * elemInt f.sgn f.ew y / (2 ^ f.ew : Int)))

/-- The smaller or the larger element. -/
def intMinMax (f : Fields) (isMax : Bool) (_ : Coach) : LaneFn :=
  mapSub f.ew (fun x y _ =>
    if decide (elemInt f.sgn f.ew y < elemInt f.sgn f.ew x) == isMax then x else y)

/-- Shift of an element by the element of B as an unsigned count. -/
def shlElem (w x n : Nat) : Nat := if w ≤ n then 0 else x * 2 ^ n
def shrElem (w x n : Nat) : Nat := if w ≤ n then 0 else x / 2 ^ n
def sarElem (w x n : Nat) : Nat := toBits w (sextInt x w / (2 ^ min n (w - 1) : Int))

/-- Leading zero bits of an element. -/
def clzElem (w x : Nat) : Nat := if x = 0 then w else w - 1 - Nat.log2 x

/-- Position and width used by VBFE and VBFI (R182). -/
def fieldOf (b : Word) : Nat × Nat :=
  let pos := bits b 4 0
  (pos, min (min (bits b 13 8) 32) (32 - pos))

/-- VBFE of a word (R182). -/
def bfeWord (sgn : Bool) (a b : Word) : Word :=
  let (pos, w) := fieldOf b
  let v := a.toNat / 2 ^ pos % 2 ^ w
  if sgn && w != 0 then BitVec.ofInt 32 (sextInt v w) else BitVec.ofNat 32 v

/-- VBFI of a word: d with the field of a (R182). -/
def bfiWord (d a b : Word) : Word :=
  let (pos, w) := fieldOf b
  let mk : Word := BitVec.ofNat 32 ((2 ^ w - 1) * 2 ^ pos)
  (d &&& ~~~mk) ||| ((a <<< pos) &&& mk)

/-- VDOT4: c and four exact byte products, wrapped or saturated once (R181). -/
def dot4Word (f : Fields) (c : Coach) : LaneFn := fun a b d =>
  let term (t : Nat) : Int := elemInt f.sgn 8 (subElem 8 t a) * elemInt f.sgn 8 (subElem 8 t b)
  BitVec.ofNat 32 (narrow (c.sat f) f.sgn 32
    (elemInt f.sgn 32 d.toNat + term 0 + term 1 + term 2 + term 3))

/-- CC of VCMP (R183). -/
def condW (sgn : Bool) (cc : Nat) (a b : Word) : Bool :=
  let lt := if sgn then a.slt b else a.ult b
  match cc with
  | 0 => a == b
  | 1 => a != b
  | 2 => lt
  | 3 => lt || a == b
  | 4 => !(lt || a == b)
  | _ => !lt

/-- VSEL: by the mask C; U when both sources are U with equal bases (R179, R183). -/
def vselResult (c : Coach) (f : Fields) (a b : VReg) : VReg :=
  let pick := VReg.g ((List.range c.width).map (fun j =>
    if bit (c.mr f.c.toNat) j then a.elem j else b.elem j))
  match a, b with
  | .u x, .u y => if x = y then .u x else pick
  | _, _ => pick

/-- VBFI reads its destination as a source (R182). -/
def vbfiResult (c : Coach) (f : Fields) (a b : VReg) : VReg :=
  natural c.width bfiWord noTag (c.vr f.d.toNat) a b

/-- Make the copy of A's value that VMOV delivers: its tag with it (R179). -/
def vmovResult (c : Coach) (a : VReg) : VReg :=
  match a with
  | .g _ => a.expand c.width
  | v => v

/-- VADD (R181). -/
def execVadd (w0 : W0) (s : State) : Host.Outcome State Fault Refusal :=
  let f := Fields.of32 w0
  laneOp .vadd f (intExact f (fun a b _ => a + b)) (affineTag f true (tagSum (fun a b => a + b))) s

/-- VADD in F64 (R181). -/
def execVaddF64 (w0 : W0) (w1 : W1) (s : State) : Host.Outcome State Fault Refusal :=
  let f := Fields.of64 w0 w1
  laneOp .vadd f (intExact f (fun a b _ => a + b)) (affineTag f true (tagSum (fun a b => a + b))) s

/-- VADD with a literal or as a sweep (R181). -/
def execVaddF96 (w0 : W0) (w1 : W1) (lit : BitVec 32) (s : State) : Host.Outcome State Fault Refusal :=
  let f := Fields.of96 w0 w1 lit
  laneOp .vadd f (intExact f (fun a b _ => a + b)) (affineTag f true (tagSum (fun a b => a + b))) s

/-- VSUB (R181). -/
def execVsub (w0 : W0) (s : State) : Host.Outcome State Fault Refusal :=
  let f := Fields.of32 w0
  laneOp .vsub f (intExact f (fun a b _ => a - b)) (affineTag f true (tagSum (fun a b => a - b))) s

/-- VSUB in F64 (R181). -/
def execVsubF64 (w0 : W0) (w1 : W1) (s : State) : Host.Outcome State Fault Refusal :=
  let f := Fields.of64 w0 w1
  laneOp .vsub f (intExact f (fun a b _ => a - b)) (affineTag f true (tagSum (fun a b => a - b))) s

/-- VSUB with a literal or as a sweep (R181). -/
def execVsubF96 (w0 : W0) (w1 : W1) (lit : BitVec 32) (s : State) : Host.Outcome State Fault Refusal :=
  let f := Fields.of96 w0 w1 lit
  laneOp .vsub f (intExact f (fun a b _ => a - b)) (affineTag f true (tagSum (fun a b => a - b))) s

/-- VMUL (R181). -/
def execVmul (w0 : W0) (s : State) : Host.Outcome State Fault Refusal :=
  let f := Fields.of32 w0
  laneOp .vmul f (intExact f (fun a b _ => a * b)) (affineTag f true tagMul) s

/-- VMUL in F64 (R181). -/
def execVmulF64 (w0 : W0) (w1 : W1) (s : State) : Host.Outcome State Fault Refusal :=
  let f := Fields.of64 w0 w1
  laneOp .vmul f (intExact f (fun a b _ => a * b)) (affineTag f true tagMul) s

/-- VMUL with a literal or as a sweep (R181). -/
def execVmulF96 (w0 : W0) (w1 : W1) (lit : BitVec 32) (s : State) : Host.Outcome State Fault Refusal :=
  let f := Fields.of96 w0 w1 lit
  laneOp .vmul f (intExact f (fun a b _ => a * b)) (affineTag f true tagMul) s

/-- VMULH (R181). -/
def execVmulh (w0 : W0) (s : State) : Host.Outcome State Fault Refusal :=
  let f := Fields.of32 w0
  laneOp .vmulh f (intMulHigh f) (plainTag) s

/-- VMULH in F64 (R181). -/
def execVmulhF64 (w0 : W0) (w1 : W1) (s : State) : Host.Outcome State Fault Refusal :=
  let f := Fields.of64 w0 w1
  laneOp .vmulh f (intMulHigh f) (plainTag) s

/-- VMULH with a literal or as a sweep (R181). -/
def execVmulhF96 (w0 : W0) (w1 : W1) (lit : BitVec 32) (s : State) : Host.Outcome State Fault Refusal :=
  let f := Fields.of96 w0 w1 lit
  laneOp .vmulh f (intMulHigh f) (plainTag) s

/-- VMAD (R181). -/
def execVmad (w0 : W0) (s : State) : Host.Outcome State Fault Refusal :=
  let f := Fields.of32 w0
  laneOp .vmad f (intExact f (fun a b c => a * b + c)) (affineTag f true tagMad) s

/-- VMAD in F64 (R181). -/
def execVmadF64 (w0 : W0) (w1 : W1) (s : State) : Host.Outcome State Fault Refusal :=
  let f := Fields.of64 w0 w1
  laneOp .vmad f (intExact f (fun a b c => a * b + c)) (affineTag f true tagMad) s

/-- VMAD with a literal or as a sweep (R181). -/
def execVmadF96 (w0 : W0) (w1 : W1) (lit : BitVec 32) (s : State) : Host.Outcome State Fault Refusal :=
  let f := Fields.of96 w0 w1 lit
  laneOp .vmad f (intExact f (fun a b c => a * b + c)) (affineTag f true tagMad) s

/-- VMIN (R181). -/
def execVmin (w0 : W0) (s : State) : Host.Outcome State Fault Refusal :=
  let f := Fields.of32 w0
  laneOp .vmin f (intMinMax f false) (plainTag) s

/-- VMIN in F64 (R181). -/
def execVminF64 (w0 : W0) (w1 : W1) (s : State) : Host.Outcome State Fault Refusal :=
  let f := Fields.of64 w0 w1
  laneOp .vmin f (intMinMax f false) (plainTag) s

/-- VMIN with a literal or as a sweep (R181). -/
def execVminF96 (w0 : W0) (w1 : W1) (lit : BitVec 32) (s : State) : Host.Outcome State Fault Refusal :=
  let f := Fields.of96 w0 w1 lit
  laneOp .vmin f (intMinMax f false) (plainTag) s

/-- VMAX (R181). -/
def execVmax (w0 : W0) (s : State) : Host.Outcome State Fault Refusal :=
  let f := Fields.of32 w0
  laneOp .vmax f (intMinMax f true) (plainTag) s

/-- VMAX in F64 (R181). -/
def execVmaxF64 (w0 : W0) (w1 : W1) (s : State) : Host.Outcome State Fault Refusal :=
  let f := Fields.of64 w0 w1
  laneOp .vmax f (intMinMax f true) (plainTag) s

/-- VMAX with a literal or as a sweep (R181). -/
def execVmaxF96 (w0 : W0) (w1 : W1) (lit : BitVec 32) (s : State) : Host.Outcome State Fault Refusal :=
  let f := Fields.of96 w0 w1 lit
  laneOp .vmax f (intMinMax f true) (plainTag) s

/-- VABS (R181). -/
def execVabs (w0 : W0) (s : State) : Host.Outcome State Fault Refusal :=
  let f := Fields.of32 w0
  laneOp .vabs f (narrowSigned f (fun a => (a.natAbs : Int))) (plainTag) s

/-- VABS in F64 (R181). -/
def execVabsF64 (w0 : W0) (w1 : W1) (s : State) : Host.Outcome State Fault Refusal :=
  let f := Fields.of64 w0 w1
  laneOp .vabs f (narrowSigned f (fun a => (a.natAbs : Int))) (plainTag) s

/-- VABS as a sweep (R181). -/
def execVabsF96 (w0 : W0) (w1 : W1) (lit : BitVec 32) (s : State) : Host.Outcome State Fault Refusal :=
  let f := Fields.of96 w0 w1 lit
  laneOp .vabs f (narrowSigned f (fun a => (a.natAbs : Int))) (plainTag) s

/-- VNEG (R181). -/
def execVneg (w0 : W0) (s : State) : Host.Outcome State Fault Refusal :=
  let f := Fields.of32 w0
  laneOp .vneg f (narrowSigned f (fun a => -a)) (affineTag f true tagNeg) s

/-- VNEG in F64 (R181). -/
def execVnegF64 (w0 : W0) (w1 : W1) (s : State) : Host.Outcome State Fault Refusal :=
  let f := Fields.of64 w0 w1
  laneOp .vneg f (narrowSigned f (fun a => -a)) (affineTag f true tagNeg) s

/-- VNEG as a sweep (R181). -/
def execVnegF96 (w0 : W0) (w1 : W1) (lit : BitVec 32) (s : State) : Host.Outcome State Fault Refusal :=
  let f := Fields.of96 w0 w1 lit
  laneOp .vneg f (narrowSigned f (fun a => -a)) (affineTag f true tagNeg) s

/-- VAND (R181). -/
def execVand (w0 : W0) (s : State) : Host.Outcome State Fault Refusal :=
  let f := Fields.of32 w0
  laneOp .vand f (wholeWord (fun a b _ => a &&& b)) (plainTag) s

/-- VAND in F64 (R181). -/
def execVandF64 (w0 : W0) (w1 : W1) (s : State) : Host.Outcome State Fault Refusal :=
  let f := Fields.of64 w0 w1
  laneOp .vand f (wholeWord (fun a b _ => a &&& b)) (plainTag) s

/-- VAND with a literal or as a sweep (R181). -/
def execVandF96 (w0 : W0) (w1 : W1) (lit : BitVec 32) (s : State) : Host.Outcome State Fault Refusal :=
  let f := Fields.of96 w0 w1 lit
  laneOp .vand f (wholeWord (fun a b _ => a &&& b)) (plainTag) s

/-- VOR (R181). -/
def execVor (w0 : W0) (s : State) : Host.Outcome State Fault Refusal :=
  let f := Fields.of32 w0
  laneOp .vor f (wholeWord (fun a b _ => a ||| b)) (plainTag) s

/-- VOR in F64 (R181). -/
def execVorF64 (w0 : W0) (w1 : W1) (s : State) : Host.Outcome State Fault Refusal :=
  let f := Fields.of64 w0 w1
  laneOp .vor f (wholeWord (fun a b _ => a ||| b)) (plainTag) s

/-- VOR with a literal or as a sweep (R181). -/
def execVorF96 (w0 : W0) (w1 : W1) (lit : BitVec 32) (s : State) : Host.Outcome State Fault Refusal :=
  let f := Fields.of96 w0 w1 lit
  laneOp .vor f (wholeWord (fun a b _ => a ||| b)) (plainTag) s

/-- VXOR (R181). -/
def execVxor (w0 : W0) (s : State) : Host.Outcome State Fault Refusal :=
  let f := Fields.of32 w0
  laneOp .vxor f (wholeWord (fun a b _ => a ^^^ b)) (plainTag) s

/-- VXOR in F64 (R181). -/
def execVxorF64 (w0 : W0) (w1 : W1) (s : State) : Host.Outcome State Fault Refusal :=
  let f := Fields.of64 w0 w1
  laneOp .vxor f (wholeWord (fun a b _ => a ^^^ b)) (plainTag) s

/-- VXOR with a literal or as a sweep (R181). -/
def execVxorF96 (w0 : W0) (w1 : W1) (lit : BitVec 32) (s : State) : Host.Outcome State Fault Refusal :=
  let f := Fields.of96 w0 w1 lit
  laneOp .vxor f (wholeWord (fun a b _ => a ^^^ b)) (plainTag) s

/-- VNOT (R181). -/
def execVnot (w0 : W0) (s : State) : Host.Outcome State Fault Refusal :=
  let f := Fields.of32 w0
  laneOp .vnot f (wholeWord (fun a _ _ => ~~~a)) (plainTag) s

/-- VNOT in F64 (R181). -/
def execVnotF64 (w0 : W0) (w1 : W1) (s : State) : Host.Outcome State Fault Refusal :=
  let f := Fields.of64 w0 w1
  laneOp .vnot f (wholeWord (fun a _ _ => ~~~a)) (plainTag) s

/-- VNOT as a sweep (R181). -/
def execVnotF96 (w0 : W0) (w1 : W1) (lit : BitVec 32) (s : State) : Host.Outcome State Fault Refusal :=
  let f := Fields.of96 w0 w1 lit
  laneOp .vnot f (wholeWord (fun a _ _ => ~~~a)) (plainTag) s

/-- VSHL (R181). -/
def execVshl (w0 : W0) (s : State) : Host.Outcome State Fault Refusal :=
  let f := Fields.of32 w0
  laneOp .vshl f (intBits f (fun a n _ => shlElem f.ew a n)) (affineTag f false tagShl) s

/-- VSHL in F64 (R181). -/
def execVshlF64 (w0 : W0) (w1 : W1) (s : State) : Host.Outcome State Fault Refusal :=
  let f := Fields.of64 w0 w1
  laneOp .vshl f (intBits f (fun a n _ => shlElem f.ew a n)) (affineTag f false tagShl) s

/-- VSHL with a literal or as a sweep (R181). -/
def execVshlF96 (w0 : W0) (w1 : W1) (lit : BitVec 32) (s : State) : Host.Outcome State Fault Refusal :=
  let f := Fields.of96 w0 w1 lit
  laneOp .vshl f (intBits f (fun a n _ => shlElem f.ew a n)) (affineTag f false tagShl) s

/-- VSHR (R181). -/
def execVshr (w0 : W0) (s : State) : Host.Outcome State Fault Refusal :=
  let f := Fields.of32 w0
  laneOp .vshr f (intBits f (fun a n _ => shrElem f.ew a n)) (plainTag) s

/-- VSHR in F64 (R181). -/
def execVshrF64 (w0 : W0) (w1 : W1) (s : State) : Host.Outcome State Fault Refusal :=
  let f := Fields.of64 w0 w1
  laneOp .vshr f (intBits f (fun a n _ => shrElem f.ew a n)) (plainTag) s

/-- VSHR with a literal or as a sweep (R181). -/
def execVshrF96 (w0 : W0) (w1 : W1) (lit : BitVec 32) (s : State) : Host.Outcome State Fault Refusal :=
  let f := Fields.of96 w0 w1 lit
  laneOp .vshr f (intBits f (fun a n _ => shrElem f.ew a n)) (plainTag) s

/-- VSAR (R181). -/
def execVsar (w0 : W0) (s : State) : Host.Outcome State Fault Refusal :=
  let f := Fields.of32 w0
  laneOp .vsar f (intBits f (fun a n _ => sarElem f.ew a n)) (plainTag) s

/-- VSAR in F64 (R181). -/
def execVsarF64 (w0 : W0) (w1 : W1) (s : State) : Host.Outcome State Fault Refusal :=
  let f := Fields.of64 w0 w1
  laneOp .vsar f (intBits f (fun a n _ => sarElem f.ew a n)) (plainTag) s

/-- VSAR with a literal or as a sweep (R181). -/
def execVsarF96 (w0 : W0) (w1 : W1) (lit : BitVec 32) (s : State) : Host.Outcome State Fault Refusal :=
  let f := Fields.of96 w0 w1 lit
  laneOp .vsar f (intBits f (fun a n _ => sarElem f.ew a n)) (plainTag) s

/-- VBFE (R182). -/
def execVbfe (w0 : W0) (s : State) : Host.Outcome State Fault Refusal :=
  let f := Fields.of32 w0
  laneOp .vbfe f (wholeWord (fun a b _ => bfeWord f.sgn a b)) (plainTag) s

/-- VBFE in F64 (R182). -/
def execVbfeF64 (w0 : W0) (w1 : W1) (s : State) : Host.Outcome State Fault Refusal :=
  let f := Fields.of64 w0 w1
  laneOp .vbfe f (wholeWord (fun a b _ => bfeWord f.sgn a b)) (plainTag) s

/-- VBFE with a literal or as a sweep (R182). -/
def execVbfeF96 (w0 : W0) (w1 : W1) (lit : BitVec 32) (s : State) : Host.Outcome State Fault Refusal :=
  let f := Fields.of96 w0 w1 lit
  laneOp .vbfe f (wholeWord (fun a b _ => bfeWord f.sgn a b)) (plainTag) s

/-- VBFI (R182). -/
def execVbfi (w0 : W0) (s : State) : Host.Outcome State Fault Refusal :=
  let f := Fields.of32 w0
  issue .vbfi f (vectorOp .vbfi f (fun c src =>
    ({ value := vbfiResult c f src.a.value src.b }, c))) s

/-- VBFI in F64 (R182). -/
def execVbfiF64 (w0 : W0) (w1 : W1) (s : State) : Host.Outcome State Fault Refusal :=
  let f := Fields.of64 w0 w1
  issue .vbfi f (vectorOp .vbfi f (fun c src =>
    ({ value := vbfiResult c f src.a.value src.b }, c))) s

/-- VBFI with a literal (R182). -/
def execVbfiF96 (w0 : W0) (w1 : W1) (lit : BitVec 32) (s : State) : Host.Outcome State Fault Refusal :=
  let f := Fields.of96 w0 w1 lit
  issue .vbfi f (vectorOp .vbfi f (fun c src =>
    ({ value := vbfiResult c f src.a.value src.b }, c))) s

/-- VPOP (R181). -/
def execVpop (w0 : W0) (s : State) : Host.Outcome State Fault Refusal :=
  let f := Fields.of32 w0
  laneOp .vpop f (intBits f (fun a _ _ => popCount 32 a)) (plainTag) s

/-- VPOP in F64 (R181). -/
def execVpopF64 (w0 : W0) (w1 : W1) (s : State) : Host.Outcome State Fault Refusal :=
  let f := Fields.of64 w0 w1
  laneOp .vpop f (intBits f (fun a _ _ => popCount 32 a)) (plainTag) s

/-- VPOP as a sweep (R181). -/
def execVpopF96 (w0 : W0) (w1 : W1) (lit : BitVec 32) (s : State) : Host.Outcome State Fault Refusal :=
  let f := Fields.of96 w0 w1 lit
  laneOp .vpop f (intBits f (fun a _ _ => popCount 32 a)) (plainTag) s

/-- VCLZ (R181). -/
def execVclz (w0 : W0) (s : State) : Host.Outcome State Fault Refusal :=
  let f := Fields.of32 w0
  laneOp .vclz f (intBits f (fun a _ _ => clzElem f.ew a)) (plainTag) s

/-- VCLZ in F64 (R181). -/
def execVclzF64 (w0 : W0) (w1 : W1) (s : State) : Host.Outcome State Fault Refusal :=
  let f := Fields.of64 w0 w1
  laneOp .vclz f (intBits f (fun a _ _ => clzElem f.ew a)) (plainTag) s

/-- VCLZ as a sweep (R181). -/
def execVclzF96 (w0 : W0) (w1 : W1) (lit : BitVec 32) (s : State) : Host.Outcome State Fault Refusal :=
  let f := Fields.of96 w0 w1 lit
  laneOp .vclz f (intBits f (fun a _ _ => clzElem f.ew a)) (plainTag) s

/-- VSEL in F64 (R183). -/
def execVsel (w0 : W0) (w1 : W1) (s : State) : Host.Outcome State Fault Refusal :=
  let f := Fields.of64 w0 w1
  issue .vsel f (vectorOp .vsel f (fun c src =>
    ({ value := vselResult c f src.a.value src.b }, c))) s

/-- VSEL with a literal (R183). -/
def execVselF96 (w0 : W0) (w1 : W1) (lit : BitVec 32) (s : State) : Host.Outcome State Fault Refusal :=
  let f := Fields.of96 w0 w1 lit
  issue .vsel f (vectorOp .vsel f (fun c src =>
    ({ value := vselResult c f src.a.value src.b }, c))) s

/-- VCMP (R183). -/
def execVcmp (w0 : W0) (s : State) : Host.Outcome State Fault Refusal :=
  let f := Fields.of32 w0
  compareOp .vcmp f (fun _ a b => condW f.sgn (f.k 5 3) a b) s

/-- VCMP in F64 (R183). -/
def execVcmpF64 (w0 : W0) (w1 : W1) (s : State) : Host.Outcome State Fault Refusal :=
  let f := Fields.of64 w0 w1
  compareOp .vcmp f (fun _ a b => condW f.sgn (f.k 5 3) a b) s

/-- VCMP with a literal (R183). -/
def execVcmpF96 (w0 : W0) (w1 : W1) (lit : BitVec 32) (s : State) : Host.Outcome State Fault Refusal :=
  let f := Fields.of96 w0 w1 lit
  compareOp .vcmp f (fun _ a b => condW f.sgn (f.k 5 3) a b) s

/-- VMOV (R181). -/
def execVmov (w0 : W0) (s : State) : Host.Outcome State Fault Refusal :=
  let f := Fields.of32 w0
  issue .vmov f (if isSweep .vmov f then sweepBody .vmov f (wholeWord (fun a _ _ => a))
    else vectorOp .vmov f (fun c src => ({ value := vmovResult c src.a.value }, c))) s

/-- VMOV in F64 (R181). -/
def execVmovF64 (w0 : W0) (w1 : W1) (s : State) : Host.Outcome State Fault Refusal :=
  let f := Fields.of64 w0 w1
  issue .vmov f (if isSweep .vmov f then sweepBody .vmov f (wholeWord (fun a _ _ => a))
    else vectorOp .vmov f (fun c src => ({ value := vmovResult c src.a.value }, c))) s

/-- VMOV as a sweep (R181). -/
def execVmovF96 (w0 : W0) (w1 : W1) (lit : BitVec 32) (s : State) : Host.Outcome State Fault Refusal :=
  let f := Fields.of96 w0 w1 lit
  issue .vmov f (if isSweep .vmov f then sweepBody .vmov f (wholeWord (fun a _ _ => a))
    else vectorOp .vmov f (fun c src => ({ value := vmovResult c src.a.value }, c))) s

/-- VLANE (R181). -/
def execVlane (w0 : W0) (s : State) : Host.Outcome State Fault Refusal :=
  let f := Fields.of32 w0
  issue .vlane f (vectorOp .vlane f (fun c _ => ({ value := .a 0 1 }, c))) s

/-- VLANE in F64 (R181). -/
def execVlaneF64 (w0 : W0) (w1 : W1) (s : State) : Host.Outcome State Fault Refusal :=
  let f := Fields.of64 w0 w1
  issue .vlane f (vectorOp .vlane f (fun c _ => ({ value := .a 0 1 }, c))) s

/-- VDOT4 (R181). -/
def execVdot4 (w0 : W0) (s : State) : Host.Outcome State Fault Refusal :=
  let f := Fields.of32 w0
  laneOp .vdot4 f (dot4Word f) (plainTag) s

/-- VDOT4 in F64 (R181). -/
def execVdot4F64 (w0 : W0) (w1 : W1) (s : State) : Host.Outcome State Fault Refusal :=
  let f := Fields.of64 w0 w1
  laneOp .vdot4 f (dot4Word f) (plainTag) s

/-- VDOT4 with a literal or as a sweep (R181). -/
def execVdot4F96 (w0 : W0) (w1 : W1) (lit : BitVec 32) (s : State) : Host.Outcome State Fault Refusal :=
  let f := Fields.of96 w0 w1 lit
  laneOp .vdot4 f (dot4Word f) (plainTag) s

end Sys2Proof.Machine
end

