-- ==== Sys2Proof/Machine/Special.lean ====
section
/-! DEFINITION. The special functions on binary32 patterns, by the fixed sequences of R188-R195. -/

namespace Sys2Proof.Machine

open Sys2Proof

/-- The value of a binary32 pattern. -/
def b32 (n : Nat) : FVal := FloatFormat.b32.decode n

/-- mul, add and fma of R188: rounded once by RNE, subnormals kept. -/
def mul32 (a b : Nat) : Nat := resVal .b32 1 2 0 ((b32 a).mul (b32 b))
def add32 (a b : Nat) : Nat := sumRes .b32 1 2 0 [b32 a, b32 b]
def fma32 (a b c : Nat) : Nat := sumRes .b32 1 2 0 [(b32 a).mul (b32 b), b32 c]
def rcp32 (a : Nat) : Nat := rcpRes .b32 1 2 0 (b32 a)

/-- An exact negation of a pattern. -/
def neg32 (a : Nat) : Nat := a ^^^ 0x80000000

/-- The nearest integer of a finite pattern, ties to even. -/
def rneInt (a : FVal) : Int :=
  match a with
  | .fin n m e => roundToInt 1 n m e
  | _ => 0

/-- a − z exactly. -/
def subExact (a z : FVal) : Nat := exactB32 (sumVals 1 [a, z.neg])

/-- 1.0 and 0.0 and infinity. -/
def one32 : Nat := 0x3F800000
def inf32 : Nat := 0x7F800000
def nan32 : Nat := 0x7FC00000

/-- The exponential core (R190). -/
def e2 (y : Nat) : Nat :=
  if !(b32 y).lt (.ofInt 128) then inf32
  else if (b32 y).lt (.ofInt (-150)) then 0
  else
    let n := rneInt (b32 y)
    let f := subExact (b32 y) (.ofInt n)
    let p1 := fma32 f 0x3AAEC3FB 0x3C1D955B
    let p2 := fma32 p1 f 0x3D635847
    let p3 := fma32 p2 f 0x3E75FDF0
    let p4 := fma32 p3 f 0x3F317218
    let p5 := fma32 p4 f one32
    resVal .b32 1 2 0 ((b32 p5).scale n)

/-- FEXP2 (R190). -/
def fexp2 (x : Nat) : Nat :=
  match b32 x with
  | .nan => nan32
  | .inf neg => if neg then 0 else inf32
  | .fin _ _ _ => e2 x

/-- A positive finite value as m × 2^e with 1 ≤ m < 2: the pattern of m and e (R191). -/
def splitLog (m : Nat) (e : Int) : Nat × Int :=
  let k := Nat.log2 m
  (exactB32 (.fin false m (-(k : Int))), e + (k : Int))

/-- FLOG2 (R191). -/
def flog2 (x : Nat) : Nat :=
  match b32 x with
  | .nan => nan32
  | .inf neg => if neg then nan32 else inf32
  | .fin neg m0 e0 =>
    if m0 = 0 then 0xFF800000
    else if neg then nan32
    else
      let (m1, e1) := splitLog m0 e0
      let big := (b32 0x3FB504F3).lt (b32 m1)
      let m := if big then exactB32 ((b32 m1).scale (-1)) else m1
      let e := if big then e1 + 1 else e1
      let t := mul32 (subExact (b32 m) (.ofInt 1)) (rcp32 (add32 m one32))
      let s := mul32 t t
      let q1 := fma32 s 0x3DE38E39 0x3E124925
      let q2 := fma32 q1 s 0x3E4CCCCD
      let q3 := fma32 q2 s 0x3EAAAAAB
      let q4 := mul32 q3 s
      let q5 := fma32 q4 t t
      add32 (exactB32 (.ofInt e)) (mul32 q5 0x4038AA3B)

/-- The reduction and the polynomials of FSIN and FCOS: q, sn, cs (R192). -/
def sinCos (x : Nat) : Nat × Nat × Nat :=
  let y := b32 (mul32 x 0x3E22F983)
  let k := rneInt (y.scale 2)
  let f := subExact y ((FVal.ofInt k).scale (-2))
  let a := mul32 f 0x40C90FDB
  let s := mul32 a a
  let ps1 := fma32 s 0xB9500D01 0x3C088889
  let ps2 := fma32 ps1 s 0xBE2AAAAB
  let ps3 := mul32 ps2 s
  let pc1 := fma32 s 0x37D00D01 0xBAB60B61
  let pc2 := fma32 pc1 s 0x3D2AAAAB
  let pc3 := fma32 pc2 s 0xBF000000
  ((k % 4).toNat, fma32 ps3 a a, fma32 pc3 s one32)

/-- FSIN (R192). -/
def fsin (x : Nat) : Nat :=
  match b32 x with
  | .nan | .inf _ => nan32
  | .fin _ m _ =>
    if m = 0 then x
    else match sinCos x with
      | (0, sn, _) => sn
      | (1, _, cs) => cs
      | (2, sn, _) => neg32 sn
      | (_, _, cs) => neg32 cs

/-- FCOS (R192). -/
def fcos (x : Nat) : Nat :=
  match b32 x with
  | .nan | .inf _ => nan32
  | .fin _ m _ =>
    if m = 0 then one32
    else match sinCos x with
      | (0, _, cs) => cs
      | (1, sn, _) => neg32 sn
      | (2, _, cs) => neg32 cs
      | (_, sn, _) => sn

/-- FTANH of a positive pattern (R193). -/
def tanhPos (ax : Nat) : Nat :=
  if !(b32 ax).lt (.ofInt 9) then one32
  else if (b32 ax).lt (.fin false 1 (-3)) then
    let s := mul32 ax ax
    let p1 := fma32 s 0x3CB327A4 0xBD5D0DD1
    let p2 := fma32 p1 s 0x3E088889
    let p3 := fma32 p2 s 0xBEAAAAAB
    fma32 (mul32 p3 s) ax ax
  else
    let e := e2 (mul32 ax 0x4038AA3B)
    fma32 0xC0000000 (rcp32 (add32 e one32)) one32

/-- FTANH (R193). -/
def ftanh (x : Nat) : Nat :=
  match b32 x with
  | .nan => nan32
  | v => if v.isZero then x
         else if v.isNeg then neg32 (tanhPos (x % 0x80000000)) else tanhPos x

/-- FSIGM (R194). -/
def fsigm (x : Nat) : Nat :=
  match b32 x with
  | .nan => nan32
  | .inf neg => if neg then 0 else one32
  | .fin _ _ _ =>
    let e := e2 (mul32 x 0xBFB8AA3B)
    if e = inf32 then 0 else rcp32 (add32 one32 e)

end Sys2Proof.Machine
end

