-- ==== Sys2Proof/Machine/VectorFloat.lean ====
section
/-! DEFINITION. The vector float instructions, opcodes 0x60-0x75 (R184-R195). -/

namespace Sys2Proof.Machine

open Sys2Proof

/-- Element format of a float instruction (R130, R184). -/
def Fields.ty (f : Fields) : FloatFormat :=
  match f.k 1 0 with
  | 0 => .b32
  | 1 => .b16
  | _ => .bf16

/-- An operation on the elements' exact values, delivered by the format's rounding, saturation and
subnormal rules (R184). -/
def floatExact (f : Fields) (g : Nat → FVal → FVal → FVal → List FVal) (c : Coach) : LaneFn :=
  let ty := f.ty
  mapSub ty.width (fun x y z => sumRes ty (c.rnd f) (c.sat f) c.sub
    (g (c.rnd f) (ty.operand c.sub x) (ty.operand c.sub y) (ty.operand c.sub z)))

/-- An operation on the elements' bits under the coach's rounding, saturation and subnormal modes. -/
def floatBits (f : Fields) (g : FloatFormat → Nat → Nat → Nat → Nat → Nat → Nat) (c : Coach) : LaneFn :=
  mapSub f.ty.width (fun x y _ => g f.ty (c.rnd f) (c.sat f) c.sub x y)

/-- A reciprocal or root of the operand's value. -/
def floatRoot (f : Fields) (g : FloatFormat → Nat → Nat → Nat → FVal → Nat) (c : Coach) : LaneFn :=
  floatBits f (fun ty r s sub x _ => g ty r s sub (ty.operand sub x)) c

/-- a × 2^n with n a signed element. Beyond ±1,000 every count overflows, or vanishes, alike. -/
def scaleElem (ty : FloatFormat) (r s sub x n : Nat) : Nat :=
  resVal ty r s sub ((ty.operand sub x).scale (clampInt (-1000) 1000 (sextInt n ty.width)))

/-- FDOT2 of a lane: two exact products and a binary32 addend, one rounding (R187). -/
def dot2Word (f : Fields) (c : Coach) : LaneFn := fun a b d =>
  let el (w : Word) (t : Nat) : FVal := f.ty.operand c.sub (subElem 16 t w)
  BitVec.ofNat 32 (sumRes .b32 (c.rnd f) (c.sat f) c.sub
    [(el a 0).mul (el b 0), (el a 1).mul (el b 1), FloatFormat.b32.operand c.sub d.toNat])

/-- A special function on each element: widened exactly, computed in binary32, delivered to the element
format (R188, R195). -/
def specialOp (f : Fields) (g : Nat → Nat) (c : Coach) : LaneFn :=
  mapSub f.ty.width (fun x _ _ =>
    resVal f.ty 1 2 c.sub (FloatFormat.b32.decode (g (exactB32 (f.ty.operand c.sub x)))))

/-- FADD (R185). -/
def execFadd (w0 : W0) (s : State) : Host.Outcome State Fault Refusal :=
  let f := Fields.of32 w0
  laneOp .fadd f (floatExact f (fun _ a b _ => [a, b])) plainTag s

/-- FADD in F64 (R185). -/
def execFaddF64 (w0 : W0) (w1 : W1) (s : State) : Host.Outcome State Fault Refusal :=
  let f := Fields.of64 w0 w1
  laneOp .fadd f (floatExact f (fun _ a b _ => [a, b])) plainTag s

/-- FADD with a literal or as a sweep (R185). -/
def execFaddF96 (w0 : W0) (w1 : W1) (lit : BitVec 32) (s : State) : Host.Outcome State Fault Refusal :=
  let f := Fields.of96 w0 w1 lit
  laneOp .fadd f (floatExact f (fun _ a b _ => [a, b])) plainTag s

/-- FSUB (R185). -/
def execFsub (w0 : W0) (s : State) : Host.Outcome State Fault Refusal :=
  let f := Fields.of32 w0
  laneOp .fsub f (floatExact f (fun _ a b _ => [a, b.neg])) plainTag s

/-- FSUB in F64 (R185). -/
def execFsubF64 (w0 : W0) (w1 : W1) (s : State) : Host.Outcome State Fault Refusal :=
  let f := Fields.of64 w0 w1
  laneOp .fsub f (floatExact f (fun _ a b _ => [a, b.neg])) plainTag s

/-- FSUB with a literal or as a sweep (R185). -/
def execFsubF96 (w0 : W0) (w1 : W1) (lit : BitVec 32) (s : State) : Host.Outcome State Fault Refusal :=
  let f := Fields.of96 w0 w1 lit
  laneOp .fsub f (floatExact f (fun _ a b _ => [a, b.neg])) plainTag s

/-- FMUL (R185). -/
def execFmul (w0 : W0) (s : State) : Host.Outcome State Fault Refusal :=
  let f := Fields.of32 w0
  laneOp .fmul f (floatExact f (fun _ a b _ => [a.mul b])) plainTag s

/-- FMUL in F64 (R185). -/
def execFmulF64 (w0 : W0) (w1 : W1) (s : State) : Host.Outcome State Fault Refusal :=
  let f := Fields.of64 w0 w1
  laneOp .fmul f (floatExact f (fun _ a b _ => [a.mul b])) plainTag s

/-- FMUL with a literal or as a sweep (R185). -/
def execFmulF96 (w0 : W0) (w1 : W1) (lit : BitVec 32) (s : State) : Host.Outcome State Fault Refusal :=
  let f := Fields.of96 w0 w1 lit
  laneOp .fmul f (floatExact f (fun _ a b _ => [a.mul b])) plainTag s

/-- FFMA (R185). -/
def execFfma (w0 : W0) (s : State) : Host.Outcome State Fault Refusal :=
  let f := Fields.of32 w0
  laneOp .ffma f (floatExact f (fun _ a b c => [a.mul b, c])) plainTag s

/-- FFMA in F64 (R185). -/
def execFfmaF64 (w0 : W0) (w1 : W1) (s : State) : Host.Outcome State Fault Refusal :=
  let f := Fields.of64 w0 w1
  laneOp .ffma f (floatExact f (fun _ a b c => [a.mul b, c])) plainTag s

/-- FFMA with a literal or as a sweep (R185). -/
def execFfmaF96 (w0 : W0) (w1 : W1) (lit : BitVec 32) (s : State) : Host.Outcome State Fault Refusal :=
  let f := Fields.of96 w0 w1 lit
  laneOp .ffma f (floatExact f (fun _ a b c => [a.mul b, c])) plainTag s

/-- FMIN (R185). -/
def execFmin (w0 : W0) (s : State) : Host.Outcome State Fault Refusal :=
  let f := Fields.of32 w0
  laneOp .fmin f (floatBits f (fun ty _ _ sub a b => fminmax ty false sub a b)) plainTag s

/-- FMIN in F64 (R185). -/
def execFminF64 (w0 : W0) (w1 : W1) (s : State) : Host.Outcome State Fault Refusal :=
  let f := Fields.of64 w0 w1
  laneOp .fmin f (floatBits f (fun ty _ _ sub a b => fminmax ty false sub a b)) plainTag s

/-- FMIN with a literal or as a sweep (R185). -/
def execFminF96 (w0 : W0) (w1 : W1) (lit : BitVec 32) (s : State) : Host.Outcome State Fault Refusal :=
  let f := Fields.of96 w0 w1 lit
  laneOp .fmin f (floatBits f (fun ty _ _ sub a b => fminmax ty false sub a b)) plainTag s

/-- FMAX (R185). -/
def execFmax (w0 : W0) (s : State) : Host.Outcome State Fault Refusal :=
  let f := Fields.of32 w0
  laneOp .fmax f (floatBits f (fun ty _ _ sub a b => fminmax ty true sub a b)) plainTag s

/-- FMAX in F64 (R185). -/
def execFmaxF64 (w0 : W0) (w1 : W1) (s : State) : Host.Outcome State Fault Refusal :=
  let f := Fields.of64 w0 w1
  laneOp .fmax f (floatBits f (fun ty _ _ sub a b => fminmax ty true sub a b)) plainTag s

/-- FMAX with a literal or as a sweep (R185). -/
def execFmaxF96 (w0 : W0) (w1 : W1) (lit : BitVec 32) (s : State) : Host.Outcome State Fault Refusal :=
  let f := Fields.of96 w0 w1 lit
  laneOp .fmax f (floatBits f (fun ty _ _ sub a b => fminmax ty true sub a b)) plainTag s

/-- FABS (R185). -/
def execFabs (w0 : W0) (s : State) : Host.Outcome State Fault Refusal :=
  let f := Fields.of32 w0
  laneOp .fabs f (floatBits f (fun ty _ _ _ a _ => a % 2 ^ (ty.width - 1))) plainTag s

/-- FABS in F64 (R185). -/
def execFabsF64 (w0 : W0) (w1 : W1) (s : State) : Host.Outcome State Fault Refusal :=
  let f := Fields.of64 w0 w1
  laneOp .fabs f (floatBits f (fun ty _ _ _ a _ => a % 2 ^ (ty.width - 1))) plainTag s

/-- FABS as a sweep (R185). -/
def execFabsF96 (w0 : W0) (w1 : W1) (lit : BitVec 32) (s : State) : Host.Outcome State Fault Refusal :=
  let f := Fields.of96 w0 w1 lit
  laneOp .fabs f (floatBits f (fun ty _ _ _ a _ => a % 2 ^ (ty.width - 1))) plainTag s

/-- FNEG (R185). -/
def execFneg (w0 : W0) (s : State) : Host.Outcome State Fault Refusal :=
  let f := Fields.of32 w0
  laneOp .fneg f (floatBits f (fun ty _ _ _ a _ => a ^^^ 2 ^ (ty.width - 1))) plainTag s

/-- FNEG in F64 (R185). -/
def execFnegF64 (w0 : W0) (w1 : W1) (s : State) : Host.Outcome State Fault Refusal :=
  let f := Fields.of64 w0 w1
  laneOp .fneg f (floatBits f (fun ty _ _ _ a _ => a ^^^ 2 ^ (ty.width - 1))) plainTag s

/-- FNEG as a sweep (R185). -/
def execFnegF96 (w0 : W0) (w1 : W1) (lit : BitVec 32) (s : State) : Host.Outcome State Fault Refusal :=
  let f := Fields.of96 w0 w1 lit
  laneOp .fneg f (floatBits f (fun ty _ _ _ a _ => a ^^^ 2 ^ (ty.width - 1))) plainTag s

/-- FCMP (R186). -/
def execFcmp (w0 : W0) (s : State) : Host.Outcome State Fault Refusal :=
  let f := Fields.of32 w0
  compareOp .fcmp f (fun c a b => fcmpCond (f.k 5 2)
    (FloatFormat.b32.operand c.sub a.toNat) (FloatFormat.b32.operand c.sub b.toNat)) s

/-- FCMP in F64 (R186). -/
def execFcmpF64 (w0 : W0) (w1 : W1) (s : State) : Host.Outcome State Fault Refusal :=
  let f := Fields.of64 w0 w1
  compareOp .fcmp f (fun c a b => fcmpCond (f.k 5 2)
    (FloatFormat.b32.operand c.sub a.toNat) (FloatFormat.b32.operand c.sub b.toNat)) s

/-- FCMP with a literal (R186). -/
def execFcmpF96 (w0 : W0) (w1 : W1) (lit : BitVec 32) (s : State) : Host.Outcome State Fault Refusal :=
  let f := Fields.of96 w0 w1 lit
  compareOp .fcmp f (fun c a b => fcmpCond (f.k 5 2)
    (FloatFormat.b32.operand c.sub a.toNat) (FloatFormat.b32.operand c.sub b.toNat)) s

/-- FRCP (R185). -/
def execFrcp (w0 : W0) (s : State) : Host.Outcome State Fault Refusal :=
  let f := Fields.of32 w0
  laneOp .frcp f (floatRoot f rcpRes) plainTag s

/-- FRCP in F64 (R185). -/
def execFrcpF64 (w0 : W0) (w1 : W1) (s : State) : Host.Outcome State Fault Refusal :=
  let f := Fields.of64 w0 w1
  laneOp .frcp f (floatRoot f rcpRes) plainTag s

/-- FRCP as a sweep (R185). -/
def execFrcpF96 (w0 : W0) (w1 : W1) (lit : BitVec 32) (s : State) : Host.Outcome State Fault Refusal :=
  let f := Fields.of96 w0 w1 lit
  laneOp .frcp f (floatRoot f rcpRes) plainTag s

/-- FRSQ (R185). -/
def execFrsq (w0 : W0) (s : State) : Host.Outcome State Fault Refusal :=
  let f := Fields.of32 w0
  laneOp .frsq f (floatRoot f rsqRes) plainTag s

/-- FRSQ in F64 (R185). -/
def execFrsqF64 (w0 : W0) (w1 : W1) (s : State) : Host.Outcome State Fault Refusal :=
  let f := Fields.of64 w0 w1
  laneOp .frsq f (floatRoot f rsqRes) plainTag s

/-- FRSQ as a sweep (R185). -/
def execFrsqF96 (w0 : W0) (w1 : W1) (lit : BitVec 32) (s : State) : Host.Outcome State Fault Refusal :=
  let f := Fields.of96 w0 w1 lit
  laneOp .frsq f (floatRoot f rsqRes) plainTag s

/-- FSQRT (R185). -/
def execFsqrt (w0 : W0) (s : State) : Host.Outcome State Fault Refusal :=
  let f := Fields.of32 w0
  laneOp .fsqrt f (floatRoot f sqrtRes) plainTag s

/-- FSQRT in F64 (R185). -/
def execFsqrtF64 (w0 : W0) (w1 : W1) (s : State) : Host.Outcome State Fault Refusal :=
  let f := Fields.of64 w0 w1
  laneOp .fsqrt f (floatRoot f sqrtRes) plainTag s

/-- FSQRT as a sweep (R185). -/
def execFsqrtF96 (w0 : W0) (w1 : W1) (lit : BitVec 32) (s : State) : Host.Outcome State Fault Refusal :=
  let f := Fields.of96 w0 w1 lit
  laneOp .fsqrt f (floatRoot f sqrtRes) plainTag s

/-- FEXP2 (R190). -/
def execFexp2 (w0 : W0) (s : State) : Host.Outcome State Fault Refusal :=
  let f := Fields.of32 w0
  laneOp .fexp2 f (specialOp f fexp2) plainTag s

/-- FEXP2 in F64 (R190). -/
def execFexp2F64 (w0 : W0) (w1 : W1) (s : State) : Host.Outcome State Fault Refusal :=
  let f := Fields.of64 w0 w1
  laneOp .fexp2 f (specialOp f fexp2) plainTag s

/-- FEXP2 as a sweep (R190). -/
def execFexp2F96 (w0 : W0) (w1 : W1) (lit : BitVec 32) (s : State) : Host.Outcome State Fault Refusal :=
  let f := Fields.of96 w0 w1 lit
  laneOp .fexp2 f (specialOp f fexp2) plainTag s

/-- FLOG2 (R191). -/
def execFlog2 (w0 : W0) (s : State) : Host.Outcome State Fault Refusal :=
  let f := Fields.of32 w0
  laneOp .flog2 f (specialOp f flog2) plainTag s

/-- FLOG2 in F64 (R191). -/
def execFlog2F64 (w0 : W0) (w1 : W1) (s : State) : Host.Outcome State Fault Refusal :=
  let f := Fields.of64 w0 w1
  laneOp .flog2 f (specialOp f flog2) plainTag s

/-- FLOG2 as a sweep (R191). -/
def execFlog2F96 (w0 : W0) (w1 : W1) (lit : BitVec 32) (s : State) : Host.Outcome State Fault Refusal :=
  let f := Fields.of96 w0 w1 lit
  laneOp .flog2 f (specialOp f flog2) plainTag s

/-- FSIN (R192). -/
def execFsin (w0 : W0) (s : State) : Host.Outcome State Fault Refusal :=
  let f := Fields.of32 w0
  laneOp .fsin f (specialOp f fsin) plainTag s

/-- FSIN in F64 (R192). -/
def execFsinF64 (w0 : W0) (w1 : W1) (s : State) : Host.Outcome State Fault Refusal :=
  let f := Fields.of64 w0 w1
  laneOp .fsin f (specialOp f fsin) plainTag s

/-- FSIN as a sweep (R192). -/
def execFsinF96 (w0 : W0) (w1 : W1) (lit : BitVec 32) (s : State) : Host.Outcome State Fault Refusal :=
  let f := Fields.of96 w0 w1 lit
  laneOp .fsin f (specialOp f fsin) plainTag s

/-- FCOS (R192). -/
def execFcos (w0 : W0) (s : State) : Host.Outcome State Fault Refusal :=
  let f := Fields.of32 w0
  laneOp .fcos f (specialOp f fcos) plainTag s

/-- FCOS in F64 (R192). -/
def execFcosF64 (w0 : W0) (w1 : W1) (s : State) : Host.Outcome State Fault Refusal :=
  let f := Fields.of64 w0 w1
  laneOp .fcos f (specialOp f fcos) plainTag s

/-- FCOS as a sweep (R192). -/
def execFcosF96 (w0 : W0) (w1 : W1) (lit : BitVec 32) (s : State) : Host.Outcome State Fault Refusal :=
  let f := Fields.of96 w0 w1 lit
  laneOp .fcos f (specialOp f fcos) plainTag s

/-- FTANH (R193). -/
def execFtanh (w0 : W0) (s : State) : Host.Outcome State Fault Refusal :=
  let f := Fields.of32 w0
  laneOp .ftanh f (specialOp f ftanh) plainTag s

/-- FTANH in F64 (R193). -/
def execFtanhF64 (w0 : W0) (w1 : W1) (s : State) : Host.Outcome State Fault Refusal :=
  let f := Fields.of64 w0 w1
  laneOp .ftanh f (specialOp f ftanh) plainTag s

/-- FTANH as a sweep (R193). -/
def execFtanhF96 (w0 : W0) (w1 : W1) (lit : BitVec 32) (s : State) : Host.Outcome State Fault Refusal :=
  let f := Fields.of96 w0 w1 lit
  laneOp .ftanh f (specialOp f ftanh) plainTag s

/-- FSIGM (R194). -/
def execFsigm (w0 : W0) (s : State) : Host.Outcome State Fault Refusal :=
  let f := Fields.of32 w0
  laneOp .fsigm f (specialOp f fsigm) plainTag s

/-- FSIGM in F64 (R194). -/
def execFsigmF64 (w0 : W0) (w1 : W1) (s : State) : Host.Outcome State Fault Refusal :=
  let f := Fields.of64 w0 w1
  laneOp .fsigm f (specialOp f fsigm) plainTag s

/-- FSIGM as a sweep (R194). -/
def execFsigmF96 (w0 : W0) (w1 : W1) (lit : BitVec 32) (s : State) : Host.Outcome State Fault Refusal :=
  let f := Fields.of96 w0 w1 lit
  laneOp .fsigm f (specialOp f fsigm) plainTag s

/-- FCLASS (R186). -/
def execFclass (w0 : W0) (s : State) : Host.Outcome State Fault Refusal :=
  let f := Fields.of32 w0
  laneOp .fclass f (wholeWord (fun a _ _ => BitVec.ofNat 32 (fclass a.toNat))) plainTag s

/-- FCLASS in F64 (R186). -/
def execFclassF64 (w0 : W0) (w1 : W1) (s : State) : Host.Outcome State Fault Refusal :=
  let f := Fields.of64 w0 w1
  laneOp .fclass f (wholeWord (fun a _ _ => BitVec.ofNat 32 (fclass a.toNat))) plainTag s

/-- FCLASS as a sweep (R186). -/
def execFclassF96 (w0 : W0) (w1 : W1) (lit : BitVec 32) (s : State) : Host.Outcome State Fault Refusal :=
  let f := Fields.of96 w0 w1 lit
  laneOp .fclass f (wholeWord (fun a _ _ => BitVec.ofNat 32 (fclass a.toNat))) plainTag s

/-- FROUND (R185). -/
def execFround (w0 : W0) (s : State) : Host.Outcome State Fault Refusal :=
  let f := Fields.of32 w0
  laneOp .fround f (floatBits f (fun ty r _ sub a _ => froundRes ty r (ty.operand sub a))) plainTag s

/-- FROUND in F64 (R185). -/
def execFroundF64 (w0 : W0) (w1 : W1) (s : State) : Host.Outcome State Fault Refusal :=
  let f := Fields.of64 w0 w1
  laneOp .fround f (floatBits f (fun ty r _ sub a _ => froundRes ty r (ty.operand sub a))) plainTag s

/-- FROUND as a sweep (R185). -/
def execFroundF96 (w0 : W0) (w1 : W1) (lit : BitVec 32) (s : State) : Host.Outcome State Fault Refusal :=
  let f := Fields.of96 w0 w1 lit
  laneOp .fround f (floatBits f (fun ty r _ sub a _ => froundRes ty r (ty.operand sub a))) plainTag s

/-- FDOT2 (R187). -/
def execFdot2 (w0 : W0) (s : State) : Host.Outcome State Fault Refusal :=
  let f := Fields.of32 w0
  laneOp .fdot2 f (dot2Word f) plainTag s

/-- FDOT2 in F64 (R187). -/
def execFdot2F64 (w0 : W0) (w1 : W1) (s : State) : Host.Outcome State Fault Refusal :=
  let f := Fields.of64 w0 w1
  laneOp .fdot2 f (dot2Word f) plainTag s

/-- FDOT2 with a literal or as a sweep (R187). -/
def execFdot2F96 (w0 : W0) (w1 : W1) (lit : BitVec 32) (s : State) : Host.Outcome State Fault Refusal :=
  let f := Fields.of96 w0 w1 lit
  laneOp .fdot2 f (dot2Word f) plainTag s

/-- FSCALE (R185). -/
def execFscale (w0 : W0) (s : State) : Host.Outcome State Fault Refusal :=
  let f := Fields.of32 w0
  laneOp .fscale f (floatBits f scaleElem) plainTag s

/-- FSCALE in F64 (R185). -/
def execFscaleF64 (w0 : W0) (w1 : W1) (s : State) : Host.Outcome State Fault Refusal :=
  let f := Fields.of64 w0 w1
  laneOp .fscale f (floatBits f scaleElem) plainTag s

/-- FSCALE with a literal or as a sweep (R185). -/
def execFscaleF96 (w0 : W0) (w1 : W1) (lit : BitVec 32) (s : State) : Host.Outcome State Fault Refusal :=
  let f := Fields.of96 w0 w1 lit
  laneOp .fscale f (floatBits f scaleElem) plainTag s

end Sys2Proof.Machine
end

