-- ==== Sys2Proof/Machine/Convert.lean ====
section
/-! DEFINITION. Conversion, packing and quantisation, opcodes 0x80-0x87, and the codebook instructions
0x88-0x8A (R197-R212). -/

namespace Sys2Proof.Machine

open Sys2Proof

/-- A vector result computed lane by lane from D, A, B and C, with the natural tag of R199. -/
def natural4 (w : Nat) (g : Word → Word → Word → Word → Word) (d a b c : VReg) : VReg :=
  match d, a, b, c with
  | .u x, .u y, .u z, .u t => .u (g x y z t)
  | _, _, _, _ => .g ((List.range w).map (fun j => g (d.elem j) (a.elem j) (b.elem j) (c.elem j)))

/-- A lane-by-lane instruction of this chapter: `g` takes the elements of A, B and C. -/
def convertOp (o : Op) (f : Fields) (g : Coach → LaneFn) (s : State) : Host.Outcome State Fault Refusal :=
  issue o f (vectorOp o f (fun c src =>
    ({ value := natural c.width (g c) noTag src.a.value src.b src.c }, c))) s

/-! ### CVT (R200) -/

/-- Float format of a type code of CVT. -/
def cvtFloat (code : Nat) : FloatFormat :=
  match code with
  | 0 => .b32
  | 1 => .b16
  | _ => .bf16

/-- Range of an integer type code of CVT: 3 I32, 4 N32. -/
def cvtRange (code : Nat) : Int × Int := if code = 3 then (-(2 ^ 31), 2 ^ 31 - 1) else (0, 2 ^ 32 - 1)

/-- The source value of CVT. -/
def cvtSource (st sub : Nat) (a : Word) : FVal :=
  match st with
  | 3 => .ofInt a.toInt
  | 4 => .ofInt a.toNat
  | _ => (cvtFloat st).operand sub (a.toNat % 2 ^ (cvtFloat st).width)

/-- CVT of an element (R200). -/
def cvtWord (st dt r s sub : Nat) (a : Word) : Word :=
  if 3 ≤ dt then
    let (lo, hi) := cvtRange dt
    if 3 ≤ st then
      if s = 1 then BitVec.ofInt 32 (clampInt lo hi (if st = 3 then a.toInt else a.toNat)) else a
    else BitVec.ofInt 32 (floatToInt r lo hi (cvtSource st sub a))
  else BitVec.ofNat 32 (resVal (cvtFloat dt) r s sub (cvtSource st sub a))

/-- CVT under the coach's modes. -/
def cvtLane (f : Fields) (c : Coach) : LaneFn := fun a _ _ =>
  cvtWord (f.k 5 3) (f.k 2 0) (c.rnd f) (c.sat f) c.sub a

/-- CVT (R200). -/
def execCvt (w0 : W0) (s : State) : Host.Outcome State Fault Refusal :=
  let f := Fields.of32 w0
  convertOp .cvt f (cvtLane f) s

/-- CVT in F64 (R200). -/
def execCvtF64 (w0 : W0) (w1 : W1) (s : State) : Host.Outcome State Fault Refusal :=
  let f := Fields.of64 w0 w1
  convertOp .cvt f (cvtLane f) s

/-! ### PACK and UNPK (R201, R202) -/

/-- A narrow format code as an element format, 0 F16 to 6 INT4. -/
def narrowFormat (nf : Nat) : ElemFormat :=
  match nf with
  | 0 => .float .b16
  | 1 => .float .bf16
  | 2 => .float .e4m3
  | 3 => .float .e5m2
  | 4 => .float .e2m1
  | 5 => .int8
  | _ => .int4

/-- Width of a narrow format. -/
def narrowWidth (nf : Nat) : Nat :=
  match nf with
  | 0 | 1 => 16
  | 4 | 6 => 4
  | _ => 8

/-- Conversion of a binary32 pattern by R143. -/
def packConv (fmt : ElemFormat) (n : Nat) : Nat :=
  match fmt with
  | .float f => storeFloat f n
  | .int8 => toBits 8 (storeInt (-127) 127 n)
  | .int4 => toBits 4 (storeInt (-7) 7 n)
  | _ => 0

/-- A word with element e of width w replaced. -/
def putElem (w e : Nat) (d : Word) (v : Nat) : Word := setField d (w * e) w v

/-- PACK of an element pair (R201). -/
def packWord (nf h : Nat) (d a b : Word) : Word :=
  let fmt := narrowFormat nf
  let w := narrowWidth nf
  let qa := packConv fmt a.toNat
  let qb := packConv fmt b.toNat
  if w = 16 then BitVec.ofNat 32 (qa + qb * 65536)
  else putElem w (2 * h + 1) (putElem w (2 * h) d qa) qb

/-- PACK reads D for the formats that keep other elements of it. -/
def packOp (f : Fields) (s : State) : Host.Outcome State Fault Refusal :=
  issue .pack f (fun s l c =>
    let old := if f.k 2 0 < 2 then Delivered.ofStream (.u 0) else s.readV c f.d.toNat
    vectorOp .pack f (fun c src =>
      ({ value := natural4 c.width (fun d a b _ => packWord (f.k 2 0) (f.k 4 3) d a b)
          old.value src.a.value src.b (.u 0) }, c.noteLost old.lost)) s l c) s

/-- PACK (R201). -/
def execPack (w0 : W0) (s : State) : Host.Outcome State Fault Refusal := packOp (.of32 w0) s

/-- PACK in F64 (R201). -/
def execPackF64 (w0 : W0) (w1 : W1) (s : State) : Host.Outcome State Fault Refusal :=
  packOp (.of64 w0 w1) s

/-- PACK with a literal (R201). -/
def execPackF96 (w0 : W0) (w1 : W1) (lit : BitVec 32) (s : State) : Host.Outcome State Fault Refusal :=
  packOp (.of96 w0 w1 lit) s

/-- UNPK of an element (R202). -/
def unpkWord (nf e : Nat) (a : Word) : Word :=
  let n := subElem (narrowWidth nf) e a
  match narrowFormat nf with
  | .float f => BitVec.ofNat 32 (exactB32 (f.decode n))
  | .int8 => BitVec.ofInt 32 (sextInt n 8)
  | _ => BitVec.ofInt 32 (sextInt n 4)

/-- UNPK (R202). -/
def execUnpk (w0 : W0) (s : State) : Host.Outcome State Fault Refusal :=
  let f := Fields.of32 w0
  convertOp .unpk f (fun _ a _ _ => unpkWord (f.k 2 0) (f.k 5 3) a) s

/-- UNPK in F64 (R202). -/
def execUnpkF64 (w0 : W0) (w1 : W1) (s : State) : Host.Outcome State Fault Refusal :=
  let f := Fields.of64 w0 w1
  convertOp .unpk f (fun _ a _ _ => unpkWord (f.k 2 0) (f.k 5 3) a) s

/-! ### QAMAX (R204) -/

/-- Is a magnitude a NaN? -/
def nanMagnitude (m : Nat) : Bool := (FloatFormat.b32.decode m).isNan

/-- One element of a running amax. The maximum of a magnitude that is itself a NaN and a finite one is not stated: it is
free (log 43). -/
def qamaxStep (free : Nat) (fmt : FloatFormat) (acc : Nat × Bool) (n : Nat) : Nat × Bool :=
  match fmt.decode n with
  | .fin _ _ _ => if nanMagnitude acc.1 then (free, acc.2) else amaxStep fmt acc n
  | _ => amaxStep fmt acc n

/-- A free magnitude. -/
def freeMagnitude (fresh j : Nat) : Nat := (Config.freeDWord fresh j).toNat % 2 ^ 31

/-- The running amax of lane j: magnitude and flag. -/
def qamaxLane (fresh : Nat) (f : Fields) (j : Nat) (a c : Word) : Nat × Bool :=
  let w := f.ty.width
  (List.range (32 / w)).foldl (fun acc t => qamaxStep (freeMagnitude fresh j) f.ty acc (subElem w t a))
    (c.toNat % 2 ^ 31, 2 ^ 31 ≤ c.toNat)

/-- The largest magnitude of a group's lanes; among several, one that is a NaN leaves it free (log 43). -/
def groupMagnitude (free : Nat) (ms : List Nat) : Nat :=
  match ms with
  | [m] => m
  | ms => if ms.any nanMagnitude then free else ms.foldl max 0

/-- An amax in QAMAX form. -/
def amaxWord (r : Nat × Bool) : Word := BitVec.ofNat 32 (r.1 + if r.2 then 2 ^ 31 else 0)

/-- Lanes of a QAMAX group (R204). -/
def Coach.groupLanes (c : Coach) : Nat := if c.cmp16 || c.width = 16 then 16 else 32

/-- QAMAX of lane j, over its group's active lanes with GRP = 1. -/
def qamaxResult (fresh : Nat) (f : Fields) (c : Coach) (a d : VReg) (j : Nat) : Word :=
  let r (i : Nat) : Nat × Bool := qamaxLane fresh f i (a.elem i) (d.elem i)
  if f.k 2 2 = 1 then
    let q := j / c.groupLanes * c.groupLanes
    let rs := (((List.range c.groupLanes).map (q + ·)).filter (fun i => bit (c.act f) i)).map r
    amaxWord (groupMagnitude (freeMagnitude fresh (64 + q)) (rs.map (·.1)), rs.any (·.2))
  else amaxWord (r j)

/-- QAMAX in either format. -/
def qamaxOp (f : Fields) (s : State) : Host.Outcome State Fault Refusal :=
  issue .qamax f (fun s l c =>
    vectorOp .qamax f (fun c src =>
      let v := match src.a.value, src.c with
        | .u a, .u d => VReg.u (amaxWord (qamaxLane s.fresh f 0 a d))
        | a, d => .g ((List.range c.width).map (qamaxResult s.fresh f c a d))
      ({ value := v, keepExited := f.k 2 2 == 1 }, c)) s l c) s

/-- QAMAX (R204). -/
def execQamax (w0 : W0) (s : State) : Host.Outcome State Fault Refusal := qamaxOp (.of32 w0) s

/-- QAMAX in F64 (R204). -/
def execQamaxF64 (w0 : W0) (w1 : W1) (s : State) : Host.Outcome State Fault Refusal :=
  qamaxOp (.of64 w0 w1) s

/-! ### Scale bytes (R205, R206) -/

/-- Element format of a TF code. -/
def targetFormat (tf : Nat) : ElemFormat :=
  match tf with
  | 0 => .float .e4m3
  | 1 => .float .e5m2
  | 2 => .int8
  | 3 => .float .e2m1
  | 4 => .int4
  | _ => .cb4

/-- The tag of a TF code (R205). -/
def targetTag (tf : Nat) : Nat := tf % 3

/-- OPERAND 0x0108 of a CB slot that nothing has loaded (R363). -/
def State.cbTrap (s : State) (c : Coach) (n : Nat) : Option Trap :=
  operandIf (!(s.cbSlot c n).loaded) 0x0108 n

/-- QEXP in either format (R205). -/
def qexpOp (f : Fields) (s : State) : Host.Outcome State Fault Refusal :=
  issue .qexp f (fun s l c =>
    let cb := s.cbSlot c (f.k 2 0)
    let m := elemMax (targetFormat (f.k 5 3)) cb.entries
    checked [c.blockTrap .qexp f, s.streamTraps l c .qexp f 0x0106,
        if f.k 5 3 = 5 then s.cbTrap c (f.k 2 0) else none]
      (vectorOp .qexp f (fun c src =>
        ({ value := natural c.width (fun a _ _ =>
            BitVec.ofNat 32 (scaleByte (targetTag (f.k 5 3)) m a.toNat)) noTag
            src.a.value src.b src.c }, c)) s l c)) s

/-- QEXP (R205). -/
def execQexp (w0 : W0) (s : State) : Host.Outcome State Fault Refusal := qexpOp (.of32 w0) s

/-- QEXP in F64 (R205). -/
def execQexpF64 (w0 : W0) (w1 : W1) (s : State) : Host.Outcome State Fault Refusal :=
  qexpOp (.of64 w0 w1) s

/-- The byte of a calibrated scale (R206). -/
def calibratedByte (tag : Nat) (a : Nat) : Nat :=
  tag * 64 + (match FloatFormat.b32.decode a with
    | .inf false => 63
    | .fin false m e => if m = 0 then 0 else scaleExp m e 1 0
    | _ => 0)

/-- QTAG in either format (R206). -/
def qtagLane (f : Fields) (_ : Coach) : LaneFn := fun a b _ =>
  BitVec.ofNat 32 (if f.k 0 0 = 1 ∧ b = 0 then 0xC0 else calibratedByte (targetTag (f.k 5 3)) a.toNat)

/-- QTAG (R206). -/
def execQtag (w0 : W0) (s : State) : Host.Outcome State Fault Refusal :=
  let f := Fields.of32 w0
  convertOp .qtag f (qtagLane f) s

/-- QTAG in F64 (R206). -/
def execQtagF64 (w0 : W0) (w1 : W1) (s : State) : Host.Outcome State Fault Refusal :=
  let f := Fields.of64 w0 w1
  convertOp .qtag f (qtagLane f) s

/-! ### QCVT and DQCVT (R207, R208) -/

/-- FAM 1: the 4-bit family. -/
def blk4Form (f : Fields) : Bool := f.k 4 4 == 1

/-- Element width of the family. -/
def blockWidth (f : Fields) : Nat := if blk4Form f then 4 else 8

/-- OPERAND 0x0115: an element index beyond the family's range. -/
def eixTrap (f : Fields) : Option Trap :=
  operandIf (!blk4Form f && 4 ≤ f.k 2 0) 0x0115 (f.k 2 0)

/-- The active lanes whose scale byte has a CB4 tag. -/
def cb4Lanes (c : Coach) (f : Fields) (b : VReg) : DWord :=
  c.act f &&& maskOf c.width (fun j => blk4Form f && bits (b.elem j) 7 6 == 2)

/-- OPERAND 0x0108 and 0x0109 of lanes whose tag needs a codebook (R207, R363). Where B is a stream, its values show
it (log 66). A poisoned slot is MACHINE (R398). -/
def State.cb4Trap (s : State) (c : Coach) (f : Fields) (b : VReg) : Option Trap :=
  let need := cb4Lanes c f b
  if need = 0 then none
  else if f.c.toNat = 255 then some { operandTrap 0x0109 0 with lanes := need }
  else if s.regPoisoned c.id (6, f.c.toNat) then some { cls := 11, code := 2 }
  else s.cbTrap c f.c.toNat

/-- A quantised element of lane j: bits and event (R207). -/
def qcvtElem (f : Fields) (cb : List (BitVec 16)) (a b : Word) : Nat × Bool :=
  quantise (tagFormat (blk4Form f) (bits b 7 6)) cb (bits b 5 0) a.toNat

/-- Saturation events of the active lanes. -/
def qcvtEvents (c : Coach) (f : Fields) (cb : List (BitVec 16)) (a b : VReg) : Nat :=
  ((List.range c.width).filter (fun j => bit (c.act f) j && (qcvtElem f cb (a.elem j) (b.elem j)).2)).length

/-- A vector instruction whose B decides checks of its own. -/
def scaledOp (o : Op) (f : Fields) (g : Coach → List (BitVec 16) → Sources → VReg × Nat) (s : State) :
    Host.Outcome State Fault Refusal :=
  issue o f (fun s l c =>
    checked [leastTrap (s.vectorChecks l c o f
        ++ [if streamB o f then none else s.cb4Trap c f (s.plainB c o f).value, eixTrap f])]
      (match s.sourcesWith l c o f (fun src => s.cb4Trap c f src.b) with
       | .error e => .error e
       | .ok (src, s1, c1) =>
         let (v, n) := g c1 (s.cbSlot c f.c.toNat).entries src
         let (s2, c2) := s1.holdA { c1 with cstat := addQsat c1.cstat n } f src.a
         let (s3, c3) := s2.writeV c2 f.d.toNat (c1.act f) { value := v }
         finish s3 c3 f)) s

/-- QCVT (R207). -/
def execQcvt (w0 : W0) (w1 : W1) (s : State) : Host.Outcome State Fault Refusal :=
  let f := Fields.of64 w0 w1
  scaledOp .qcvt f (fun c cb src =>
    (natural4 c.width (fun d a b _ => putElem (blockWidth f) (f.k 2 0) d (qcvtElem f cb a b).1)
        (c.vr f.d.toNat) src.a.value src.b (.u 0),
      if f.k 5 5 = 1 then qcvtEvents c f cb src.a.value src.b else 0)) s

/-- DQCVT (R208). -/
def execDqcvt (w0 : W0) (w1 : W1) (s : State) : Host.Outcome State Fault Refusal :=
  let f := Fields.of64 w0 w1
  scaledOp .dqcvt f (fun c cb src =>
    (natural4 c.width (fun _ a b _ => BitVec.ofNat 32
        (dequant (blk4Form f) (bits b 7 0) cb (subElem (blockWidth f) (f.k 2 0) a)))
        (.u 0) src.a.value src.b (.u 0), 0)) s

/-! ### Codebook slots (R209-R212) -/

/-- One-byte accesses of `n` bytes at a byte offset of a pointer; the first checks the offset's
multiple. -/
def byteElems (n mul : Nat) (p : BitVec 128) (reg : Nat) (off : Int) : List Elem :=
  (List.range n).map (fun (i : Nat) =>
    ⟨0, reg, p, off + (i : Int), 1, 1, if i = 0 then mul else 1, false, false, false⟩)

/-- Read a slot's bytes once for the coach through P[A] at byte offset `off`. -/
def readSlot (s : State) (l : Launch) (c : Coach) (f : Fields) (n mul : Nat) (off : Int) :
    Except Stop (List Nat × State) :=
  s.loadElems l c f { lanes := false } 0 false (byteElems n mul (c.pr f.a.toNat) f.a.toNat off)

/-- The offset of CBLD, zero-extended in the literal form (R209). -/
def cbldOff (c : Coach) (f : Fields) : Int := if f.form = .f96 then f.lit.toNat else (c.xr f.b.toNat).toNat

/-- OPERAND 0x0106 of a pointer that satisfies R87 (R354, R358). -/
def fmtTrap (l : Launch) (c : Coach) (reg : Nat) (ok : Nat → Bool) : Option Trap :=
  let p := c.pr reg
  operandIf (ptrWellFormed l.scopeMax p && !ok (ptrFmt p)) 0x0106 (ptrFmt p + 256 * reg)

/-- Two-byte entries of a byte list. -/
def pairsOf : List Nat → List (BitVec 16)
  | a :: b :: t => BitVec.ofNat 16 (a + 256 * b) :: pairsOf t
  | _ => []

/-- CBLD in either format (R209). -/
def cbldBody (f : Fields) : Body := fun s l c =>
  checked [fmtTrap l c f.a.toNat (fun n => n == 0 || n == 9)] (whenActive s c f
    (match readSlot s l c f 32 2 (cbldOff c f) with
     | .error e => .error e
     | .ok (bs, s1) =>
       match s1.crewOf c with
       | none => finish s1 c f
       | some k => finish (s1.setCrew { k with
           cb := k.cb.set f.d.toNat { loaded := true, entries := pairsOf bs } }) c f))

/-- CBLD (R209). -/
def execCbld (w0 : W0) (w1 : W1) (s : State) : Host.Outcome State Fault Refusal :=
  issue .cbld (.of64 w0 w1) (cbldBody (.of64 w0 w1)) s

/-- CBLD with a literal offset (R209). -/
def execCbldF96 (w0 : W0) (w1 : W1) (lit : BitVec 32) (s : State) : Host.Outcome State Fault Refusal :=
  issue .cbld (.of96 w0 w1 lit) (cbldBody (.of96 w0 w1 lit)) s

/-- An instruction that reads codebook slot B (R211, R212, R363). -/
def codebookOp (o : Op) (f : Fields) (g : Coach → List (BitVec 16) → Word → Word → Word) (old : Bool)
    (s : State) : Host.Outcome State Fault Refusal :=
  issue o f (fun s l c =>
    checked [c.blockTrap o f, s.streamTraps l c o f 0x0106, s.cbTrap c f.b.toNat]
      (vectorOp o f (fun c src =>
        ({ value := natural4 c.width (fun d a _ _ => g c (s.cbSlot c f.b.toNat).entries d a)
            (if old then c.vr f.d.toNat else .u 0) src.a.value (.u 0) (.u 0) }, c)) s l c)) s

/-- CBLUT (R211). -/
def execCblut (w0 : W0) (w1 : W1) (s : State) : Host.Outcome State Fault Refusal :=
  let f := Fields.of64 w0 w1
  codebookOp .cblut f (fun _ cb _ a =>
    BitVec.ofNat 32 (exactB32 (cbEntry cb (subElem 4 (f.k 2 0) a)))) false s

/-- CBENC (R212). -/
def execCbenc (w0 : W0) (w1 : W1) (s : State) : Host.Outcome State Fault Refusal :=
  let f := Fields.of64 w0 w1
  codebookOp .cbenc f (fun _ cb d a =>
    putElem 4 (f.k 2 0) d (cbEncode cb (FloatFormat.b32.decode a.toNat))) true s

end Sys2Proof.Machine
end

