-- ==== Sys2Proof/Machine/Fetch.lean ====
section
/-! DEFINITION. Fetching an instruction (R356), and the choice of the coach that issues (R40, R58). -/

namespace Sys2Proof.Machine

open Sys2Proof

/-- A name for a location in an instruction cache. -/
def fetchKey (loc : Loc) : Nat :=
  match loc with
  | .lunath a => 2 * a
  | .store c a => 2 * (coreIndex c * 2 ^ 20 + a) + 1
  | .host a | .peer a => 2 * a

/-- Bytes of Lunath as a fetch finds them at the home L2, to which a stash gives up a dirty line first (R99, R293). -/
def State.codeBytes (s : State) (d : Option (BitVec 3)) (a n : Nat) : List Byte :=
  match s.crews.findSome? (fun k =>
      (k.lines.find? (fun m => m.dirty && m.home == a / 128)).map (fun m => (k, m))) with
  | some (k, m) => s.storeBytes k.core (stashAddr k m.entry m.line + a % 128) n
  | none => s.homeBytes d a n

/-- The four bytes at a location, for a core of a die or for the scheduler. -/
def State.wordAt (s : State) (d : Option (BitVec 3)) (loc : Loc) : Word :=
  BitVec.ofNat 32 (leNat (match loc with
    | .lunath a => s.codeBytes d a 4
    | .store c a => s.storeBytes c a 4
    | _ => []))

/-- A word of the prefetch partition of a core (R57). -/
def State.prefetched (s : State) (core : CoreId) (key : Nat) : Option Word :=
  s.prefetch.findSome? (fun p =>
    if p.gig == coreGig core && p.dies.getLsbD core.die.toNat then
      (p.words.find? (fun e => e.1 == key)).map (·.2) else none)

/-- The word that a core fetches from a location: a cached word that memory no longer holds may be
executed until ICINV (R57, R293). -/
def State.cachedWord (s : State) (core : CoreId) (loc : Loc) : Word :=
  let w := s.wordAt (some core.die) loc
  match (s.core core).icache.find? (fun e => e.1 == fetchKey loc) with
  | some e => if e.2 = w then w else if Config.freeBool s.fresh (fetchKey loc) then e.2 else w
  | none =>
    match s.prefetched core (fetchKey loc) with
    | some v => if v = w then w else if Config.freeBool s.fresh (fetchKey loc) then v else w
    | none => w

/-- Fetch one word, with the checks of R356. -/
def State.fetchWord (s : State) (l : Launch) (c : Coach) (a : Nat) : Except Trap Word :=
  if a % 4 ≠ 0 ∨ a < l.imageBase c.image ∨ l.imageBase c.image + l.imageLen c.image ≤ a then
    .error { operandTrap 0x010E 0 with addr := BitVec.ofNat 64 a }
  else
    match s.translateFetch (l.party (some c.core)) a with
    | .error b => .error (b.trap a)
    | .ok loc =>
      match s.readHazard loc 4 with
      | some code => .error ((s.hazardBreach (code, loc)).trap a)
      | none => .ok (s.cachedWord c.core loc)

/-- Fetch the words after the first. -/
def State.fetchRest (s : State) (l : Launch) (c : Coach) : Nat → Nat → Except Trap (List Word)
  | 0, _ => .ok []
  | n + 1, a =>
    match s.fetchWord l c a with
    | .error t => .error t
    | .ok w => match s.fetchRest l c n (a + 4) with
      | .error t => .error t
      | .ok ws => .ok (w :: ws)

/-- Further words by LEN of the first (R122). -/
def extraWords (w : Word) : Nat := if lenField w = 3 then 0 else lenField w

/-- The words of the instruction at a coach's PC (R356). -/
def State.fetch (s : State) (l : Launch) (c : Coach) : Except Trap (List Word) :=
  match s.fetchWord l c c.pc.toNat with
  | .error t => .error t
  | .ok w => match s.fetchRest l c (extraWords w) (c.pc.toNat + 4) with
    | .error t => .error t
    | .ok ws => .ok (w :: ws)

/-- Length of the instruction whose fetch failed: 0 when its first word could not be fetched or has LEN
0b11 (R347). -/
def State.fetchLen (s : State) (l : Launch) (c : Coach) : Nat :=
  match s.fetchWord l c c.pc.toNat with
  | .error _ => 0
  | .ok w => if lenField w = 3 then 0 else 4 * (lenField w + 1)

/-- Is the instruction at a coach's PC a CHRUN? -/
def State.nextIsChrun (s : State) (l : Launch) (c : Coach) : Bool :=
  match s.fetchWord l c c.pc.toNat with
  | .error _ => false
  | .ok w => Op.ofCode (opcField w) == some .chrun

/-- Where a trap between the instructions of a coach is raised; a CHARG and its CHRUN are one (R214, R347, R364). -/
def State.boundarySite (s : State) (l : Launch) (c : Coach) : TrapSite :=
  match c.charg with
  | none => { pce := c.pc, resume := c.pc, act := 0, ilen := s.fetchLen l c }
  | some p => { pce := p.pc, resume := p.pc, act := 0, ilen := 12 + (if s.nextIsChrun l c then s.fetchLen l c else 0) }

/-- A fetch from a Lunath line recalls it from a stash (R99). -/
def State.fetchRecall (s : State) (loc : Loc) : State :=
  match loc with
  | .lunath a => s.recall (a / 128) true
  | _ => s

/-- Remember a fetched word and its translation (R57, R95). -/
def State.noteWord (s : State) (l : Launch) (c : Coach) (a : Nat) : State :=
  match s.translateFetch (l.party (some c.core)) a with
  | .error _ => s
  | .ok loc =>
    let w := s.cachedWord c.core loc
    let k := s.core c.core
    ((s.setCore { k with icache := upsert (fun e => e.1 == fetchKey loc) (fetchKey loc, w) k.icache }).noteTranslation
      (l.party (some c.core)) a).fetchRecall loc

/-- Remember the words of a fetched instruction. -/
def State.noteWords (s : State) (l : Launch) (c : Coach) : Nat → Nat → State
  | 0, _ => s
  | n + 1, a => (s.noteWord l c a).noteWords l c n (a + 4)

/-! ### Which coach issues -/

/-- Does the pop rule apply before the coach's next issue (R29)? -/
def Coach.mustPop (c : Coach) : Bool := c.pc == c.rpc || c.live == 0

/-- With COR = 1 no gang of a step issues before every gang of it is placed (R42). -/
def Launch.mayIssue (l : Launch) : Bool :=
  l.terminal.isNone && (!l.cor || l.gangCount ≤ l.nextGang)

/-- With COR = 1 no gang of a step issues while one that has been pre-empted is not placed again (R42). -/
def State.together (s : State) (c : Coach) : Bool :=
  match s.launch? c.id.q with
  | some l => !l.cor || s.gangs.all (fun g => g.q != c.id.q || g.status != .saved)
  | none => false

/-- May the coach issue: its launch has not ended, and its gang is not stopped or saved, except that an
instruction whose answers have come back, or that a CHARG has begun, is finished first (R62, R350)? -/
def State.running (s : State) (c : Coach) : Bool :=
  !c.retired
    && (match s.launch? c.id.q with
        | some l => l.mayIssue
        | none => false)
    && (match s.gang? c.id.q c.id.gang with
        | some g => (g.status == .resident && s.together c)
            || (g.status == .stopping && (c.charg.isSome || !c.answers.isEmpty))
        | none => false)

/-- Is the coach's gang to stop for pre-emption (R62)? -/
def State.stopping (s : State) (c : Coach) : Bool :=
  match s.gang? c.id.q c.id.gang with
  | some g => g.status == .stopping
  | none => false

/-- Is an instruction on the core's grid, or a command on its dray engine, of another coach (R255,
R274)? -/
def State.engineBusy (s : State) (c : Coach) (grid : Bool) : Bool :=
  s.coaches.any (fun d => d.core == c.core && d.id != c.id && (if grid then d.grid.isSome else match d.wait with
    | .dray _ _ _ => true
    | _ => false))

/-- Is a matrix instruction in flight in a context, or in any? It reads through translations found at its issue. -/
def State.productsBusy (s : State) (ctx : Option (BitVec 8)) : Bool :=
  s.coaches.any (fun d => d.grid.isSome && (ctx.isNone || s.ctxOf d.id.q == ctx))

/-- Does another coach of the crew own a TL slot (R269)? -/
def State.tlOwned (s : State) (c : Coach) (slot : Nat) : Bool :=
  match s.crewOf c with
  | none => false
  | some k => match k.tl[slot]? with
    | none => false
    | some t => t.busy && t.own != c.id.coach

/-- Has what the coach waits for come about, where nothing else tells it so? -/
def State.waitOver (s : State) (c : Coach) : Bool :=
  match c.wait with
  | .ready => true
  | .engine grid => !s.engineBusy c grid
  | .ownGrid => c.grid.isNone
  | .tlSlot slot _ => !s.tlOwned c slot
  | .products ctx => !s.productsBusy ctx
  | _ => false


/-- Does the coach's next instruction issue in the vector slot (R131)? -/
def State.nextIsVector (s : State) (c : Coach) : Bool :=
  match s.launch? c.id.q with
  | none => false
  | some l =>
    match s.fetchWord l c c.pc.toNat with
    | .error _ => false
    | .ok w => match Op.ofCode (opcField w) with
      | none => false
      | some o => o.isVector

/-- Does a YIELD keep the coach from issuing in the slot of its next instruction (R173)? -/
def State.yielded (s : State) (c : Coach) : Bool :=
  !c.yields.isEmpty && c.yields.any (fun y => y.vector == s.nextIsVector c)

/-- Is the coach ready to issue (R40)? -/
def State.ready (s : State) (c : Coach) : Bool := s.waitOver c && s.running c && !s.yielded c

/-- Order of coaches in a tie: the lower (crew, coach) index (R58); among those of several gangs then the lower queue and
gang (log 40). -/
def Coach.rank (c : Coach) : Nat :=
  ((c.id.crew * 16 + c.id.coach) * 64 + c.id.q.toNat) * 2 ^ 64 + c.id.gang

/-- The coach of greatest age in a slot, ties to the lower index (R58). -/
def oldest (last : Coach → Nat) : List Coach → Option Coach
  | [] => none
  | c :: t => match oldest last t with
    | none => some c
    | some d =>
      if last c < last d then some c
      else if last d < last c then some d
      else if c.rank ≤ d.rank then some c else some d

/-- The vector slot's choice (R58). -/
def vectorChoice (k : Core) (ready : List Coach) : Option Coach :=
  match k.prev with
  | some i =>
    match ready.find? (fun c => c.id == i) with
    | some c => if k.latchLive i && k.run < 3 then some c else oldest (·.lastVector) ready
    | none => oldest (·.lastVector) ready
  | none => oldest (·.lastVector) ready

/-- The coach that a core issues next: one that has issued a CHARG (R214), else of the two slots' choices
(R58) the one that waited longer. -/
def State.coreChoice (s : State) (k : CoreId) (ready : List Coach) : Option Coach :=
  match ready with
  | [] => none
  | [c] => some c
  | cs =>
    match cs.find? (fun c => c.charg.isSome) with
    | some c => some c
    | none =>
    let vs := cs.filter s.nextIsVector
    let xs := cs.filter (fun c => !s.nextIsVector c)
    match vectorChoice (s.core k) vs, oldest (·.lastScalar) xs with
    | some v, some x => if x.lastScalar < v.lastVector then some x else some v
    | some v, none => some v
    | none, x => x

/-- The ready coach whose core's turn comes first after the last core that was served. -/
def turnFirst (turn : Nat) : List Coach → Option Coach
  | [] => none
  | c :: t => match turnFirst turn t with
    | none => some c
    | some d =>
      let key (x : Coach) : Nat := (coreIndex x.core + 1536 - (turn + 1) % 1536) % 1536
      if key c ≤ key d then some c else some d

/-- The coach that issues next in the package. -/
def State.nextCoach (s : State) : Option Coach :=
  let ready := s.coaches.filter s.ready
  match turnFirst s.turn ready with
  | none => none
  | some c => s.coreChoice c.core (ready.filter (fun d => d.core == c.core))

/-- A core of which the vector slot has just issued for a coach, but now finds no instruction: it has no last coach
(R58). -/
def State.slotIdle (s : State) (k : Core) : Bool :=
  k.prev.isSome && !s.coaches.any (fun c => c.core == k.id && s.ready c && s.nextIsVector c)

/-- The state with the vector slots that find no instruction left idle (R58). -/
def State.idleSlots (s : State) : State :=
  { s with cores := s.cores.map (fun k => if s.slotIdle k then { k with prev := none } else k) }

/-- The state in which the selected coach issues. -/
def State.select (s : State) (c : Coach) : State :=
  { s.idleSlots with cur := some c.id, turn := coreIndex c.core, fresh := s.fresh + 1, cycle := s.cycle + 1
                     cycles := s.cycles + 1 }

/-- The code of VSEL in F32, whose C = 255 names no mask: 0x0006, or 0x0005 first when K6 is not 0
(R176, R183, R357). -/
def vselCode (w : Word) : Nat := if (W0.ofWord w).k6 = 0 then 6 else 5

end Sys2Proof.Machine
end

