-- ==== Sys2Proof/Machine/LoadStore.lean ====
section
/-! DEFINITION. LD and ST, opcodes 0xC0 and 0xC1 (R227-R238). -/

namespace Sys2Proof.Machine

open Sys2Proof

/-- FORM of LD and ST: 0 .s, 1 .v, 2 .b, 3 .bt, 4 .p. -/
def memForm (f : Fields) : Nat := f.k 5 3

/-- The formats that a form accepts (R230). -/
def formFmtOk (form fmt : Nat) : Bool :=
  match form with
  | 0 => fmtAssigned fmt && fmt < 0x18
  | 3 => fmt ≤ 0x06 || (0x08 ≤ fmt && fmt ≤ 0x0C)
  | 4 => fmt == 0 || fmt == 0x1A
  | _ => fmtOkV fmt

/-- Element size that a form gives the raw format (R230). -/
def formRaw (form : Nat) : Nat :=
  match form with
  | 0 => 8
  | 4 => 16
  | _ => 4

/-- The swizzle of .bt (R237). -/
def swizzle (on : Bool) (o : Int) : Int :=
  if on && decide (0 ≤ o) then (Nat.xor o.toNat (o.toNat / 128 % 8 * 16) : Nat) else o

/-- The lanes of act. -/
def Coach.actLanes (c : Coach) (f : Fields) : List Nat :=
  (List.range c.width).filter (fun j => bit (c.act f) j)

/-- The index word of lane j in .v: an element of B, or an X register (R129, R237). -/
def State.vIndex (s : State) (c : Coach) (f : Fields) (j : Nat) : Int :=
  if f.bscl then ((c.xr f.b.toNat).setWidth 32).toInt
  else ((s.readV c f.b.toNat).value.elem j).toInt

/-- The access of lane j, or of the coach, in a form (R237). -/
def State.formLane (s : State) (c : Coach) (f : Fields) (j : Nat) : LaneAt :=
  let fmt := ptrFmt (c.pr f.a.toNat)
  let form := memForm f
  match form with
  | 1 => laneIndex fmt 4 j (s.vIndex c f j)
  | 2 => laneIndex fmt 4 j ((c.bValue f).toInt + (j : Int))
  | 3 =>
    let stride := ((c.xr f.c.toNat).setWidth 32).toInt
    { lane := j, off := swizzle (f.k 0 0 == 1) ((c.bValue f).toInt + (j : Int) * stride) }
  | _ => laneIndex fmt (formRaw form) 0 (c.bValue f).toInt

/-- The pointers and sizes of a form's accesses (R230, R233). -/
def formPlan (c : Coach) (f : Fields) : LanePlan :=
  let fmt := ptrFmt (c.pr f.a.toNat)
  let form := memForm f
  { ptr := f.a.toNat, raw := formRaw form
    scalePtr := if (form = 1 ∨ form = 2) ∧ fmtBlock fmt ∧ f.c.toNat < 32 then some f.c.toNat else none
    offMul := if form = 3 then fmtBytes 4 fmt else 1 }

/-- OPERAND checks of a form: the block, the formats of the data and scale pointers (0x0106), a codebook
not loaded (0x0108), a block format without a scale pointer (0x0109). -/
def State.formChecks (s : State) (l : Launch) (c : Coach) (o : Op) (f : Fields) : List (Option Trap) :=
  let p := c.pr f.a.toNat
  let fmt := ptrFmt p
  let wf := ptrWellFormed l.scopeMax p
  [c.blockTrap o f, fmtTrap l c f.a.toNat (formFmtOk (memForm f)),
    (match (formPlan c f).scalePtr with
     | some k => if wf then fmtTrap l c k (scaleFmtOk fmt) else none
     | none => none),
    (if wf && fmtCb4 fmt then s.cbTrap c (fmt - 0x10) else none),
    operandIf (wf && (memForm f == 1 || memForm f == 2) && fmtBlock fmt && f.c.toNat == 255) 0x0109 0]

/-- FEQ of a load: 0 none, 1 .fe, 2 .fec. -/
def loadFeq (f : Fields) : Nat := f.k 2 1

/-- A load that waited on full-empty bits is progress (R376). -/
def Coach.feProgress (c : Coach) (f : Fields) : Coach := if loadFeq f = 0 then c else c.progress

/-- The elements that a load reads. -/
def Coach.ldElems (c : Coach) (s : State) (f : Fields) : List Elem :=
  (formPlan c f).elems c false false
    (if memForm f = 0 ∨ memForm f = 4 then [s.formLane c f 0] else (c.actLanes f).map (s.formLane c f))

/-- LD.s and LD.p (R232, R237). -/
def loadScalar (f : Fields) (s : State) (l : Launch) (c : Coach) : Except Stop State :=
  let q := formPlan c f
  let a := s.formLane c f 0
  match s.loadElems l c f { lanes := false } (loadFeq f) false (q.elems c false false [a]) with
  | .error e => .error e
  | .ok (vs, s1) =>
    let n := vs.getD 0 0
    let fmt := q.fmt c
    let cb := (s.cbSlot c (fmt - 0x10)).entries
    let c1 := if memForm f = 4 then c.setP f.d.toNat (BitVec.ofNat 128 n)
              else c.setX f.d.toNat (fmtToDWord fmt cb (if fmtHalf fmt then nibble n a.nib else n))
    finish s1 (c1.feProgress f) f

/-- LD.v, LD.b and LD.bt: tag G; exited lanes keep their elements (R68, R237). -/
def loadVector (f : Fields) (s : State) (l : Launch) (c : Coach) : Except Stop State :=
  match s.loadLanes l c f (formPlan c f) (loadFeq f) ((c.actLanes f).map (s.formLane c f)) with
  | .error e => .error e
  | .ok (vals, s1) =>
    let v := VReg.g ((List.range c.width).map (fun j =>
      match vals.find? (fun r => r.1 == j) with
      | some r => r.2
      | none => 0))
    let (s2, c2) := s1.writeV (c.feProgress f) f.d.toNat (c.act f) { value := v, keepExited := true }
    finish s2 c2 f

/-- LD in any format. -/
def ldBody (f : Fields) : Body := fun s l c =>
  checked (s.formChecks l c .ld f)
    (if memForm f = 0 ∨ memForm f = 4 then
      whenActive s c f (s.entering c 0 (fun s1 => loadScalar f s1 l c))
    else if c.act f = 0 then loadVector f s l c
    else s.entering c 0 (fun s1 => loadVector f s1 l c))

/-- LD (R237). -/
def execLd (w0 : W0) (s : State) : Host.Outcome State Fault Refusal :=
  let f := Fields.of32 w0
  issue .ld f (ldBody f) s

/-- LD in F64 (R237). -/
def execLdF64 (w0 : W0) (w1 : W1) (s : State) : Host.Outcome State Fault Refusal :=
  let f := Fields.of64 w0 w1
  issue .ld f (ldBody f) s

/-- LD with a literal index (R237). -/
def execLdF96 (w0 : W0) (w1 : W1) (lit : BitVec 32) (s : State) : Host.Outcome State Fault Refusal :=
  let f := Fields.of96 w0 w1 lit
  issue .ld f (ldBody f) s

/-- Register width of a store's data. -/
def storeWidth (form : Nat) : Nat :=
  match form with
  | 0 => 64
  | 4 => 128
  | _ => 32

/-- The data of lane j, or of the coach. -/
def State.storeData (s : State) (c : Coach) (f : Fields) (j : Nat) : Nat :=
  match memForm f with
  | 0 => (c.xr f.d.toNat).toNat
  | 4 => (c.pr f.d.toNat).toNat
  | _ => ((s.readV c f.d.toNat).value.elem j).toNat

/-- Lanes of a store: those of act, or the coach once. -/
def storeTargets (c : Coach) (f : Fields) : List Nat :=
  if memForm f = 0 ∨ memForm f = 4 then [0] else c.actLanes f

/-- The accesses of a store with their data. -/
def State.storeItems (s : State) (c : Coach) (f : Fields) : List (LaneAt × Nat) :=
  (storeTargets c f).map (fun j => (s.formLane c f j, s.storeData c f j))

/-- The stores of ST. -/
def storeAll (f : Fields) (s : State) (l : Launch) (c : Coach) : Except Stop State :=
  match s.storeLanes l c { lanes := memForm f != 0 && memForm f != 4 } (formPlan c f)
      (storeWidth (memForm f)) (s.storeItems c f) with
  | .error e => .error e
  | .ok (s1, c1) => finish s1 c1 f

/-- ST in any format. -/
def stBody (f : Fields) : Body := fun s l c =>
  checked (s.formChecks l c .st f)
    (whenActive s c f (s.entering c 0 (fun s1 => storeAll f s1 l c)))

/-- ST (R237). -/
def execSt (w0 : W0) (s : State) : Host.Outcome State Fault Refusal :=
  let f := Fields.of32 w0
  issue .st f (stBody f) s

/-- ST in F64 (R237). -/
def execStF64 (w0 : W0) (w1 : W1) (s : State) : Host.Outcome State Fault Refusal :=
  let f := Fields.of64 w0 w1
  issue .st f (stBody f) s

/-- ST with a literal index (R237). -/
def execStF96 (w0 : W0) (w1 : W1) (lit : BitVec 32) (s : State) : Host.Outcome State Fault Refusal :=
  let f := Fields.of96 w0 w1 lit
  issue .st f (stBody f) s

/-- FE_WAIT_SATISFIED (R102): a waiting load whose granules are all full issues again and reads them. -/
def execFeWaitSatisfied (c : CoachId) (s : State) : Host.Outcome State Fault Refusal :=
  match s.coach? c with
  | none => .next s
  | some co =>
    match co.wait with
    | .fe f gs =>
      if s.running co && gs.all (fun g => s.isFull g.1 g.2) then issue .ld f (ldBody f) { s with cur := some c }
      else .next s
    | _ => .next s

end Sys2Proof.Machine
end

