-- ==== Sys2Proof/Machine/Atomics.lean ====
section
/-! DEFINITION. ATOM and CAS, opcodes 0xC2 and 0xC3 (R239, R240). -/

namespace Sys2Proof.Machine

open Sys2Proof

/-- SCL: the scalar form. -/
def atomScalar (f : Fields) : Bool := f.k 2 2 == 1

/-- AOP; 7 stands for CAS, as in a packet (R315). -/
def atomAop (o : Op) (f : Fields) : Nat := if o == .cas then 7 else f.k 5 3

/-- FMT and AOP that a form accepts (R239). -/
def atomFmtOk (scalar : Bool) (aop fmt : Nat) : Bool :=
  match fmt with
  | 0x00 | 0x05 | 0x06 => true
  | 0x07 => scalar
  | 0x0A => aop ≤ 2 || 6 ≤ aop
  | _ => false

/-- Operand size in bytes (R239). -/
def atomBytes (scalar : Bool) (fmt : Nat) : Nat := fmtBytes (if scalar then 8 else 4) fmt

/-- The new value of an atomic from the old one, the operand and the expected value, all of `n` bytes
(R239). -/
def atomNew (fmt aop sub n old v exp : Nat) : Nat :=
  let w := 8 * n
  let below (a b : Nat) : Bool :=
    if fmt = 0x05 ∨ fmt = 0x07 then decide (sextInt a w < sextInt b w) else decide (a < b)
  match aop with
  | 0 =>
    if fmt = 0x0A then
      sumRes .b32 1 2 0 [FloatFormat.b32.decode old, FloatFormat.b32.decode v]
    else (old + v) % 2 ^ w
  | 1 => if fmt = 0x0A then fminmax .b32 false sub old v else if below v old then v else old
  | 2 => if fmt = 0x0A then fminmax .b32 true sub old v else if below old v then v else old
  | 3 => Nat.land old v
  | 4 => Nat.lor old v
  | 5 => Nat.xor old v
  | 6 => v
  | _ => if old = exp then v else old

/-- The old value as the register takes it (R239). -/
def atomResult (fmt n old : Nat) : DWord :=
  if fmt = 0x05 then BitVec.ofInt 64 (sextInt old 32) else BitVec.ofNat 64 (old % 2 ^ (8 * n))

/-- One access of an atomic: lane, element, operand, expected value. -/
structure AtomItem where
  at_ : LaneAt
  operand : Nat
  expected : Nat
  deriving DecidableEq, Repr

/-- The home L2 has every write of the line: a dirty copy elsewhere is written back, so that no write falls between an
atomic's two halves (R299, R312). -/
def State.wholeLine (s : State) (loc : Loc) : State :=
  match loc with
  | .lunath a => s.writeBack (a / 128)
  | _ => s

/-- Perform an atomic at its place in the package (R240); the old value. -/
def State.atomicAt (s : State) (l : Launch) (c : Coach) (r : Elem × Loc) (g : Nat → Nat) : Nat × State :=
  let p := l.party (some c.core)
  let s0 := if translated (ptrSpace r.1.p) then s.noteTranslation p r.1.va else s
  let (loc, s1) := s0.place p (ptrSpace r.1.p) r.1.va (ptrWide? r.1.p true) true r.2
  let (bs, s2) := (s1.wholeLine loc).readLoc p { kind := .home, ord := ptrOrder r.1.p } loc r.1.size
  let s3 := s2.orderPlain p (ptrOrders r.1.p) (ptrOrder r.1.p == 2) (ptrEffScope r.1.p) r.2 loc
  (leNat bs, s3.writeLoc p loc (natLe r.1.size (g (leNat bs))))

/-- Send a remote atomic: a packet of its own, or a PCI Express AtomicOp (R240, R315). -/
def State.sendAtomic (s : State) (l : Launch) (c : Coach) (aop : Nat) (r : Elem × Loc) (i : AtomItem) :
    State :=
  let tag := s.nextTag r.2.isPeer
  let key := atomicKey r.1.lane
  match r.2 with
  | .host a =>
    let e := Emission.hostAtomic tag a (8 * r.1.size) aop (BitVec.ofNat 64 i.operand)
      (BitVec.ofNat 64 i.expected)
    (({ s with outbox := s.outbox ++ [e] } : State).dropHostBytes c.core a r.1.size).await_ c r.1.p r.1.va tag 2 key r.1.size false
  | _ =>
    let p := s.packet l r.1.p 2 r.1.va tag (byteEnables (r.1.va % 128) r.1.size)
      (natLe 8 i.operand ++ natLe 8 i.expected)
    (s.sendFrom c { p with aop := BitVec.ofNat 4 aop, aw := if r.1.size = 8 then 1 else 0 }).await_
      c r.1.p r.1.va tag 2 key r.1.size true

/-- The atomics of one instruction in increasing lane order: the old values (R239). Remote ones take
theirs from the answers. -/
def State.runAtomics (s : State) (l : Launch) (c : Coach) (fmt aop : Nat) :
    List ((Elem × Loc) × AtomItem) → List (Nat × Nat) × State
  | [] => ([], s)
  | (r, i) :: rest =>
    let (old, s1) :=
      if r.2.isRemote then
        (match c.answer (atomicKey r.1.lane) with
          | some bs => leNat (bs.take r.1.size)
          | none => 2 ^ (8 * r.1.size) - 1,
          (match r.2 with
            | .host a => s.dropHostBytes c.core a r.1.size
            | _ => s).orderPlain (l.party (some c.core)) (ptrOrders r.1.p) (ptrOrder r.1.p == 2) (ptrEffScope r.1.p) r.2 r.2)
      else s.atomicAt l c r (fun old => atomNew fmt aop c.sub r.1.size old i.operand i.expected)
    let (rs, s2) := s1.runAtomics l c fmt aop rest
    ((r.1.lane, old) :: rs, s2)

/-- Does a remote atomic of the instruction lack its old value? -/
def Coach.lacksOld (c : Coach) (r : Elem × Loc) : Bool := r.2.isRemote && (c.answer (atomicKey r.1.lane)).isNone

/-- Send the remote atomics of one instruction that have not been sent and for which there is room (R59, R315). -/
def State.sendAtomics (s : State) (l : Launch) (c : Coach) (aop : Nat) :
    List ((Elem × Loc) × AtomItem) → State
  | [] => s
  | (r, i) :: rest =>
    (if c.lacksOld r && s.hasRoom c r.2.isPeer then s.sendAtomic l c aop r i else s).sendAtomics l c aop rest

/-- Send remote atomics and wait for the answers, or wait for room; the rest is sent when the answers have come
(R59; log 64). -/
def State.askAtomics (s : State) (l : Launch) (c : Coach) (aop : Nat) (items : List ((Elem × Loc) × AtomItem)) : Stop :=
  let s1 := s.sendAtomics l c aop items
  .wait (if s1.requests.length = s.requests.length && items.any (fun r => r.1.2.isPeer && c.lacksOld r.1) then .window 3
    else .remote) s1

/-- Lane j's access, operand and expected value: for ATOM the operand is C, for CAS it is the old D, and
C is expected (R239). -/
def State.atomItem (s : State) (c : Coach) (o : Op) (f : Fields) (j : Nat) : AtomItem :=
  let fmt := ptrFmt (c.pr f.a.toNat)
  let w := 8 * atomBytes (atomScalar f) fmt
  let reg (n : Nat) : Nat :=
    (if atomScalar f then (c.xr n).toNat else ((s.readV c n).value.elem j).toNat) % 2 ^ w
  { at_ := if atomScalar f then laneIndex fmt 8 0 (c.bValue f).toInt
           else laneIndex fmt 4 j (s.vIndex c f j)
    operand := if o == .cas then reg f.d.toNat else reg f.c.toNat
    expected := if o == .cas then reg f.c.toNat else 0 }

/-- The accesses of an atomic instruction: the lanes of act, or the coach once. -/
def State.atomItems (s : State) (c : Coach) (o : Op) (f : Fields) : List AtomItem :=
  if atomScalar f then [s.atomItem c o f 0] else (c.actLanes f).map (s.atomItem c o f)

/-- Write the old values to D. -/
def State.atomWrite (s : State) (c : Coach) (f : Fields) (fmt n : Nat) (olds : List (Nat × Nat)) :
    State × Coach :=
  if atomScalar f then
    (s, c.setX f.d.toNat (atomResult fmt n ((olds.head?.map (·.2)).getD 0)))
  else
    s.writeV c f.d.toNat (c.act f)
      { value := .g ((List.range c.width).map (fun j =>
          match olds.find? (fun r => r.1 == j) with
          | some r => BitVec.ofNat 32 r.2
          | none => 0))
        keepExited := true }

/-- The performance of an atomic instruction whose checks have passed. -/
def atomPerform (o : Op) (f : Fields) (s : State) (l : Launch) (c : Coach) (rs : List (Elem × Loc))
    (is : List AtomItem) : Except Stop State :=
  let fmt := ptrFmt (c.pr f.a.toNat)
  let aop := atomAop o f
  let items := rs.zip is
  if c.gridBlocks (c.pr f.a.toNat) rs then .error (.wait .ownGrid s)
  else if s.releaseBlocked c (c.pr f.a.toNat) then .error (.wait .remote s)
  else if s.ownPending c rs then .error (.wait .remote s)
  else if rs.any c.lacksOld then .error (s.askAtomics l c aop items)
  else
    let (olds, s1) := s.runAtomics l c fmt aop items
    let (s2, c1) := s1.atomWrite c f fmt (atomBytes (atomScalar f) fmt) olds
    finish s2 (if rs.any (fun r => !r.2.isRemote) then c1.progress else c1) f

/-- Does the atomic pass the reeve (R240)? -/
def viaReeve (p : BitVec 128) : Bool := ptrSpace p == 0 && 4 ≤ ptrScope p

/-- ATOM and CAS in any format. -/
def atomBody (o : Op) (f : Fields) : Body := fun s l c =>
  let p := c.pr f.a.toNat
  let fmt := ptrFmt p
  let n := atomBytes (atomScalar f) fmt
  let aop := atomAop o f
  checked [c.blockTrap o f, fmtTrap l c f.a.toNat (atomFmtOk (atomScalar f) aop)]
    (if c.act f = 0 ∧ atomScalar f then finish s c f
     else
      let is := s.atomItems c o f
      let m : AccessMode :=
        { lanes := !atomScalar f, hostBad := (1 ≤ aop && aop ≤ 5) || fmt == 0x0A
          answered := !c.answers.isEmpty }
      match s.resolve l c m (is.map (fun i =>
          ⟨i.at_.lane, f.a.toNat, p, i.at_.off, n, n, 1, false, true, true⟩)) with
      | .error t => .error (.trap t)
      | .ok rs =>
        if is.isEmpty then atomPerform o f s l c rs is
        else s.entering c (if viaReeve p then 2 else 0) (fun s1 => atomPerform o f s1 l c rs is))

/-- ATOM (R239). -/
def execAtom (w0 : W0) (w1 : W1) (s : State) : Host.Outcome State Fault Refusal :=
  let f := Fields.of64 w0 w1
  issue .atom f (atomBody .atom f) s

/-- ATOM with a literal index (R239). -/
def execAtomF96 (w0 : W0) (w1 : W1) (lit : BitVec 32) (s : State) : Host.Outcome State Fault Refusal :=
  let f := Fields.of96 w0 w1 lit
  issue .atom f (atomBody .atom f) s

/-- CAS (R239). -/
def execCas (w0 : W0) (w1 : W1) (s : State) : Host.Outcome State Fault Refusal :=
  let f := Fields.of64 w0 w1
  issue .cas f (atomBody .cas f) s

/-- CAS with a literal index (R239). -/
def execCasF96 (w0 : W0) (w1 : W1) (lit : BitVec 32) (s : State) : Host.Outcome State Fault Refusal :=
  let f := Fields.of96 w0 w1 lit
  issue .cas f (atomBody .cas f) s

end Sys2Proof.Machine
end

