-- ==== Sys2Proof/Machine/Divergence.lean ====
section
/-! DEFINITION. The divergence stack: pushes with spill, pops with refill, divergent branches and the pop
rule (R27-R32, R286, R373), the retirement of coaches and gangs (R29, R39), and the checks of control
targets (R365). -/

namespace Sys2Proof.Machine

open Sys2Proof

/-- The 32 bytes of an entry (R27). -/
def entryBytes (e : Entry) : List Byte :=
  natLe 8 e.pc.toNat ++ natLe 8 e.mask.toNat ++ natLe 8 e.rpc.toNat
    ++ natLe 8 (b2n e.ph * 2 ^ 5 + e.slot % 4 * 2 ^ 3 + e.kind % 4 * 2)

/-- An entry from its bytes (R27). DESIGN CHOICE (log 93): its reserved-zero bits are dropped. -/
def entryOf (bs : List Byte) : Entry :=
  let w (i : Nat) : Nat := leNat ((bs.drop (8 * i)).take 8)
  { pc := BitVec.ofNat 64 (w 0), mask := BitVec.ofNat 64 (w 1), rpc := BitVec.ofNat 64 (w 2)
    ph := w 3 / 32 % 2 = 1, slot := w 3 / 8 % 4, kind := w 3 / 2 % 4 }

/-- Spill address of a coach's entry number n of its spill area (R45, R373). -/
def Launch.spillAddr (l : Launch) (id : CoachId) (n : Nat) : Nat :=
  l.spill + 32 * l.spillCap * l.lc id + 32 * n

/-- The trap of a spill or refill access that fails (R373). -/
def spillTrap (b : Breach) (addr refill : Nat) : Trap :=
  if b.cls = 6 then { cls := 7, code := 2, addr := BitVec.ofNat 64 addr, info := BitVec.ofNat 64 refill }
  else b.trap addr

/-- The trap of reading a poisoned entry, by its number from the bottom of the stack (R397, R398). -/
def State.entryTrap (s : State) (c : Coach) (n : Nat) : Option Trap :=
  if s.regPoisoned c.id (5, n) then some { cls := 11, code := 2 } else none

/-- An entry that is written is free of poison (R397). -/
def State.cleanEntry (s : State) (c : Coach) (n : Nat) : State :=
  { s with poison := s.poison.filter (fun q => !poisonsReg c.id (5, n) q) }

/-- Push an entry; at depth 16 or more the oldest on-chip entry is spilled first (R31, R373). -/
def State.push (s : State) (l : Launch) (c : Coach) (e : Entry) : Except Stop (State × Coach) :=
  if c.depth = Config.onChip + l.spillCap then
    .error (.trap { cls := 7, code := 1, info := BitVec.ofNat 64 c.depth })
  else if Config.onChip ≤ c.depth then
    let addr := l.spillAddr c.id (c.depth - Config.onChip)
    match c.stack.getLast? with
    | none => .ok (s, { c with stack := [e], depth := c.depth + 1 })
    | some old =>
      match s.entryTrap c (c.depth - Config.onChip) with
      | some t => .error (.trap t)
      | none =>
        match s.ctxWrite (l.party (some c.core)) addr (entryBytes old) with
        | .error b => .error (.trap (spillTrap b addr 0))
        | .ok s1 => .ok (s1.cleanEntry c c.depth,
            { c with stack := e :: c.stack.dropLast, depth := c.depth + 1, spilled := old :: c.spilled })
  else .ok (s.cleanEntry c c.depth, { c with stack := e :: c.stack, depth := c.depth + 1 })

/-- The coach after its top entry has been popped into pc, cm and rpc, before any refill (R29). -/
def Coach.popEntry (c : Coach) (e : Entry) : Coach :=
  { c with stack := c.stack.tail, depth := c.depth - 1, pc := e.pc, cm := e.mask &&& c.lanes, rpc := e.rpc }

/-- An entry of undefined values (R3, R373). -/
def freeEntry (fresh key : Nat) : Entry :=
  { ph := Config.freeBool fresh key, slot := Config.freeNat fresh key % 4, kind := Config.freeNat fresh (key + 1) % 4
    rpc := Config.freeDWord fresh key, mask := Config.freeDWord fresh (key + 1), pc := Config.freeDWord fresh (key + 2) }

/-- The entry that a refill brings: the one that was spilled, or undefined values where software has changed the spill
area (R32, R373), which the model tells by the bytes (log 80); another reader finds the bytes of memory
(log 86). -/
def refilled (fresh key : Nat) (spilled : List Entry) (bs : List Byte) : Entry :=
  match spilled.head? with
  | some e => if entryBytes e = bs then e else freeEntry fresh key
  | none => freeEntry fresh key

/-- Read the spilled entry back when a pop leaves the depth at 16 or more, as a private-class access (R31, R32,
R373). -/
def State.refill (s : State) (l : Launch) (c : Coach) : Except Trap (State × Coach) :=
  if Config.onChip ≤ c.depth then
    let addr := l.spillAddr c.id (c.depth - Config.onChip)
    match s.ctxReadWith (l.party (some c.core)) addr 32 with
    | .error b => .error (spillTrap b addr 1)
    | .ok (bs, s1) =>
      .ok (s1, { c with stack := c.stack ++ [refilled s.fresh addr c.spilled bs], spilled := c.spilled.tail })
  else .ok (s, c)

/-- A divergent branch (R28). -/
def State.branch (s : State) (l : Launch) (c : Coach) (cond tpc npc rp : DWord) :
    Except Stop (State × Coach) :=
  let t := c.live &&& cond
  let n := c.live &&& ~~~cond
  if n = 0 then .ok (s, { c with pc := tpc })
  else if t = 0 then .ok (s, { c with pc := npc })
  else
    match s.push l c { kind := 0, pc := rp, mask := c.cm, rpc := c.rpc, ph := false, slot := 0 } with
    | .error e => .error e
    | .ok (s1, c1) =>
      match s1.push l c1 { kind := 1, pc := npc, mask := n, rpc := rp, ph := false, slot := 0 } with
      | .error e => .error e
      | .ok (s2, c2) => .ok (s2, { c2 with pc := tpc, cm := t, rpc := rp })

/-- A control target inside the executing image and a multiple of 4 (R365). -/
def Launch.targetOk (l : Launch) (c : Coach) (a : DWord) : Bool :=
  a.toNat % 4 == 0 && decide (l.imageBase c.image ≤ a.toNat)
    && decide (a.toNat < l.imageBase c.image + l.imageLen c.image)

/-- OPERAND 0x010E for the first target that breaks R365. -/
def Launch.targetTrap (l : Launch) (c : Coach) (as : List DWord) : Option Trap :=
  (as.find? (fun a => !l.targetOk c a)).map (fun a => { operandTrap 0x010E 0 with addr := a })

/-! ### Phases of groups (R29, R35) -/

/-- The phase parity of a coach's slot (R285). -/
def State.parity (s : State) (c : Coach) (slot : Nat) : Bool :=
  match s.gang? c.id.q c.id.gang with
  | some g => g.parity.getLsbD (c.groupOf slot)
  | none => false

/-- Is the phase of a held entry complete (R29)? -/
def State.phaseDone (s : State) (c : Coach) (e : Entry) : Bool := s.parity c e.slot != e.ph

/-- Write the result of the GRED whose path is held in the top entry of the stack and continues (R286): each held path has
its own, by the number of its entry. -/
def Coach.gredWrite (c : Coach) : Coach :=
  match c.gred.find? (fun g => g.entry == c.depth - 1) with
  | none => c
  | some g =>
    let c1 := { c with gred := c.gred.filter (fun h => h.entry != g.entry) }
    match g.result with
    | none => c1
    | some v => c1.setX g.xd v

/-! ### Commands in progress (R270) -/

/-- The slot with its progress word 0. -/
def TlSlot.idle (t : TlSlot) : TlSlot := { t with busy := false, own := 0, lines := 0, command := 0, trapped := false }

/-- A TL slot has been given up: the coaches of the crew that wait for it no longer do, which is progress (R269,
R379). -/
def State.slotFree (s : State) (c : Coach) (n : Nat) : State :=
  { s with coaches := s.coaches.map (fun d =>
      if d.id.q == c.id.q && d.id.gang == c.id.gang && d.id.crew == c.id.crew then
        (match d.wait with
         | .tlSlot m _ => if m = n then { d with wait := .ready, wdc := 0 } else d
         | _ => d)
      else d) }

/-- The commands of a coach are abandoned, but for one at the address it returns to, which goes on as before the trap
(R270). -/
def State.abandon (s : State) (c : Coach) (keep : Option DWord) : State :=
  match s.crewOf c with
  | none => s
  | some k =>
    let mine (t : TlSlot) : Bool := t.busy && t.own == c.id.coach
    let gone := (List.range k.tl.length).filter (fun i => match k.tl[i]? with
      | some t => mine t && keep != some t.command
      | none => false)
    gone.foldl (fun s i => s.slotFree c i) (s.setCrew { k with tl := k.tl.map (fun t =>
      if mine t then (if keep = some t.command then { t with trapped := false } else t.idle) else t) })

/-! ### Retirement (R29, R39, R99) -/

/-- The MACHINE trap that writing dirty stash lines back meets: poison (R397), or a lost die (R407). -/
def State.writeBackTrap (s : State) (k : Crew) (ls : List StashLine) : Option Trap :=
  (ls.filter (·.dirty)).findSome? (fun m =>
    match s.readHazard (.store k.core (stashAddr k m.entry m.line)) 128 with
    | some code => some { cls := 11, code := code, addr := BitVec.ofNat 64 (stashAddr k m.entry m.line - k.base) }
    | none => (s.writeHazard (.lunath (128 * m.home))).map (fun code =>
      { cls := 11, code := code, addr := BitVec.ofNat 64 (bindVa (k.stash.getD m.entry 0) + 128 * m.line) }))

/-- Write back the dirty stash lines of a crew and drop them all (R99). -/
def State.returnLines (s : State) (k : Crew) : State :=
  k.lines.foldl (fun s l => match s.crew? k.q k.gang k.crew with
    | some k1 => s.returnLine k1 l false
    | none => s) s

/-- Write back the stash of every crew of a gang (R62, R99). -/
def State.returnStash (s : State) (q : BitVec 6) (g : Nat) : State :=
  (s.crews.filter (fun k => k.q == q && k.gang == g)).foldl (fun s k => s.returnLines k) s

/-- Has a gang no access under way: no request without its response, no entry that a receiver has not accepted? -/
def State.gangQuiet (s : State) (q : BitVec 6) (g : Nat) : Bool :=
  s.requests.all (fun r => !(r.coach.q == q && r.coach.gang == g))
    && s.senders.all (fun k => k.entries.all (fun e => match e with
      | some o => !(o.1.q == q && o.1.gang == g)
      | none => true))

/-- A sender without the entries of a gang, as it is abandoned (R350): the NACKs of an oldest entry that goes with them
are not counted against the next one (R374). A die's packets that are on their way go on. -/
def Sender.without (k : Sender) (q : BitVec 6) (g : Nat) : Sender :=
  let mine (e : Option (CoachId × DWord)) : Bool := match e with
    | some o => o.1.q == q && o.1.gang == g
    | none => false
  match k.id with
  | .dieFabric _ | .port _ => { k with entries := k.entries.map (fun e => if mine e then none else e) }
  | _ =>
    let gone := (k.entries.head?.map mine).getD false
    { k with
      entries := k.entries.filter (fun e => !mine e)
      last := k.last.filter (fun o => !mine (some o))
      nacks := if gone then 0 else k.nacks
      backoff := if gone then none else k.backoff }

/-- Free what a gang holds on its cores: coaches, crews with their scratch and bindings, latch entries,
and senders' claims (R39, R62). -/
def State.freeGang (s : State) (q : BitVec 6) (g : Nat) : State :=
  let regions := s.crews.filter (fun k => k.q == q && k.gang == g)
  { s with
    coaches := s.coaches.filter (fun c => !(c.id.q == q && c.id.gang == g))
    crews := s.crews.filter (fun k => !(k.q == q && k.gang == g))
    cores := s.cores.map (fun k =>
      match regions.find? (fun r => r.core == k.id) with
      | none => k
      | some r => { k with
          latch := k.latch.map (fun e => match e with
            | some e => if e.owner.q == q && e.owner.gang == g then none else some e
            | none => none)
          cells := k.cells.filter (fun a => !(r.base ≤ a.1 && a.1 < r.base + r.scratch)) })
    requests := s.requests.filter (fun r => !(r.coach.q == q && r.coach.gang == g))
    senders := s.senders.map (fun k => k.without q g)
    poison := s.poison.filter (fun p => match p with
      | .register c _ _ => !(c.q == q && c.gang == g)
      | _ => true) }

/-- A pre-emption request for a launch is answered once every gang of the launch has been saved or has
retired, or the launch has ended (R322). -/
def State.settlePreempt (s : State) : State :=
  let q := s.window.preemptQ
  if s.window.preemptGo && s.gangs.all (fun g => g.q != q || g.status == .saved) then
    { s with
      window := { s.window with preemptGo := false, preemptDone := true }
      launches := s.launches.map (fun l => if l.q == q then { l with preempting := false } else l) }
  else s

/-- May a gang retire: every coach of every crew has retired (R39), and its accesses have been performed (R38, R48; log
68)? -/
def State.gangOver (s : State) (q : BitVec 6) (g : Nat) : Bool :=
  (s.coachesOf q g).all (·.retired) && s.gangQuiet q g

/-- The trap of the stash lines that the retirement of a gang would write back (R397). -/
def State.retireTrap (s : State) (q : BitVec 6) (g : Nat) : Option Trap :=
  if s.gangOver q g then
    (s.crews.filter (fun k => k.q == q && k.gang == g)).findSome? (fun k => s.writeBackTrap k k.lines)
  else none

/-- A gang retires when every coach of every crew has retired (R39). -/
def State.retireGang (s : State) (q : BitVec 6) (g : Nat) : State :=
  if s.gangOver q g then
    let s1 := (s.returnStash q g).freeGang q g
    ({ s1 with gangs := s1.gangs.filter (fun k => !(k.q == q && k.index == g)) } : State).settlePreempt
  else s

/-- The coach retires: lanes not yet exited are added to ex, and it counts as arrived (R29, R36). -/
def Coach.retire (c : Coach) : Coach :=
  ({ c with ex := c.lanes, retired := true, wait := .ready, charg := none } : Coach).arriveAll

/-- The pop rule, run for at most `fuel` pops (R29). DESIGN CHOICE (log 93): an entry of the reserved KIND 3, which only a
record that RESTC loads can bring, pops as one of kind 0 or 1. -/
def popLoop : Nat → State → Launch → Coach → Except Trap (State × Coach)
  | 0, s, _, c => .ok (s, c)
  | fuel + 1, s, l, c =>
    if !(c.pc == c.rpc || c.live == 0) then .ok (s, c)
    else
      match c.stack with
      | [] => .ok (s, c.retire)
      | e :: _ =>
        match s.entryTrap c (c.depth - 1) with
        | some t => .error t
        | none =>
          if e.kind = 2 ∧ !s.phaseDone c e then .ok (s, { c with wait := .held })
          else
            match s.refill l ((if e.kind = 2 then c.gredWrite else c).popEntry e) with
            | .error t => .error t
            | .ok (s1, c1) => popLoop fuel s1 l c1

end Sys2Proof.Machine
end

