-- ==== Sys2Proof/Machine/Matrix.lean ====
section
/-! DEFINITION. Matrix mode and the matrix instructions, opcodes 0xB0-0xB6 (R61, R80, R154, R155,
R249-R266, R358-R362, R389). -/

namespace Sys2Proof.Machine

open Sys2Proof

/-! ### Checks that the instructions share -/

/-- OPERAND 0x0102: a matrix or dray instruction under a partial act (R360). -/
def Coach.partialTrap (c : Coach) (f : Fields) : Option Trap :=
  if c.act f = c.notExited then none
  else some { operandTrap 0x0102 0 with lanes := c.live &&& ~~~c.act f }

/-- ACCT of MXS: an I32 accumulator (R79). -/
def Coach.acctInt (c : Coach) : Bool := bit c.mxs 1

/-- OPERAND 0x0104 of an instruction that needs matrix mode and names the block's base (R250). -/
def Coach.baseTrap (c : Coach) (n : Nat) : Option Trap :=
  operandIf (!c.mxm || n != c.vb) 0x0104 n

/-- OPERAND 0x0103: an operand register that must lie outside the block lies inside it (R361). -/
def Coach.insideTrap (c : Coach) (rs : List Nat) : Option Trap :=
  match (if c.mxm then rs.filter c.inBlock else []) with
  | [] => none
  | r :: _ => some (operandTrap 0x0103 r)

/-- The registers of a row vector (R262). -/
def Coach.rowRegs (c : Coach) (r : Nat) : List Nat := if c.width = 16 then [r, r + 1] else [r]

/-- Element i of the row vector at V[r] (R262). -/
def Coach.rowElem (c : Coach) (r i : Nat) : Word := (c.vr (r + i / c.width)).elem (i % c.width)

/-- Element (i, j) of the accumulator tile (R80). -/
def Coach.acc (c : Coach) (i j : Nat) : Word := (c.vr (c.vb + i)).elem j

/-- Replace registers from `b` on. -/
def setRange (v : List VReg) (b : Nat) : List VReg → List VReg
  | [] => v
  | r :: t => setRange (v.set b r) (b + 1) t

/-- The coach with another tile; the block registers stay G (R256). -/
def Coach.setTile (c : Coach) (g : Nat → Nat → Word) : Coach :=
  { c with v := setRange c.v c.vb ((List.range 32).map (fun i => .g ((List.range c.width).map (g i)))) }

/-! ### MMODE and MXZERO (R251, R252, R264) -/

/-- A base that R80 allows in the executing image. -/
def baseOk (l : Launch) (c : Coach) (b : Nat) : Bool := b % 32 == 0 && b ≤ 192 && b + 31 < l.nV c.image

/-- Latch entries whose origin record names a block register are lost (R251). -/
def blockLatches (c : Coach) (b : Nat) (ls : List (Option Latch)) : List (Option Latch) :=
  (List.range 32).foldl (fun ls i => dropOrigin c (b + i) ls) ls

/-- MXS in matrix mode (R79). -/
def mxsOn (b acct : Nat) : DWord := BitVec.ofNat 64 (b * 4 + acct * 2 + 1)

/-- MMODE.ON (R251). -/
def mmodeOn (f : Fields) : Body := fun s l c =>
  let b := f.d.toNat
  checked [c.partialTrap f, operandIf (c.mxm || !baseOk l c b) 0x0104 b]
    (let k := s.core c.core
     let c1 := { c with
       mxs := mxsOn b (f.k 1 1)
       v := setRange c.v b ((List.range 32).map (fun i => (c.vr (b + i)).expand c.width)) }
     finish (s.setCore { k with latch := blockLatches c b k.latch }) c1 f)

/-- MMODE (R251, R252). -/
def execMmode (w0 : W0) (s : State) : Host.Outcome State Fault Refusal :=
  let f := Fields.of32 w0
  issue .mmode f (fun s l c => if f.k 0 0 = 1 then mmodeOn f s l c else finish s { c with mxs := 0 } f) s

/-- MXZERO (R264). -/
def execMxzero (w0 : W0) (s : State) : Host.Outcome State Fault Refusal :=
  let f := Fields.of32 w0
  issue .mxzero f (fun s _ c =>
    checked [c.partialTrap f, c.baseTrap f.d.toNat] (finish s (c.setTile (fun _ _ => 0)) f)) s

/-! ### MXSCL and MXAMAX (R264) -/

/-- A factor of MXSCL: 1.0 where its flag is 0. -/
def sclFactor (on : Bool) (sub : Nat) (w : Word) : FVal :=
  if on then FloatFormat.b32.operand sub w.toNat else .fin false 1 0

/-- The scaled element (i, j). -/
def sclElem (f : Fields) (c : Coach) (i j : Nat) : Word :=
  let r := sclFactor (f.k 0 0 == 1) c.sub (c.rowElem f.a.toNat i)
  let q := sclFactor (f.k 1 1 == 1) c.sub ((c.vr f.b.toNat).elem j)
  BitVec.ofNat 32 (resVal .b32 (c.rnd f) (c.sat f) c.sub
    (((FloatFormat.b32.operand c.sub (c.acc i j).toNat).mul r).mul q))

/-- The registers that MXSCL reads. -/
def sclRegs (f : Fields) (c : Coach) : List Nat :=
  (if f.k 0 0 = 1 then c.rowRegs f.a.toNat else []) ++ (if f.k 1 1 = 1 then [f.b.toNat] else [])

/-- MXSCL (R264). -/
def execMxscl (w0 : W0) (w1 : W1) (s : State) : Host.Outcome State Fault Refusal :=
  let f := Fields.of64 w0 w1
  issue .mxscl f (fun s _ c =>
    checked [c.partialTrap f, c.insideTrap (sclRegs f c), c.baseTrap f.d.toNat, operandIf c.acctInt 0x0106 0]
      (finish s (c.setTile (sclElem f c)) f)) s

/-- The largest magnitude among accumulator elements, in the form of QAMAX or as an integer (R264). -/
def amaxOf (isInt : Bool) (ws : List Word) : Word :=
  if isInt then BitVec.ofNat 32 (ws.foldl (fun m w => max m w.toInt.natAbs) 0)
  else
    let r := ws.foldl (fun acc w => amaxStep .b32 acc w.toNat) (0, false)
    BitVec.ofNat 32 (r.1 + (if r.2 then 2 ^ 31 else 0))

/-- Column j of the tile. -/
def Coach.column (c : Coach) (j : Nat) : List Word := (List.range 32).map (fun i => c.acc i j)

/-- MXAMAX in either format (R264). -/
def mxamaxBody (f : Fields) : Body := fun s _ c =>
  checked [c.partialTrap f, c.insideTrap [f.d.toNat], c.baseTrap f.a.toNat]
    (let v : VReg := if f.k 0 0 = 1 then .g ((List.range c.width).map (fun j => amaxOf c.acctInt (c.column j)))
       else .u (amaxOf c.acctInt ((List.range c.width).flatMap c.column))
     match s.writeV c f.d.toNat (c.act f) { value := v } with
     | (s1, c1) => finish s1 c1 f)

/-- MXAMAX (R264). -/
def execMxamax (w0 : W0) (s : State) : Host.Outcome State Fault Refusal :=
  issue .mxamax (.of32 w0) (mxamaxBody (.of32 w0)) s

/-- MXAMAX with a predicate (R264). -/
def execMxamaxF64 (w0 : W0) (w1 : W1) (s : State) : Host.Outcome State Fault Refusal :=
  issue .mxamax (.of64 w0 w1) (mxamaxBody (.of64 w0 w1)) s

/-! ### Operand panels (R257, R258) -/

/-- Panel size, the panel at POS, and K elements already consumed (R257). -/
def panelSize (v : BitVec 384) : Nat := strExt v 0 * strExt v 1
def panelAt (v : BitVec 384) : Nat := strPos v / panelSize v
def panelDone (v : BitVec 384) : Nat := strPos v % panelSize v / strExt v 1

/-- The position after `kd` elements of K of the current panel (R257). -/
def panelPos (v : BitVec 384) (kd : Nat) : Nat := panelAt v * panelSize v + kd * strExt v 1

/-- Element group of an FMT (R259). -/
def fmtGroup (fmt : Nat) : Option Nat :=
  if fmt = 0x08 ∨ fmt = 0x09 ∨ fmtCb4 fmt then some 4
  else if fmt = 0x0B ∨ fmt = 0x0C ∨ fmt = 0x01 ∨ fmt = 0x02 ∨ fmt = 0x18 then some 8
  else if fmt = 0x0D ∨ fmt = 0x0E ∨ fmt = 0x19 then some 16
  else none

/-- Formats that feed an I32 accumulator together (R259). -/
def intPair (a b : Nat) : Bool :=
  ((a == 0x01 || a == 0x02) && (b == 0x01 || b == 0x02)) || (a == 0x0E && b == 0x0E)

/-- FMT of a stream's data pointer. -/
def Coach.strFmt (c : Coach) (n : Nat) : Nat := ptrFmt (c.pr (strPix (c.sr n)))

/-- Element group of a matrix product, by A's format. -/
def Coach.group (c : Coach) (f : Fields) : Nat := (fmtGroup (c.strFmt f.a.toNat)).getD 4

/-- Does a stream's data pointer satisfy R87, so that its FMT is judged (R354)? -/
def Coach.strJudged (l : Launch) (c : Coach) (n : Nat) : Bool := ptrWellFormed l.scopeMax (c.pr (strPix (c.sr n)))

/-- OPERAND 0x0105: the first requirement of R258 that fails. -/
def Coach.shapeTrap (l : Launch) (c : Coach) (o : Op) (f : Fields) : Option Trap :=
  let a := c.sr f.a.toNat
  let b := c.sr f.b.toNat
  let unit := match (if c.strJudged l f.a.toNat then fmtGroup (c.strFmt f.a.toNat) else none) with
    | some g => 16 * g
    | none => 1
  let bad (r : Nat) : Option Trap := some (operandTrap 0x0105 r)
  if strExt a 0 ≠ strExt b 0 then bad 1
  else if strExt b 1 ≠ c.width ∨ (o = .mxmul ∧ strExt a 1 ≠ 32) then bad 2
  else if f.a = f.b then bad 3
  else if strPos a % panelSize a % strExt a 1 ≠ 0 ∨ strPos b % panelSize b % strExt b 1 ≠ 0
      ∨ panelDone a ≠ panelDone b ∨ panelDone a % unit ≠ 0 then bad 4
  else if panelSize a = 0 ∨ panelSize b = 0 ∨ strCount a < (panelAt a + 1) * panelSize a
      ∨ strCount b < (panelAt b + 1) * panelSize b then bad 5
  else none

/-- OPERAND 0x0106 of one operand stream: its data FMT outside R259, or its scale pointer's outside R233. -/
def Coach.panelFmtTrap (l : Launch) (c : Coach) (n : Nat) (ok : Nat → Bool) : Option Trap :=
  let v := c.sr n
  match fmtTrap l c (strPix v) ok with
  | some t => some t
  | none =>
    if c.strJudged l n && fmtBlock (c.strFmt n) && strSen v then fmtTrap l c (strSpix v) (scaleFmtOk (c.strFmt n))
    else none

/-- OPERAND 0x0106 of a matrix product (R259): B is judged against A only where A is judged (R354). -/
def Coach.fmtsTrap (l : Launch) (c : Coach) (f : Fields) : Option Trap :=
  let a := c.strFmt f.a.toNat
  let one (m : Nat) : Bool := if c.acctInt then m == 1 || m == 2 || m == 0x0E else (fmtGroup m).isSome
  firstTrap [c.panelFmtTrap l f.a.toNat one,
    c.panelFmtTrap l f.b.toNat (fun m => one m && (!c.strJudged l f.a.toNat
      || (fmtGroup m == fmtGroup a && (!c.acctInt || intPair a m))))]

/-- The accesses of rows (or columns) `rs` of a panel for `n` elements of K from `k0` on. -/
def Coach.panelLanes (c : Coach) (n : Nat) (rs : List Nat) (k0 cnt : Nat) : List LaneAt :=
  let v := c.sr n
  rs.flatMap (fun r => (List.range cnt).map (fun t =>
    strLane v (c.strFmt n) (k0 + t) (panelAt v * panelSize v + r * strExt v 0 + k0 + t)))

/-- The rows of A that a product reads (R260, R261). -/
def Coach.aRows (c : Coach) (o : Op) (f : Fields) : List Nat :=
  (List.range 32).map (fun i => if o = .mxmulg then (c.rowElem f.c.toNat i).toNat else i)

/-- Is an element of Sa outside every local store: in another space, or, where it lies in [0, LEN) and its walk ends in a
leaf, on a page whose TT is not 1 (R261)? -/
def State.offStore (s : State) (l : Launch) (c : Coach) (e : Elem) : Bool :=
  match ptrSpace e.p with
  | 1 | 2 => false
  | 3 | 4 => true
  | _ => (pointerCheck l 4 e).isNone && (match s.leaf (l.party (some c.core)) e.va with
    | .ok (_, t) => leafTT t != 1
    | .error _ => false)

/-- OPERAND 0x0107: an index at or above EXT1 of Sa, or an Sa that does not address a local store. -/
def State.gatherTrap (s : State) (l : Launch) (c : Coach) (o : Op) (f : Fields) : Option Trap :=
  let v := c.sr f.a.toNat
  let bad := maskOf 32 (fun i => decide (strExt v 1 ≤ (c.rowElem f.c.toNat i).toNat))
  let p := c.pr (strPix v)
  if o ≠ .mxmulg then none
  else if bad ≠ 0 then some { operandTrap 0x0107 0 with lanes := bad }
  else if !ptrWellFormed l.scopeMax p then none
  else
    let es := ((c.strPlan v).elems c false false
      (c.panelLanes f.a.toNat (c.aRows o f) (panelDone v) (strExt v 0 - panelDone v))).filter (fun e => !e.scale)
    operandIf (es.any (s.offStore l c)) 0x0107 0

/-- OPERAND checks of MXMUL and MXMULG (R258-R261, R360-R363). -/
def State.mxChecks (s : State) (l : Launch) (c : Coach) (o : Op) (f : Fields) : List (Option Trap) :=
  [c.partialTrap f, (if o = .mxmulg then c.insideTrap (c.rowRegs f.c.toNat) else none), c.baseTrap f.d.toNat,
    c.shapeTrap l o f, c.fmtsTrap l f, s.gatherTrap l c o f,
    s.streamTrap l c 0x0108 f.a.toNat, s.streamTrap l c 0x0108 f.b.toNat,
    s.streamTrap l c 0x0109 f.a.toNat, s.streamTrap l c 0x0109 f.b.toNat]

/-- Data accesses of both panels before their scale bytes. -/
def dataFirst (es : List Elem) : List Elem := es.filter (fun e => !e.scale) ++ es.filter (·.scale)

/-- The elements of one operand of a product: those of rows `rs` for `cnt` elements of K from `k0` on. -/
def Coach.panelElems (c : Coach) (n : Nat) (rs : List Nat) (k0 cnt : Nat) : List Elem :=
  (c.strPlan (c.sr n)).elems c false false (c.panelLanes n rs k0 cnt)

/-- Every element that a product will read from its position in K on, A's data, B's, then the scale bytes (R389). -/
def Coach.productElems (c : Coach) (o : Op) (f : Fields) : List Elem :=
  let k0 := panelDone (c.sr f.a.toNat)
  let cnt := strExt (c.sr f.a.toNat) 0 - k0
  dataFirst (c.panelElems f.a.toNat (c.aRows o f) k0 cnt ++ c.panelElems f.b.toNat (List.range c.width) k0 cnt)

/-- Where the elements and scale bytes of the two operands lie, in the order of `productElems`. -/
def Coach.panelsOf (c : Coach) (o : Op) (f : Fields) (rs : List (Elem × Loc)) : Panel × Panel :=
  let cnt := strExt (c.sr f.a.toNat) 0 - panelDone (c.sr f.a.toNat)
  let locs := rs.map (·.2)
  let na := 32 * cnt
  let nb := c.width * cnt
  let sa := if strScaled c.pr (c.sr f.a.toNat) then na else 0
  ({ rows := c.aRows o f, data := locs.take na, scales := (locs.drop (na + nb)).take sa },
    { rows := List.range c.width, data := (locs.drop na).take nb, scales := locs.drop (na + nb + sa) })

/-- What a panel's lists hold for `n` elements of K from `k` on, where each row has `cnt` from `k0` on. -/
def panelSlice (q : Panel) (k0 cnt k n : Nat) (xs : List Loc) : List Loc :=
  (List.range q.rows.length).flatMap (fun r => (xs.drop (r * cnt + (k - k0))).take n)

/-- The elements of a panel in one stretch of K, each at its place. -/
def Coach.panelReads (c : Coach) (n : Nat) (q : Panel) (k0 cnt k m : Nat) : List (Elem × Loc) :=
  (c.panelElems n q.rows k m).zip (panelSlice q k0 cnt k m q.data ++ panelSlice q k0 cnt k m q.scales)

/-- The tags that the scale bytes of an operand hold, against the codebooks that they need (R233, R259). -/
def State.tagTrap (s : State) (l : Launch) (c : Coach) (n : Nat) (q : Panel) (k0 cnt : Nat) : Option Trap :=
  let es := (c.panelReads n q k0 cnt k0 cnt).filter (fun r => r.1.scale)
  (s.blockTrap c (c.strPlan (c.sr n)) (c.panelLanes n q.rows k0 cnt) (s.readElems l c true es).1).map
    (fun t => { t with lanes := 0 })

/-- The check at issue of every element that a product will read (R389), and the remote reads it needs: where the panels
lie, and the bytes of those that are remote, which the product keeps (R263). -/
def State.panelCheck (s : State) (l : Launch) (c : Coach) (o : Op) (f : Fields) :
    Except Stop ((Panel × Panel) × List Answer) :=
  match s.resolve l c { lanes := false, answered := !c.answers.isEmpty } (c.productElems o f) with
  | .error t => .error (.trap t)
  | .ok rs =>
    if s.ownPending c rs then .error (.wait .remote s)
    else if s.lacksAnswer c rs then .error (s.askFor l c rs)
    else
      let q := c.panelsOf o f rs
      let cr := s.withCopies c rs
      let k0 := panelDone (c.sr f.a.toNat)
      let cnt := strExt (c.sr f.a.toNat) 0 - k0
      match leastTrap [s.tagTrap l cr f.a.toNat q.1 k0 cnt, s.tagTrap l cr f.b.toNat q.2 k0 cnt] with
      | some t => .error (.trap t)
      | none => .ok (q, cr.answers.map (fun a => { a with keep := false }))

/-- The product as the grid takes it (R77, R260). -/
def Coach.gridWork (c : Coach) (o : Op) (f : Fields) (q : (Panel × Panel) × List Answer) (now : Nat) : GridWork :=
  let k0 := panelDone (c.sr f.a.toNat)
  { o := o, f := f, pc := c.pc, mode := c.mode, a := q.1.1, b := q.1.2, answers := q.2
    cm := c.cm, rpc := c.rpc, depth := c.depth, lpost := c.lpost, k0 := k0, k := k0
    kEnd := strExt (c.sr f.a.toNat) 0, next := now, moved := false }

/-- MXMUL and MXMULG: all checks, then the grid takes the instruction, and the coach goes on (R255, R260, R263). -/
def mxBody (o : Op) (f : Fields) : Body := fun s l c =>
  checked (s.mxChecks l c o f)
    (if s.outstanding c && c.answers.isEmpty then .error (.wait .remote s)
     else match s.panelCheck l c o f with
     | .error e => .error e
     | .ok q =>
       if s.engineBusy c true then .error (.wait (.engine true) s)
       else finish s { c with grid := some (c.gridWork o f q s.cycles) } f)

/-- MXMUL (R260). -/
def execMxmul (w0 : W0) (w1 : W1) (s : State) : Host.Outcome State Fault Refusal :=
  issue .mxmul (.of64 w0 w1) (mxBody .mxmul (.of64 w0 w1)) s

/-- MXMULG (R261). -/
def execMxmulg (w0 : W0) (w1 : W1) (s : State) : Host.Outcome State Fault Refusal :=
  issue .mxmulg (.of64 w0 w1) (mxBody .mxmulg (.of64 w0 w1)) s

/-! ### One K-group (R154, R155, R260) -/

/-- A row of an operand in one K-group: its elements, its block's exponent, and whether the block is
tagged ZERO. -/
structure GroupRow where
  elems : List FVal
  exp : Int
  zero : Bool
  deriving DecidableEq, Repr

/-- The value of an element as the grid takes it (R154, R259). -/
def gridElem (fmt sub scale : Nat) (cb : List (BitVec 16)) (n : Nat) : FVal :=
  match fmt with
  | 0x08 => FloatFormat.b16.operand sub n
  | 0x09 => FloatFormat.bf16.operand sub n
  | 0x0B => FloatFormat.e4m3.decode n
  | 0x0C => FloatFormat.e5m2.decode n
  | 0x01 => .ofInt (sextInt n 8)
  | 0x02 => .ofInt n
  | 0x0D => FloatFormat.e2m1.decode n
  | 0x0E => .ofInt (sextInt n 4)
  | 0x18 => elemVal (tagFormat false (scale / 64)) cb n
  | 0x19 => elemVal (tagFormat true (scale / 64)) cb n
  | _ => cbEntry cb n

/-- One row from what was read: element bits with their accesses, and scale bytes. -/
def State.groupRow (s : State) (c : Coach) (n : Nat) (rs : List (LaneAt × Nat × Nat)) : GroupRow :=
  let fmt := c.strFmt n
  let q := c.strPlan (c.sr n)
  let cb := (s.cbSlot c (if fmtBlock fmt then c.scaleCb q else fmt - 0x10)).entries
  let scale := match rs with
    | r :: _ => r.2.2
    | [] => 31
  { elems := rs.map (fun r =>
      gridElem fmt c.sub r.2.2 cb (if fmtHalf fmt then nibble r.2.1 r.1.nib else r.2.1))
    exp := if fmtBlock fmt then ((scale % 64 : Nat) : Int) - 31 else 0
    zero := fmtBlock fmt && scale / 64 == 3 }

/-- Cut a list into `k` rows of `n`. -/
def rowsOf {α : Type} (n : Nat) : Nat → List α → List (List α)
  | 0, _ => []
  | k + 1, xs => xs.take n :: rowsOf n k (xs.drop n)

/-- Read one K-group of an operand of a product in flight, of `m` elements: its rows, and the state after the reads. -/
def State.readGroup (s : State) (l : Launch) (c : Coach) (n : Nat) (q : Panel) (w : GridWork) (m : Nat) :
    List GroupRow × State :=
  let ls := c.panelLanes n q.rows w.k m
  match s.readElems l c true (c.panelReads n q w.k0 (w.kEnd - w.k0) w.k m) with
  | (vs, s1) =>
    let scales := if (c.strPlan (c.sr n)).scalePtr.isSome then vs.drop ls.length else List.replicate ls.length 31
    ((rowsOf m q.rows.length (ls.zip (vs.zip scales))).map (s.groupRow c n), s1)

/-- The poison or lost die that the reads of one K-group meet (R398, R407). -/
def State.groupTrap (s : State) (l : Launch) (c : Coach) (w : GridWork) (m : Nat) : Option Trap :=
  let cnt := w.kEnd - w.k0
  s.lateTrap l c { lanes := false } (c.panelReads w.f.a.toNat w.a w.k0 cnt w.k m
    ++ c.panelReads w.f.b.toNat w.b w.k0 cnt w.k m) [.hazard]

/-- The exact sum of the products of a row and a column (R154). -/
def groupSum (a b : GroupRow) : FVal := sumVals 1 ((a.elems.zip b.elems).map (fun r => r.1.mul r.2))

/-- An exact integer. -/
def FVal.toInt (x : FVal) : Int :=
  match x with
  | .fin n m e => alignTo n m e 0
  | _ => 0

/-- One step of an accumulator element (R154, R155). With z = 0 an old NaN keeps its bits, as R154's pseudocode has it,
though its list of special values gives the canonical NaN (DEDUCED, log 88). -/
def gridStep (isInt : Bool) (sat sub : Nat) (old : Word) (a b : GroupRow) : Word :=
  if isInt then
    let z := old.toInt + (groupSum a b).toInt
    BitVec.ofInt 32 (if sat = 1 then clampInt (-(2 ^ 31)) (2 ^ 31 - 1) z else z)
  else if a.zero || b.zero then old
  else
    let z := (groupSum a b).scale (a.exp + b.exp)
    if z.isZero then old
    else BitVec.ofNat 32 (sumRes .b32 1 sat sub [FloatFormat.b32.operand sub old.toNat, z])

/-- The tile after one K-group. -/
def gridTile (c : Coach) (f : Fields) (as bs : List GroupRow) (i j : Nat) : Word :=
  let none_ : GroupRow := { elems := [], exp := 0, zero := true }
  gridStep c.acctInt (c.sat f) c.sub (c.acc i j) (as.getD i none_) (bs.getD j none_)

/-- Both streams at other positions. -/
def Coach.setPositions (c : Coach) (f : Fields) (a b : Nat) : Coach :=
  (c.setS f.a.toNat (strAt (c.sr f.a.toNat) a)).setS f.b.toNat (strAt (c.sr f.b.toNat) b)

/-- The coach as its product in flight finds it: MODE and the answers are those of its issue (R77). -/
def Coach.atGrid (c : Coach) (w : GridWork) : Coach := { c with mode := w.mode, answers := w.answers }

/-- The coach after a K-group whose sums are in its tile: the end of the panel, a checkpoint, or the next
group (R61, R257, R260). At a checkpoint a product stops for pre-emption unless a later instruction has issued, and its
coach stands on it again. -/
def Coach.afterGroup (c : Coach) (w : GridWork) (stop : Bool) (now : Nat) : Coach :=
  let f := w.f
  let a := c.sr f.a.toNat
  let b := c.sr f.b.toNat
  let g := c.group f
  let kd := w.k + g
  if w.kEnd ≤ kd then
    { c.setPositions f ((panelAt a + 1) * panelSize a) ((panelAt b + 1) * panelSize b) with grid := none, wdc := 0 }
  else
    let c1 := c.setPositions f (panelPos a kd) (panelPos b kd)
    let on := { c1 with grid := some { w with k := kd, next := now + 1 } }
    if kd / g % 16 = 0 then
      if stop && !w.moved then { c1 with grid := none, wdc := 0, pc := w.pc, wait := .ready }
      else { on with wdc := 0 }
    else on

/-- One K-group of the coach's matrix instruction. -/
def State.kgroup (s : State) (l : Launch) (c : Coach) (w : GridWork) : State :=
  let m := min (c.group w.f) (w.kEnd - w.k)
  let g := c.atGrid w
  match s.readGroup l g w.f.a.toNat w.a w m with
  | (as, s1) =>
    match s1.readGroup l g w.f.b.toNat w.b w m with
    | (bs, s2) =>
      let c1 := (c.setTile (gridTile g w.f as bs)).afterGroup w (s.stopping c) s.cycles
      let s3 := s2.setCoach c1
      if w.kEnd ≤ w.k + c.group w.f then s3.endEngine c w.o w.f else s3

/-- Does an engine still work for the coach: its gang is on its cores, and its launch has not ended? -/
def State.served (s : State) (c : Coach) : Option Launch :=
  match s.gang? c.id.q c.id.gang, s.launch? c.id.q with
  | some g, some l => if g.status == .saved || l.terminal.isSome then none else some l
  | _, _ => none

/-- A trap of an instruction that an engine runs for its coach (R383, R389). -/
def State.engineTrap (s : State) (c : Coach) (o : Op) (f : Fields) (e : Stop) : State :=
  match e with
  | .trap t => s.takeTrap { c with wait := .ready } t (c.site o f t)
  | .wait w s1 => s1.setCoach { c with wait := w }

/-- MATRIX_KGROUP (R260): the sequencer completes one K-group. Poison that it meets ends the launch at the product,
whether or not later instructions have issued: the record shows the coach as it issued the product (R344, R398; log 69). -/
def execMatrixKgroup (id : CoachId) (s : State) : Host.Outcome State Fault Refusal :=
  match s.coach? id with
  | none => .next s
  | some c =>
    match c.grid, s.served c with
    | some w, some l =>
      match s.groupTrap l (c.atGrid w) w (min (c.group w.f) (w.kEnd - w.k)) with
      | some t => .next (s.takeTrap { c with grid := none, cm := w.cm, rpc := w.rpc, depth := w.depth, lpost := w.lpost } t
          { pce := w.pc, resume := w.pc, act := 0, ilen := w.f.len })
      | none => .next (s.kgroup l c w)
    | _, _ => .next s

/-! ### MXOUT (R265) -/

/-- Base element index and row stride of MXOUT. -/
def outBase (c : Coach) (f : Fields) : Nat := bits (c.xr f.b.toNat) 31 0
def outStride (c : Coach) (f : Fields) : Nat := bits (c.xr f.b.toNat) 63 32

/-- Is the form AUTO, and its TTAG? -/
def outAuto (f : Fields) : Bool := f.k 0 0 == 1
def outTag (f : Fields) : Nat := f.k 2 1

/-- The plan of MXOUT's accesses. -/
def outPlan (f : Fields) : LanePlan :=
  { ptr := f.a.toNat, scalePtr := if f.c.toNat = 255 then none else some f.c.toNat, raw := 4 }

/-- A breach of R265 that the instruction shows without the data pointer. -/
def outFormBad (c : Coach) (f : Fields) : Bool :=
  (!outAuto f && outTag f != 0)
    || (outAuto f && (c.width < 32 || outBase c f % 32 != 0 || outStride c f % 32 != 0))

/-- A breach of R265 that the data pointer's FMT shows. -/
def outFmtBad (c : Coach) (f : Fields) : Bool :=
  let block := fmtBlock (ptrFmt (c.pr f.a.toNat))
  (outAuto f && !block) || (f.c.toNat != 255 && !block)

/-- OPERAND 0x0106 on the data pointer: only a pointer that satisfies R87 has its FMT judged (R354, R358). -/
def outFmtTrap (l : Launch) (c : Coach) (f : Fields) : Option Trap :=
  let p := c.pr f.a.toNat
  operandIf (outFormBad c f || (ptrWellFormed l.scopeMax p && (!fmtOkV (ptrFmt p) || outFmtBad c f))) 0x0106
    (ptrFmt p + 256 * f.a.toNat)

/-- Scale pointer formats that MXOUT accepts (R233, R265). -/
def outScaleOk (c : Coach) (f : Fields) (fmt : Nat) : Bool :=
  if outAuto f then
    if ptrFmt (c.pr f.a.toNat) = 0x19 ∧ outTag f = 2 then fmtCb4 fmt else fmt == 0 || fmt == 2
  else scaleFmtOk (ptrFmt (c.pr f.a.toNat)) fmt

/-- The trap of the codebook of an AUTO form: poisoned (R398), or not loaded (R363). -/
def State.outCbTrap (s : State) (c : Coach) (n : Nat) : Option Trap :=
  if s.regPoisoned c.id (6, n) then some { cls := 11, code := 2 } else s.cbTrap c n

/-- OPERAND checks of MXOUT. -/
def State.outChecks (s : State) (l : Launch) (c : Coach) (f : Fields) : List (Option Trap) :=
  let p := c.pr f.a.toNat
  let wf := ptrWellFormed l.scopeMax p
  [c.partialTrap f, c.baseTrap f.d.toNat, outFmtTrap l c f,
    (if wf && fmtBlock (ptrFmt p) && f.c.toNat != 255 then fmtTrap l c f.c.toNat (outScaleOk c f) else none),
    (if wf && fmtCb4 (ptrFmt p) then s.cbTrap c (ptrFmt p - 0x10) else none),
    (if wf && outAuto f && ptrFmt p == 0x19 && outTag f == 2 && f.c.toNat != 255
        && ptrWellFormed l.scopeMax (c.pr f.c.toNat) then s.outCbTrap c (c.scaleCb (outPlan f)) else none),
    operandIf (wf && fmtBlock (ptrFmt p) && f.c.toNat == 255) 0x0109 0]

/-- The tile's elements in store order, with their accesses. -/
def outLanes (c : Coach) (f : Fields) : List (LaneAt × Word) :=
  (List.range 32).flatMap (fun i => (List.range c.width).map (fun j =>
    (laneIndex (ptrFmt (c.pr f.a.toNat)) 4 (i * c.width + j)
      ((outBase c f + i * outStride c f + j : Nat) : Int), c.acc i j)))

/-- The exact value of an accumulator element. -/
def Coach.accVal (c : Coach) (w : Word) : FVal :=
  if c.acctInt then .ofInt w.toInt else FloatFormat.b32.decode w.toNat

/-- A value rounded and saturated to an integer range (R143). -/
def outInt (lo hi : Int) (x : FVal) : Int := floatToInt 1 lo hi x

/-- A value in a signed integer format: an I32 tile saturates to the full range, an F32 tile symmetrically
(R143, R265). -/
def outSigned (isInt : Bool) (hi : Int) (x : FVal) : Int := outInt (if isInt then -hi - 1 else -hi) hi x

/-- Element bits of a value in a format without blocks (R265). -/
def outBits (isInt : Bool) (fmt : Nat) (cb : List (BitVec 16)) (w : Word) (x : FVal) : Nat :=
  match fmt with
  | 0x00 => w.toNat
  | 0x01 => toBits 8 (outSigned isInt 127 x)
  | 0x02 => toBits 8 (outInt 0 255 x)
  | 0x03 => toBits 16 (outSigned isInt 32767 x)
  | 0x04 => toBits 16 (outInt 0 65535 x)
  | 0x05 => toBits 32 (outSigned isInt (2 ^ 31 - 1) x)
  | 0x06 => toBits 32 (outInt 0 (2 ^ 32 - 1) x)
  | 0x08 => resVal .b16 1 1 0 x
  | 0x09 => resVal .bf16 1 1 0 x
  | 0x0A => if isInt then resVal .b32 1 1 0 x else w.toNat
  | 0x0B => outSmall .e4m3 x
  | 0x0C => outSmall .e5m2 x
  | 0x0D => outSmall .e2m1 x
  | 0x0E => toBits 4 (outSigned isInt 7 x)
  | _ => cbEncode cb x
where
  /-- A value in a format of R142. -/
  outSmall (g : FloatFormat) (x : FVal) : Nat := resVal g 1 1 0 x

/-- The scale byte of one block in the AUTO form (R150, R151, R265). -/
def autoByte (isInt : Bool) (fmt : ElemFormat) (tag : Nat) (cb : List (BitVec 16)) (ws : List Word) : Nat :=
  let m := elemMax fmt cb
  let a := amaxOf isInt ws
  if isInt then
    (if a = 0 then 0xC0 else tag * 64 + scaleExp a.toNat 0 m.1 m.2)
  else scaleByte tag m a.toNat

/-- The scale bytes of the AUTO form, one for each element in store order. -/
def autoScales (c : Coach) (f : Fields) (cb : List (BitVec 16)) : List Nat :=
  let blk4 := ptrFmt (c.pr f.a.toNat) == 0x19
  (List.range 32).flatMap (fun i => (List.range (c.width / 32)).flatMap (fun b =>
    List.replicate 32 (autoByte c.acctInt (tagFormat blk4 (outTag f)) (outTag f) cb
      ((List.range 32).map (fun t => c.acc i (32 * b + t))))))

/-- The element bits of the tile in store order, and how many saturate against calibrated scales. -/
def State.outValues (s : State) (c : Coach) (f : Fields) (items : List (LaneAt × Word))
    (scales : List Nat) : List (Nat × Bool) :=
  let fmt := ptrFmt (c.pr f.a.toNat)
  let q := outPlan f
  (items.zip scales).map (fun r =>
    if fmtBlock fmt then
      quantiseVal (tagFormat (fmt == 0x19) (r.2 / 64)) (s.cbSlot c (c.scaleCb q)).entries (r.2 % 64)
        (c.accVal r.1.2)
    else (outBits c.acctInt fmt (s.cbSlot c (fmt - 0x10)).entries r.1.2 (c.accVal r.1.2), false))

/-- The accesses of MXOUT: in the AUTO form the scale bytes are written. -/
def outElems (c : Coach) (f : Fields) (items : List (LaneAt × Word)) : List Elem :=
  ((outPlan f).elems c true false (items.map (·.1))).map (fun e =>
    if e.scale then { e with write := outAuto f } else e)

/-- The stores of MXOUT in their order: row by row, each row's scale bytes after its data (R265). -/
def outItems (c : Coach) (data : List StoreItem) (marks : List (Nat × StoreItem)) : List StoreItem :=
  (List.range 32).flatMap (fun i =>
    (data.drop (i * c.width)).take c.width ++ (marks.filter (fun m => m.1 / c.width == i)).map (·.2))

/-- The scale bytes of the AUTO form, each with the number of its block's first element in store order. -/
def outMarks (items : List (LaneAt × Word)) (scaleRs : List (Elem × Loc)) (scales : List Nat) :
    List (Nat × StoreItem) :=
  ((List.range items.length).zip (items.zip (scaleRs.zip scales))).filterMap (fun r =>
    if r.2.1.1.index % 32 = 0 then some (r.1, (r.2.2.1, none, r.2.2.2)) else none)

/-- The stores of MXOUT once its accesses have passed their checks. -/
def outStores (f : Fields) (s : State) (l : Launch) (c : Coach) (rs : List (Elem × Loc)) :
    Except Stop State :=
  let items := outLanes c f
  let data := rs.take items.length
  let scaleRs := rs.drop items.length
  let q := outPlan f
  let fmt := ptrFmt (c.pr f.a.toNat)
  let half (a : LaneAt) : Option Nat := if fmtHalf fmt then some a.nib else none
  let reads := halfReads (fmtHalf fmt) data ++ (if outAuto f then [] else scaleRs)
  if s.releaseBlocked c (c.pr f.a.toNat) then .error (.wait .remote s)
  else if s.ownPending c rs then .error (.wait .remote s)
  else if s.lacksAnswer c reads then .error (s.askFor l c reads)
  else
    let cr := s.withCopies c reads
    let read := if outAuto f then (autoScales c f (s.cbSlot c (c.scaleCb q)).entries, s)
      else if q.scalePtr.isSome then s.readElems l cr false scaleRs
      else (List.replicate items.length 0, s)
    match (if outAuto f then none else read.2.blockTrap c q (items.map (·.1)) read.1) with
    | some t => .error (.trap { t with lanes := 0 })
    | none =>
      let outs := s.outValues c f items read.1
      let stores : List StoreItem := (data.zip (items.zip outs)).map (fun r => (r.1, half r.2.1.1, r.2.2.1))
      let marks := if outAuto f then outMarks items scaleRs read.1 else []
      let sats := if outAuto f then 0 else (outs.filter (·.2)).length
      match read.2.performStores l cr (outItems c stores marks) with
      | .error e => .error e
      | .ok s1 => finish s1 { c with cstat := addQsat c.cstat sats, wdc := 0 } f

/-- MXOUT (R265). -/
def execMxout (w0 : W0) (w1 : W1) (s : State) : Host.Outcome State Fault Refusal :=
  let f := Fields.of64 w0 w1
  issue .mxout f (fun s l c =>
    checked (s.outChecks l c f)
      (s.entering c 0 (fun s1 =>
        match s1.resolve l c { lanes := false, answered := !c.answers.isEmpty } (outElems c f (outLanes c f)) with
        | .error t => .error (.trap t)
        | .ok rs => outStores f s1 l c rs))) s

end Sys2Proof.Machine
end

