-- ==== Sys2Proof/Machine/Placement.lean ====
section
/-! DEFINITION. The state of coaches, crews and gangs at placement (R34, R44, R96, R101, R363). -/

namespace Sys2Proof.Machine

open Sys2Proof

/-- The groups that contain a coach, in increasing index (R34). -/
def Launch.groupsOf (l : Launch) (crew coach : Nat) : List Nat :=
  (List.range l.ng).filter (fun g => l.member g crew coach)

/-- The group slots of a coach (R34). -/
def Launch.slotsOf (l : Launch) (crew coach : Nat) : List (BitVec 9) :=
  let gs := l.groupsOf crew coach
  (List.range 4).map (fun i => match gs[i]? with
    | some g => BitVec.ofNat 9 (256 + g)
    | none => 0)

/-- The image that a core runs: its own type's (R22, R109). -/
def imageFor (c : CoreId) : Nat := if coreGig c then 1 else 0

/-- A 128-bit initial pointer from two words of the waybill (R43). -/
def Launch.pinit (l : Launch) (w : Nat) : BitVec 128 :=
  l.waybill.getD (w + 1) 0 ++ l.waybill.getD w 0

/-- Lanes that the driver has set as exited at launch: half 1 of the last coach of a crew of an odd number of Fupen
coaches (R117, R329; log 41). -/
def Launch.exitedAtLaunch (l : Launch) (coach : Nat) : DWord :=
  if l.cmp16 && coach + 1 == l.coachCount && Config.oddCrews l.waybill then 0xFFFF0000#64 else 0

/-- A coach at placement (R44). -/
def Launch.newCoach (l : Launch) (id : CoachId) (core : CoreId) (now : Nat) : Coach :=
  let img := imageFor core
  { id := id, core := core, image := img, width := l.width, cmp16 := l.cmp16
    pc := BitVec.ofNat 64 (l.imageBase img + l.entry img)
    cm := lowMask l.width, ex := l.exitedAtLaunch id.coach, rpc := noPc, al := [0, 0, 0, 0]
    arr := [false, false, false, false], cont := [none, none, none, none], sent := [none, none, none, none]
    v := List.replicate (l.nV img) (.u 0)
    x := (List.range (l.nX img)).map (fun i => if i < 8 then l.waybill.getD (16 + i) 0 else 0)
    p := (List.range (l.nP img)).map (fun i =>
      if i = 0 then l.pinit 12 else if i = 1 then l.pinit 14 else 0)
    str := List.replicate (l.nS img) 0, m := List.replicate 8 0, mode := Config.modeReset
    cstat := 0, mxs := 0, g := l.slotsOf id.crew id.coach, stack := [], depth := 0, spilled := []
    lor := [none, none, none], lpost := none, lastPost := none, charg := none, wdc := 0
    wait := .ready, suspended := none, gred := [], answers := [], heldAnswers := [], grid := none, yields := []
    lastScalar := now, lastVector := now, retired := false }

def CbSlot.empty : CbSlot := { loaded := false, entries := List.replicate 16 0 }
def ChSlot.empty : ChSlot := { loaded := false, ops := [] }
def TlSlot.empty : TlSlot :=
  { loaded := false, words := List.replicate 12 0, busy := false, own := 0, lines := 0, command := 0, trapped := false }

/-- A crew at placement: slots unloaded, no binding (R98, R363), its window of named barriers from `barrier` on (R35). -/
def Launch.newCrew (l : Launch) (gang crew : Nat) (core : CoreId) (base : Nat) (up : Bool)
    (stamp barrier : Nat) : Crew :=
  { q := l.q, gang := gang, crew := crew, core := core, base := base, barrier := barrier, scratch := l.scratch, up := up
    stamp := stamp, stash := List.replicate 16 0, lines := [], cb := List.replicate 8 CbSlot.empty
    ch := List.replicate 16 ChSlot.empty, tl := List.replicate 8 TlSlot.empty }

end Sys2Proof.Machine
end

