-- ==== Sys2Proof/Machine/Dray.lean ====
section
/-! DEFINITION. The dray engine, opcodes 0xD0-0xD4 (R61, R103, R267-R282). -/

namespace Sys2Proof.Machine

open Sys2Proof

/-! ### Tensor layout records (R267, R268) -/

/-- Word i of a record. -/
def recWord (r : List DWord) (i : Nat) : DWord := r.getD i 0

def recFmt (r : List DWord) : Nat := bits (recWord r 0) 63 57
def recBase (r : List DWord) : Nat := bits (recWord r 0) 56 0

/-- Tensor extent of dimension d. -/
def recExt (r : List DWord) (d : Nat) : Nat :=
  if d % 2 = 0 then bits (recWord r (1 + d / 2)) 31 0 else bits (recWord r (1 + d / 2)) 63 32

/-- Byte stride of dimension d, 1-4. -/
def recStr (r : List DWord) (d : Nat) : Nat := bits (recWord r (3 + d)) 39 0

/-- Box extent of dimension d. -/
def recBox (r : List DWord) (d : Nat) : Nat :=
  if d = 4 then bits (recWord r 9) 15 0 else bits (recWord r 8) (16 * d + 15) (16 * d)

def recFill (r : List DWord) : Nat := bits (recWord r 9) 18 16
def recSwz (r : List DWord) : Nat := bits (recWord r 9) 21 19
def recIlv (r : List DWord) : Nat := bits (recWord r 9) 25 22
def recFillv (r : List DWord) : Nat := bits (recWord r 9) 63 32
def recPitch (r : List DWord) : Nat := bits (recWord r 10) 23 0
def recRedop (r : List DWord) : Nat := bits (recWord r 11) 35 32
def recMcast (r : List DWord) : Nat := bits (recWord r 11) 31 0

/-- Element size in half bytes: s of R267, doubled. -/
def recNibs (r : List DWord) : Nat := if fmtHalf (recFmt r) then 1 else 2 * fmtBytes 1 (recFmt r)

/-- Is `n` a multiple of s, or a whole byte for a half-byte format? -/
def recMultiple (r : List DWord) (n : Nat) : Bool := fmtHalf (recFmt r) || n % fmtBytes 1 (recFmt r) == 0

/-- Box rows (R267). -/
def recRows (r : List DWord) : Nat := recBox r 1 * recBox r 2 * recBox r 3 * recBox r 4

/-- Reserved bits and codes, FMT, and extents of at least 1: the first condition of R268. -/
def recReserved (r : List DWord) : Bool :=
  bits (recWord r 3) 63 32 != 0 || [4, 5, 6, 7].any (fun i => bits (recWord r i) 63 40 != 0)
    || bits (recWord r 9) 31 26 != 0 || bits (recWord r 10) 63 24 != 0 || bits (recWord r 11) 63 36 != 0
    || recIlv r == 1 || 8 ≤ recIlv r || 4 ≤ recSwz r || 3 ≤ recFill r || 4 ≤ recRedop r
    || !fmtAssigned (recFmt r) || recFmt r == 0x1A
    || (List.range 5).any (fun d => recExt r d == 0 || recBox r d == 0)

/-- The first condition of R268 that a record breaks. -/
def recBreach (r : List DWord) : Option Nat :=
  let fmt := recFmt r
  if recReserved r then some 1
  else if !recMultiple r (recBase r) || [1, 2, 3, 4].any (fun d => !recMultiple r (recStr r d)) then some 2
  else if fmtHalf fmt && recBox r 0 % 2 != 0 then some 3
  else if recPitch r % 16 ≠ 0 ∨ 2 * recPitch r < recBox r 0 * recNibs r then some 4
  else if recIlv r ≠ 0 ∧ (recPitch r % 512 ≠ 0 ∨ 2 * 2 ^ recIlv r % recNibs r ≠ 0) then some 5
  else if recFill r = 1 ∧ !(0x08 ≤ fmt && fmt ≤ 0x0C) then some 6
  else if recRedop r ≠ 0 ∧ !(fmt == 0x05 || fmt == 0x06 || (0x08 ≤ fmt && fmt ≤ 0x0A)) then some 7
  else none

/-! ### Slots (R269, R270) -/

/-- A TL slot of a coach's crew. -/
def State.tlSlot (s : State) (c : Coach) (n : Nat) : TlSlot :=
  match s.crewOf c with
  | some k => k.tl.getD n TlSlot.empty
  | none => TlSlot.empty

/-- Replace a TL slot. -/
def State.setTl (s : State) (c : Coach) (n : Nat) (t : TlSlot) : State :=
  match s.crewOf c with
  | some k => s.setCrew { k with tl := k.tl.set n t }
  | none => s

/-- The progress word (R269). -/
def TlSlot.progress (t : TlSlot) : Nat := if t.busy then 2 ^ 31 + t.own % 16 * 2 ^ 27 + t.lines % 2 ^ 27 else 0

/-- OPERAND 0x0108 of a TL slot not loaded since placement (R363). -/
def State.tlTrap (s : State) (c : Coach) (n : Nat) : Option Trap :=
  operandIf (!(s.tlSlot c n).loaded) 0x0108 (n + 32)

/-- TLRSET (R280): a stopped command of the slot is abandoned, so that its word is 0 (R270, R379). -/
def execTlrset (w0 : W0) (s : State) : Host.Outcome State Fault Refusal :=
  let f := Fields.of32 w0
  issue .tlrset f (fun s _ c =>
    let n := f.d.toNat
    let r := (List.range 12).map (fun i => if f.a.toNat = 255 then 0 else c.xr (f.a.toNat + i))
    if s.tlOwned c n then .error (.wait (.tlSlot n (s.tlSlot c n).own) s)
    else
      checked [c.partialTrap f, (recBreach r).map (fun i => operandTrap 0x010C i)]
        (finish ((s.setTl c n { TlSlot.empty with loaded := true, words := r }).slotFree c n) c f)) s

/-! ### FESET (R281) -/

/-- The length that FESET takes. -/
def fesetLen (c : Coach) (f : Fields) : Nat :=
  if f.form = .f96 then f.lit.toNat else (c.xr f.b.toNat).toNat

/-- A POINTER trap on a local-store offset. -/
def storeTrap (code addr : Nat) : Option Trap :=
  some { cls := 5, code := code, addr := BitVec.ofNat 64 addr, info := 0xFF }

/-- A range that leaves SCRATCH: the first offset outside it. -/
def rangeTrap (scratch off len : Nat) : Option Trap :=
  if off + len ≤ scratch then none else storeTrap 5 (if off < scratch then scratch else off)

/-- Set or clear the bits of granules from `g` on. -/
def State.setGranules (s : State) (core : CoreId) (v : Bool) (g : Nat) : Nat → State
  | 0 => s
  | n + 1 => (s.setFull core g v).setGranules core v (g + 1) n

/-- FESET in either format (R281). A set is a release of the coach's earlier stores. DESIGN CHOICE (log 94): where only the
length breaks the multiple of 16, ADDR shows the offset. -/
def fesetBody (f : Fields) : Body := fun s l c =>
  let off := (c.xr f.a.toNat).toNat
  let len := fesetLen c f
  let clear := f.k 0 0 == 1
  checked [c.partialTrap f, rangeTrap l.scratch off len,
      if off % 16 ≠ 0 ∨ len % 16 ≠ 0 then storeTrap 6 off else none]
    (match s.crewOf c with
     | none => finish s c f
     | some k =>
       if !clear && s.outstanding c then .error (.wait .remote s)
       else finish (s.setGranules k.core (!clear) ((k.base + off) / 16) (len / 16)) c f)

/-- FESET (R281). -/
def execFeset (w0 : W0) (w1 : W1) (s : State) : Host.Outcome State Fault Refusal :=
  issue .feset (.of64 w0 w1) (fesetBody (.of64 w0 w1)) s

/-- FESET of a literal length (R281). -/
def execFesetF96 (w0 : W0) (w1 : W1) (lit : BitVec 32) (s : State) : Host.Outcome State Fault Refusal :=
  issue .feset (.of96 w0 w1 lit) (fesetBody (.of96 w0 w1 lit)) s

/-! ### Walking the box (R271, R272) -/

/-- Coordinate d of the origin at X[a] (R273). -/
def originAt (c : Coach) (a d : Nat) : Int :=
  let w := if a = 255 then 0 else c.xr (a + d / 2)
  sextInt (if d % 2 = 0 then bits w 31 0 else bits w 63 32) 32

/-- The bits of an origin that must be 0 (R273). -/
def originBad (c : Coach) (a : Nat) : Bool := bits (if a = 255 then 0 else c.xr (a + 2)) 63 32 != 0

/-- A box element: row, and b0. -/
structure BoxElem where
  row : Nat
  b0 : Nat
  deriving DecidableEq, Repr

/-- Coordinate d of a box element (R271). -/
def boxCoord (r : List DWord) (origin : Nat → Int) (e : BoxElem) (d : Nat) : Int :=
  origin d + ((match d with
    | 0 => e.b0
    | 1 => e.row % recBox r 1
    | 2 => e.row / recBox r 1 % recBox r 2
    | 3 => e.row / (recBox r 1 * recBox r 2) % recBox r 3
    | _ => e.row / (recBox r 1 * recBox r 2 * recBox r 3) : Nat) : Int)

/-- Coordinates within the tensor's extents (`inb` of R271); `box` numbers the rows. -/
def inBounds (box r : List DWord) (origin : Nat → Int) (e : BoxElem) : Bool :=
  (List.range 5).all (fun d => 0 ≤ boxCoord box origin e d && boxCoord box origin e d < (recExt r d : Int))

/-- Address of an element in half bytes (R271). -/
def tensorNib (box r : List DWord) (origin : Nat → Int) (e : BoxElem) : Nat :=
  let co (d : Nat) : Nat := (boxCoord box origin e d).toNat
  2 * recBase r + co 0 * recNibs r + 2 * (co 1 * recStr r 1 + co 2 * recStr r 2 + co 3 * recStr r 3 + co 4 * recStr r 4)

/-- Unswizzled offset of an element in half bytes, for a pitch in bytes. -/
def plainNib (r : List DWord) (pitch : Nat) (e : BoxElem) : Nat := 2 * e.row * pitch + e.b0 * recNibs r

/-- The swizzle and the interleave of R271 on a byte offset. -/
def placeOffset (r : List DWord) (row o : Nat) : Nat :=
  let o1 := if recSwz r = 0 then o else Nat.xor o (o / 128 % 2 ^ recSwz r * 16)
  if recIlv r = 0 then o1 else o1 - o1 % 512 + (o1 % 512 + row * 2 ^ recIlv r) % 512

/-- Local-store offset of an element in half bytes (R271). -/
def localNib (r : List DWord) (soff : Nat) (e : BoxElem) : Nat :=
  let o := plainNib r (recPitch r) e
  2 * (soff + placeOffset r e.row (o / 2)) + o % 2

/-- VP of a command (R272). -/
def rowPitch (o : Op) (r : List DWord) : Nat :=
  if o = .drcp then roundUp ((recBox r 0 * recNibs r + 1) / 2) 128 else recPitch r

/-- Lines of a command (R272). -/
def lineCount (o : Op) (r : List DWord) : Nat := (recRows r * rowPitch o r + 127) / 128

/-- The box elements of one row that lie in line `n` (R272). -/
def rowInLine (o : Op) (r : List DWord) (n row : Nat) : List BoxElem :=
  let start := 2 * row * rowPitch o r
  let z := recNibs r
  let lo := (256 * n - start + z - 1) / z
  let hi := min (recBox r 0) ((256 * n + 255 - start) / z + 1)
  (List.range (hi - lo)).map (fun i => { row := row, b0 := lo + i })

/-- The box elements of a line in walk order (R272). -/
def lineElems (o : Op) (r : List DWord) (n : Nat) : List BoxElem :=
  let p := rowPitch o r
  let first := 128 * n / p
  let last := (128 * n + 127) / p
  (List.range (last - first + 1)).flatMap (fun i =>
    if first + i < recRows r then rowInLine o r n (first + i) else [])

/-- Bits of a fill element (R271). -/
def fillBits (r : List DWord) : Nat :=
  match recFill r with
  | 0 => 0
  | 1 => match recFmt r with
    | 0x08 => 0x7E00
    | 0x09 => 0x7FC0
    | 0x0A => 0x7FC00000
    | 0x0B => 0x7F
    | _ => 0x7E
  | _ => if recFmt r = 0x07 then toBits 64 (sextInt (recFillv r) 32) else recFillv r % 2 ^ (4 * recNibs r)

/-! ### A command's parts -/

/-- A running command: which, its fields, the record that shapes the box and gives the local store or
the source, and the record of the destination of a DRCP. -/
structure Command where
  op : Op
  f : Fields
  src : List DWord
  dst : List DWord
  deriving DecidableEq, Repr

/-- The command of a coach whose slots hold its records. -/
def State.command (s : State) (c : Coach) (o : Op) (f : Fields) (src : List DWord) : Command :=
  { op := o, f := f, src := src, dst := (s.tlSlot c f.d.toNat).words }

/-- The record that a command reads at issue: DRCP's source, else the slot's own. -/
def State.commandRecord (s : State) (c : Coach) (o : Op) (f : Fields) : List DWord :=
  if o = .drcp then (s.tlSlot c f.a.toNat).words else (s.tlSlot c f.d.toNat).words

/-- The origin of the box in the tensor that the box record gives: the source of DRCP. -/
def Command.origin (k : Command) (c : Coach) (d : Nat) : Int :=
  originAt c (if k.op = .drcp then k.f.b.toNat else k.f.a.toNat) d

/-- The origin in the destination of DRCP. -/
def Command.dstOrigin (k : Command) (c : Coach) (d : Nat) : Int :=
  if k.op = .drcp then originAt c (if k.f.b.toNat = 255 then 255 else k.f.b.toNat + 3) d else k.origin c d

/-- SOFF. -/
def Command.soff (k : Command) (c : Coach) : Nat := (c.xr k.f.b.toNat).toNat

/-- The tensor that a command writes. -/
def Command.target (k : Command) : List DWord := if k.op = .drcp then k.dst else k.src

/-- REDOP, of the destination record. -/
def Command.redop (k : Command) : Nat := if k.op = .drld then 0 else recRedop k.target

/-- Is an element of the box written to the tensor? -/
def Command.writes (k : Command) (c : Coach) (e : BoxElem) : Bool :=
  k.op != .drld && inBounds k.src k.target (k.dstOrigin c) e

/-- Is an element of the box read from the tensor? -/
def Command.reads (k : Command) (c : Coach) (e : BoxElem) : Bool :=
  inBounds k.src k.src (k.origin c) e && (k.op == .drld || (k.op == .drcp && k.writes c e))

/-- Address of an element in the tensor read, in half bytes. -/
def Command.readNib (k : Command) (c : Coach) (e : BoxElem) : Nat := tensorNib k.src k.src (k.origin c) e

/-- Address of an element in the tensor written, in half bytes. -/
def Command.writeNib (k : Command) (c : Coach) (e : BoxElem) : Nat :=
  tensorNib k.src k.target (k.dstOrigin c) e

/-- Bytes of an element in memory. -/
def Command.size (k : Command) : Nat := fmtBytes 1 (recFmt k.src)

/-- Crews that a DRLD delivers to (R275). -/
def Command.crews (k : Command) (l : Launch) (c : Coach) : List Nat :=
  let m := recMcast k.src
  if m = 0 then [c.id.crew] else (List.range l.crewCount).filter (fun i => m.testBit i)

/-! ### Checks at issue (R273-R275, R279) -/

/-- OPERAND 0x010D of a command (R275-R277). DESIGN CHOICE (log 94): for DRCP INFO shows the destination's MCAST if it is
not 0, else the source's. -/
def Command.mcastTrap (k : Command) (l : Launch) : Option Trap :=
  let m := recMcast (if k.op = .drcp && recMcast k.dst != 0 then k.dst else k.src)
  match k.op with
  | .drld => operandIf (m / 2 ^ l.crewCount != 0 || recRedop k.src != 0) 0x010D m
  | .drst => operandIf (m != 0) 0x010D m
  | _ => operandIf (m != 0 || recFmt k.src != recFmt k.dst) 0x010D m

/-- OPERAND checks of a command. DESIGN CHOICE (log 94): where both records of a DRCP are unloaded, INFO names the
source's slot. -/
def State.drayChecks (s : State) (l : Launch) (c : Coach) (k : Command) : List (Option Trap) :=
  [c.partialTrap k.f, (if k.op = .drcp then s.tlTrap c k.f.a.toNat else none), s.tlTrap c k.f.d.toNat,
    operandIf (originBad c (if k.op = .drcp then k.f.b.toNat else k.f.a.toNat)
      || (k.op == .drcp && k.f.b.toNat != 255 && originBad c (k.f.b.toNat + 3))) 0x010C 8,
    k.mcastTrap l, operandIf (decide (2 ^ 27 - 1 < lineCount k.op k.src)) 0x0116 (lineCount k.op k.src)]

/-- Footprint in the local store (R274). -/
def Command.footprint (k : Command) : Nat :=
  let n := recRows k.src * recPitch k.src
  if recSwz k.src = 0 then n else roundUp n 128

/-- Alignment of SOFF (R274). -/
def Command.soffAlign (k : Command) : Nat :=
  if recIlv k.src ≠ 0 then 512 else if recSwz k.src ≠ 0 then 128 else 16

/-- POINTER checks of the footprint: 0x0005 and 0x0006 (R274). -/
def Command.footTrap (k : Command) (l : Launch) (c : Coach) (code : Nat) : Option Trap :=
  if k.op = .drcp then none
  else if code = 5 then rangeTrap l.scratch (k.soff c) k.footprint
  else if k.soff c % k.soffAlign ≠ 0 then storeTrap 6 (k.soff c) else none

/-- The completion access of a command (R279). -/
def Command.completion (k : Command) (c : Coach) : List Elem :=
  let n := k.f.c.toNat
  if n = 255 then []
  else [{ lane := 0, ptr := n, p := c.pr n, off := 0, size := 8, align := 8, write := true, atomic := true }]


/-- The memory checks of a command at issue, in the order of R388. -/
def State.drayAccess (s : State) (l : Launch) (c : Coach) (k : Command) : Option Trap :=
  let m : AccessMode := { lanes := false, completion := true }
  let es := k.completion c
  match firstTrap [earlyTrap l m es [1, 2, 3], k.footTrap l c 5, earlyTrap l m es [5, 4], k.footTrap l c 6,
      earlyTrap l m es [6]] with
  | some t => some t
  | none =>
    match s.resolve l c m es with
    | .error t => some t
    | .ok _ => none

/-- Is the slot's command stopped, and this its reissue (R270, R272)? A command that the coach issues in the handler of
the trap that stopped it is a new one. -/
def TlSlot.resumes (t : TlSlot) (c : Coach) : Bool :=
  t.busy && t.own == c.id.coach && t.command == c.pc && !t.trapped

/-- The slot of a command as the engine takes it. -/
def TlSlot.taken (t : TlSlot) (c : Coach) : TlSlot :=
  if t.resumes c then t else { t with busy := true, own := c.id.coach, lines := 0, command := c.pc, trapped := false }

/-- The slots that a command names: its own, and the source's of a DRCP. -/
def commandSlots (o : Op) (f : Fields) : List Nat :=
  f.d.toNat :: (if o = .drcp then [f.a.toNat] else [])

/-- The engine takes a command: stopped commands of the slots that it names are abandoned, whose words are 0 at that
moment, and its slot is busy (R269, R270, R379). -/
def State.takeCommand (s : State) (c : Coach) (o : Op) (f : Fields) : State :=
  let n := f.d.toNat
  let s1 := (commandSlots o f).foldl (fun s i =>
    if (s.tlSlot c i).trapped then (s.setTl c i (s.tlSlot c i).idle).slotFree c i else s) s
  s1.setTl c n ((s1.tlSlot c n).taken c)

/-! ### One line (R272, R274-R278, R389) -/

/-- Translation of one element of a line: the checks of R387, the world checks, then 0x0010. -/
def State.drayTranslate (s : State) (p : Party) (write reduce : Bool) (size va : Nat) : Except Breach Loc :=
  match s.leaf p va with
  | .error b => .error b
  | .ok (level, e) =>
    if leafTT e ≠ 2 ∧ !drayTargetOk e then .error { cls := 6, code := 4, info := level }
    else if write && !bit e 4 then .error { cls := 6, code := 3, info := level }
    else
      let loc := leafLoc level e va
      match worldBreach s p.sec e loc with
      | some b => .error b
      | none =>
        if leafTT e = 2 ∨ (reduce ∧ leafTT e ≠ 0) then .error { cls := 5, code := 0x0010, info := 0xFF }
        else match s.accessHazard p 0 va reduce (write && !reduce) loc size with
          | some h => .error (s.hazardBreach h)
          | none => .ok loc

/-- The order in which the checks of a line decide (R388, R389). -/
def lineOrder : List (Nat × Option Nat) :=
  [(6, some 1), (6, some 2), (6, some 4), (6, some 3), (10, none), (5, some 0x0010), (11, none)]

/-- An access of a line as an element without a pointer. -/
def lineElem (nib size : Nat) (write : Bool) : Elem :=
  { lane := 0, ptr := 0xFF, p := 0, off := (nib / 2 : Nat), size := size, write := write }

/-- The virtual address of a half-byte address. -/
def nibVa (nib : Nat) : Nat := nib / 2 % 2 ^ 57

/-- The checks of every global access of a line. -/
def State.lineTrap (s : State) (l : Launch) (c : Coach) (k : Command) (es : List BoxElem) : Option Trap :=
  let p := l.party (some c.core)
  let reads := (es.filter (k.reads c)).map (fun e =>
    (lineElem (k.readNib c e) k.size false, s.drayTranslate p false false k.size (nibVa (k.readNib c e))))
  let writes := (es.filter (k.writes c)).map (fun e =>
    (lineElem (k.writeNib c e) k.size true,
      s.drayTranslate p true (k.redop != 0) k.size (nibVa (k.writeNib c e))))
  walkTrap { lanes := false } (reads ++ writes) lineOrder

/-- The MACHINE trap of a DRST that reads a poisoned granule of its local store (R398). -/
def State.sourceTrap (s : State) (c : Coach) (k : Command) (es : List BoxElem) : Option Trap :=
  match (if k.op = .drst then s.crewOf c else none) with
  | none => none
  | some w => ((es.filter (k.writes c)).find? (fun e =>
      (s.readHazard (.store w.core (w.base + localNib k.src (k.soff c) e / 2)) k.size).isSome)).map (fun e =>
        { cls := 11, code := 3, addr := BitVec.ofNat 64 (localNib k.src (k.soff c) e / 2) })

/-- Element bits at a location: a nibble of its byte, or its bytes. -/
def elemOf (k : Command) (nib : Nat) (bs : List Byte) : Nat :=
  if fmtHalf (recFmt k.src) then nibble (leNat bs) (nib % 2) else leNat bs

/-- The bytes to write for element bits over the old ones. -/
def elemOver (k : Command) (nib v : Nat) (old : List Byte) : List Byte :=
  if fmtHalf (recFmt k.src) then
    natLe 1 (leNat old - nibble (leNat old) (nib % 2) * 16 ^ (nib % 2) + v % 16 * 16 ^ (nib % 2))
  else natLe k.size v

/-- Read an element of the tensor: private-class, at the home L2 or in the stash (R274). -/
def State.drayRead (s : State) (l : Launch) (c : Coach) (k : Command) (nib : Nat) : Nat × State :=
  let p := l.party (some c.core)
  match s.drayTranslate p false false k.size (nibVa nib) with
  | .error _ => (0, s)
  | .ok loc0 =>
    match (s.noteTranslation p (nibVa nib)).place p 0 (nibVa nib) false false loc0 with
    | (loc, s1) =>
      match s1.readLoc p .atHome loc k.size with
      | (bs, s2) => (elemOf k nib bs, s2)

/-- The new value of a reduction (R278). -/
def reduceNew (fmt redop old v : Nat) : Nat :=
  let f : FloatFormat := if fmt = 0x08 then .b16 else if fmt = 0x09 then .bf16 else .b32
  if fmt = 0x05 ∨ fmt = 0x06 then
    (match redop with
     | 1 => (old + v) % 2 ^ 32
     | 2 => atomNew fmt 2 0 4 old v 0
     | _ => atomNew fmt 1 0 4 old v 0)
  else
    (match redop with
     | 1 => sumRes f 1 2 0 [f.decode old, f.decode v]
     | 2 => fminmax f true 0 old v
     | _ => fminmax f false 0 old v)

/-- Drop the issuing core's copy of a line that the engine writes (R274). -/
def State.dropLine (s : State) (core : CoreId) (loc : Loc) : State :=
  match loc with
  | .lunath a => s.setCore { s.core core with
      copies := (s.core core).copies.filter (fun q => q.line != a / 128) }
  | _ => s

/-- The home L2 drops its copy of a line (R278, R308). -/
def State.dropHome (s : State) (loc : Loc) : State :=
  match loc with
  | .lunath a =>
    let d := s.die (homeDie a)
    let s1 := s.setDie { d with mts := smax d.mts (s.stampNow (a / 128)).rts }
    { s1 with stamps := s1.stamps.filter (fun t => t.line != a / 128) }
  | _ => s

/-- Write or reduce an element of the tensor (R276-R278). A reduction is a write of the line, which its home L2 then no
longer holds (R308). -/
def State.drayWrite (s : State) (l : Launch) (c : Coach) (k : Command) (nib v : Nat) : State :=
  let p := l.party (some c.core)
  let reduce := k.redop != 0
  match s.drayTranslate p true reduce k.size (nibVa nib) with
  | .error _ => s
  | .ok loc0 =>
    match (s.noteTranslation p (nibVa nib)).place p 0 (nibVa nib) reduce true loc0 with
    | (loc, s1) =>
      match (if reduce then s1.wholeLine loc else s1).readLoc p .atHome loc k.size with
      | (old, s2) =>
        let data := if reduce then natLe k.size (reduceNew (recFmt k.src) k.redop (leNat old) v)
                    else elemOver k nib v old
        let s3 := (s2.writeLoc p loc data).dropLine c.core loc
        if reduce then s3.dropHome loc else s3

/-- Write an element to the local store of the destination crews (R275). -/
def State.deliver (s : State) (c : Coach) (k : Command) (nib v : Nat) : List Nat → State
  | [] => s
  | i :: rest =>
    let s1 := match s.crew? c.id.q c.id.gang i with
      | none => s
      | some w =>
        let a := w.base + nib / 2
        s.storeWrite w.core a (elemOver k nib v (s.storeBytes w.core a k.size))
    s1.deliver c k nib v rest

/-- The value of a box element: read from the tensor or the local store, or the fill. -/
def State.boxValue (s : State) (l : Launch) (c : Coach) (k : Command) (e : BoxElem) : Nat × State :=
  if k.op = .drst then
    match s.crewOf c with
    | none => (0, s)
    | some w =>
      let nib := localNib k.src (k.soff c) e
      (elemOf k nib (s.storeBytes w.core (w.base + nib / 2) k.size), s)
  else if k.reads c e then s.drayRead l c k (k.readNib c e)
  else (fillBits k.src, s)

/-- Perform one element. -/
def State.boxElem (s : State) (l : Launch) (c : Coach) (k : Command) (e : BoxElem) : State :=
  if k.op = .drld then
    match s.boxValue l c k e with
    | (v, s1) => s1.deliver c k (localNib k.src (k.soff c) e) v (k.crews l c)
  else if k.writes c e then
    match s.boxValue l c k e with
    | (v, s1) => s1.drayWrite l c k (k.writeNib c e) v
  else s

/-- The granule that an element's write lies in: by scratch offset for DRLD, by virtual address
otherwise. -/
def Command.granule (k : Command) (c : Coach) (e : BoxElem) : Nat :=
  if k.op = .drld then localNib k.src (k.soff c) e / 32 else k.writeNib c e / 32

/-- The elements of a line that the command writes. -/
def Command.written (k : Command) (c : Coach) (n : Nat) : List BoxElem :=
  (lineElems k.op k.src n).filter (fun e => k.op == .drld || k.writes c e)

/-- Granules whose last bytes line `n` writes (R275, R276). -/
def Command.completed (k : Command) (c : Coach) (n : Nat) : List Nat :=
  ((k.written c n).map (k.granule c)).eraseDups.filter (fun g =>
    !(List.range (lineCount k.op k.src - (n + 1))).any (fun i =>
      ((k.written c (n + 1 + i)).map (k.granule c)).contains g))

/-- Does DRST or DRCP write a granule of a local store there: the granule's core and number (R276). -/
def State.pageGranule (s : State) (l : Launch) (c : Coach) (g : Nat) : Option (CoreId × Nat) :=
  match s.drayTranslate (l.party (some c.core)) true false 1 (g * 16 % 2 ^ 57) with
  | .ok (.store core a) => some (core, a / 16)
  | _ => none

/-- The writes of DRST and DRCP may set bits only in local stores: no line of Lunath has any. -/
def State.setCompleted (s : State) (l : Launch) (c : Coach) (k : Command) (n : Nat) : State :=
  let touches := k.op == .drld || (k.written c n).any (fun e => (s.pageGranule l c (k.granule c e)).isSome)
  (if touches then k.completed c n else []).foldl (fun s g =>
    if k.op = .drld then
      (k.crews l c).foldl (fun s i => match s.crew? c.id.q c.id.gang i with
        | none => s
        | some w => s.setFull w.core (w.base / 16 + g) true) s
    else match s.pageGranule l c g with
      | none => s
      | some (core, m) => s.setFull core m true) s

/-- The completion add (R279). A remote one leaves as a packet that nothing waits for, under the pod-table entry that was
checked at issue (R400). -/
def State.completeAdd (s : State) (l : Launch) (c : Coach) (k : Command) : Except Stop State :=
  match s.resolve l c { lanes := false, answered := true } (k.completion c) with
  | .error t => .error (.trap t)
  | .ok [] => .ok s
  | .ok (r :: _) =>
    let fmt := ptrFmt r.1.p
    if r.2.isRemote && !s.hasRoom c r.2.isPeer then .error (.wait (.window 3) s)
    else if r.2.isRemote then
      let tag := s.nextTag r.2.isPeer
      let s1 := s.sendAtomic l c 0 r { at_ := { lane := 0, off := 0 }, operand := 1, expected := 0 }
      .ok { s1 with requests := s1.requests.map (fun q =>
        if q.tag == tag && q.limit.isSome == r.2.isPeer then { q with kind := 1 } else q) }
    else .ok (s.atomicAt l c r (fun old => atomNew fmt 0 0 8 old 1 0)).2

/-- The coach and its slot after a line: the command's end, or the next line (R61, R272). -/
def State.afterLine (s : State) (l : Launch) (c : Coach) (k : Command) (t : TlSlot) :
    Except Stop State :=
  let n := k.f.d.toNat
  if lineCount k.op k.src ≤ t.lines + 1 then
    match s.completeAdd l c k with
    | .error e => .error e
    | .ok s1 =>
      .ok ((((s1.setTl c n t.idle).setCoach
        (({ c with wait := .ready, lastPost := none, answers := [], wdc := 0 } : Coach).advance k.f.len)).slotFree
          c n).endEngine c k.op k.f)
  else
    .ok ((s.setTl c n { t with lines := t.lines + 1 }).setCoach
      { c with wdc := 0, wait := if s.stopping c then .ready else .dray k.op k.f k.src })

/-- The half bytes of the tensor that the elements of one line are written to: their addresses in the context's map. -/
def Command.writeRanges (k : Command) (c : Coach) (es : List BoxElem) : List (Nat × Nat) :=
  (es.filter (k.writes c)).map (fun e => (k.writeNib c e % 2 ^ 58, recNibs k.src))

/-- The elements of a line, performed; a line of Lunath that they have written whole loses its poison (R397). -/
def State.lineDone (s : State) (l : Launch) (c : Coach) (k : Command) (t : TlSlot) (es : List BoxElem) :
    Except Stop State :=
  let s1 := (es.foldl (fun s e => s.boxElem l c k e) s).unpoisonVa (l.party (some c.core)) (k.writeRanges c es)
  (s1.setCompleted l c k t.lines).afterLine l c k t

/-- One line of the coach's command: an entry of the dray's window, but for a line without any element of the box, which
completes at once (R59, R272). -/
def State.drayLine (s : State) (l : Launch) (c : Coach) (k : Command) : Except Stop State :=
  let t := s.tlSlot c k.f.d.toNat
  let es := lineElems k.op k.src t.lines
  match firstTrap [s.lineTrap l c k es, s.sourceTrap c k es] with
  | some e => .error (.trap e)
  | none => if es.isEmpty then s.lineDone l c k t es else s.entering c 1 (fun s1 => s1.lineDone l c k t es)

/-- The issue of DRLD, DRST and DRCP: all checks, then the engine takes the command and processes its first line, or
holds that one back (R272, R274). The coach stays on the command until the last line. -/
def drayBody (o : Op) (f : Fields) : Body := fun s l c =>
  let src := s.commandRecord c o f
  let k := s.command c o f src
  match (commandSlots o f).find? (s.tlOwned c) with
  | some n => .error (.wait (.tlSlot n (s.tlSlot c n).own) s)
  | none =>
    checked (s.drayChecks l c k)
      (checked [s.drayAccess l c k]
        (if s.outstanding c then .error (.wait .remote s)
         else if s.engineBusy c false then .error (.wait (.engine false) s)
         else
           let s1 := s.takeCommand c o f
           match s1.drayLine l c k with
           | .ok s2 => .ok s2
           | .error _ => .error (.wait (.dray o f src) s1)))

/-- DRLD (R275). -/
def execDrld (w0 : W0) (w1 : W1) (s : State) : Host.Outcome State Fault Refusal :=
  issue .drld (.of64 w0 w1) (drayBody .drld (.of64 w0 w1)) s

/-- DRST (R276). -/
def execDrst (w0 : W0) (w1 : W1) (s : State) : Host.Outcome State Fault Refusal :=
  issue .drst (.of64 w0 w1) (drayBody .drst (.of64 w0 w1)) s

/-- DRCP (R277). -/
def execDrcp (w0 : W0) (w1 : W1) (s : State) : Host.Outcome State Fault Refusal :=
  issue .drcp (.of64 w0 w1) (drayBody .drcp (.of64 w0 w1)) s

/-- DRAY_LINE (R272): the engine completes one line, or holds it back on a full replay window. -/
def execDrayLine (id : CoachId) (s : State) : Host.Outcome State Fault Refusal :=
  match s.coach? id with
  | none => .next s
  | some c =>
    match c.wait, s.served c with
    | .dray o f src, some l =>
      match s.drayLine l c (s.command c o f src) with
      | .error (.wait _ _) => .next s
      | .error (.trap t) => .next (s.engineTrap c o f (.trap t))
      | .ok s1 => .next s1
    | _, _ => .next s

end Sys2Proof.Machine
end

