-- ==== Sys2Proof/Machine/Pointers.lean ====
section
/-! DEFINITION. Pointers, streams, prefetch and the stash: opcodes 0xC4-0xCD (R241-R248). -/

namespace Sys2Proof.Machine

open Sys2Proof

/-- A POINTER trap that names a register and a reason (R386). -/
def pointerTrap (code info : Nat) : Stop := .trap { cls := 5, code := code, info := BitVec.ofNat 64 info }

/-- Complete, or raise a POINTER trap with no other effect. -/
def unlessPointer (bad : Bool) (code info : Nat) (r : Except Stop State) : Except Stop State :=
  if bad then .error (pointerTrap code info) else r

/-! ### Building and deriving pointers (R241, R242) -/

/-- The attribute word of PMAKE; the literal is zero-extended (R241). -/
def pmakeAttr (c : Coach) (f : Fields) : DWord :=
  if f.form = .f96 then f.lit.setWidth 64 else c.xr f.b.toNat

/-- The checks of PMAKE (R241, R386 0x000A). -/
def pmakeBad (l : Launch) (c : Coach) (f : Fields) : Bool :=
  bits (c.xr f.a.toNat) 63 57 != 0 || bits (c.xr f.c.toNat) 63 40 != 0
    || bits (pmakeAttr c f) 63 32 != 0 || bit (pmakeAttr c f) 7
    || !ptrWellFormed l.scopeMax
        (ptrMake (c.xr f.a.toNat).toNat (pmakeAttr c f).toNat (c.xr f.c.toNat).toNat)

/-- PMAKE in either format (R241). -/
def pmakeBody (f : Fields) : Body := fun s l c =>
  whenActive s c f (unlessPointer (pmakeBad l c f) 0x000A f.d.toNat
    (finish s (c.setP f.d.toNat
      (ptrMake (c.xr f.a.toNat).toNat (pmakeAttr c f).toNat (c.xr f.c.toNat).toNat)) f))

/-- PMAKE (R241). -/
def execPmake (w0 : W0) (w1 : W1) (s : State) : Host.Outcome State Fault Refusal :=
  issue .pmake (.of64 w0 w1) (pmakeBody (.of64 w0 w1)) s

/-- PMAKE with literal attributes (R241). -/
def execPmakeF96 (w0 : W0) (w1 : W1) (lit : BitVec 32) (s : State) :
    Host.Outcome State Fault Refusal :=
  issue .pmake (.of96 w0 w1 lit) (pmakeBody (.of96 w0 w1 lit)) s

/-- A pointer with another BASE and LEN, every other field kept. -/
def ptrRange (p : BitVec 128) (base len : Nat) : BitVec 128 :=
  setField (setField p 0 57 base) 64 40 len

/-- The pointer that PDERIV makes (R242). -/
def pderivResult (c : Coach) (f : Fields) : BitVec 128 :=
  let p := c.pr f.a.toNat
  let q := ptrRange p (ptrBase p + (c.xr f.b.toNat).toNat) (c.xr f.c.toNat).toNat
  if f.k 5 5 = 1 then setField q 57 7 (f.k 4 0) else q

/-- PDERIV (R242). -/
def execPderiv (w0 : W0) (w1 : W1) (s : State) : Host.Outcome State Fault Refusal :=
  let f := Fields.of64 w0 w1
  issue .pderiv f (fun s _ c =>
    whenActive s c f (unlessPointer
      (decide (ptrLen (c.pr f.a.toNat) < (c.xr f.b.toNat).toNat + (c.xr f.c.toNat).toNat))
      0x000B f.a.toNat (finish s (c.setP f.d.toNat (pderivResult c f)) f))) s

/-- PADD in either format (R242). -/
def paddBody (f : Fields) : Body := fun s _ c =>
  let p := c.pr f.a.toNat
  let off := (c.bValue f).toInt
  whenActive s c f (unlessPointer (decide (off < 0) || decide ((ptrLen p : Int) < off)) 0x000B f.a.toNat
    (finish s (c.setP f.d.toNat (ptrRange p (ptrBase p + off.toNat) (ptrLen p - off.toNat))) f))

/-- PADD (R242). -/
def execPadd (w0 : W0) (w1 : W1) (s : State) : Host.Outcome State Fault Refusal :=
  issue .padd (.of64 w0 w1) (paddBody (.of64 w0 w1)) s

/-- PADD of a literal (R242). -/
def execPaddF96 (w0 : W0) (w1 : W1) (lit : BitVec 32) (s : State) : Host.Outcome State Fault Refusal :=
  issue .padd (.of96 w0 w1 lit) (paddBody (.of96 w0 w1 lit)) s

/-- The field that PGET reads (R242). -/
def pgetField (fld : Nat) (p : BitVec 128) : DWord :=
  BitVec.ofNat 64 (match fld with
    | 0 => ptrBase p
    | 1 => ptrLen p
    | 2 => ptrAttr p
    | 3 => bits p 63 0
    | _ => bits p 127 64)

/-- PGET (R242). -/
def execPget (w0 : W0) (s : State) : Host.Outcome State Fault Refusal :=
  let f := Fields.of32 w0
  issue .pget f (fun s _ c =>
    whenActive s c f (finish s (c.setX f.d.toNat (pgetField (f.k 2 0) (c.pr f.a.toNat))) f)) s

/-! ### PSCOPE (R243) -/

/-- The stash lines of a crew that meet [base, base + len): none where it is empty (R243). -/
def Crew.linesIn (k : Crew) (base len : Nat) : List StashLine :=
  k.lines.filter (fun m => decide (0 < len) && decide (base < bindVa (k.stash.getD m.entry 0) + 128 * m.line + 128)
    && decide (bindVa (k.stash.getD m.entry 0) + 128 * m.line < base + len))

/-- Write back the dirty ones of a crew's stash lines; they stay bound and become clean (R99). -/
def State.cleanLines (s : State) (k : Crew) (ls : List StashLine) : State :=
  (ls.filter (·.dirty)).foldl
    (fun s m => match s.crew? k.q k.gang k.crew with
      | some k1 => s.returnLine k1 m true
      | none => s) s

/-- Write back the dirty stash lines of a crew that lie in a range of addresses (R243). -/
def State.flushStash (s : State) (k : Crew) (base len : Nat) : State := s.cleanLines k (k.linesIn base len)

/-- The addresses at which a range meets the 64 KiB pages: each page's first address in the range, and
how many bytes of it follow. -/
def pagesOf (base len : Nat) : List (Nat × Nat) :=
  if len = 0 then [] else
    (List.range ((base + len - 1) / 65536 - base / 65536 + 1)).map (fun i =>
      let lo := max base ((base / 65536 + i) * 65536)
      (lo, min (base + len) ((base / 65536 + i + 1) * 65536) - lo))

/-- Does a Lunath line hold bytes of a range of a context's addresses? -/
def State.lineInRange (s : State) (p : Party) (base len line : Nat) : Bool :=
  (pagesOf base len).any (fun q => match s.leaf p (q.1 % 2 ^ 57) with
    | .error _ => false
    | .ok (level, e) => match leafLoc level e (q.1 % 2 ^ 57) with
      | .lunath a => decide (a < 128 * line + 128) && decide (128 * line < a + q.2)
      | _ => false)

/-- Drop a core's copies of the lines of a range, and end its leases on them (R243). -/
def State.dropCopies (s : State) (p : Party) (core : CoreId) (base len : Nat) : State :=
  let k := s.core core
  if k.copies.isEmpty then s
  else s.setCore { k with copies := k.copies.filter (fun q => !s.lineInRange p base len q.line) }

/-- Drop the clean copies that a die's L2 holds of lines of a range (R243). -/
def State.dropDieCopies (s : State) (p : Party) (die : BitVec 3) (base len : Nat) : State :=
  let d := s.die die
  if d.copies.isEmpty then s
  else s.setDie { d with copies := d.copies.filter (fun q => !s.lineInRange p base len q.line) }

/-- Does a 128-byte line of host space hold bytes of a range of a context's addresses? -/
def State.hostInRange (s : State) (p : Party) (base len line : Nat) : Bool :=
  (pagesOf base len).any (fun q => match s.leaf p (q.1 % 2 ^ 57) with
    | .error _ => false
    | .ok (level, e) => match leafLoc level e (q.1 % 2 ^ 57) with
      | .host a => decide (a < 128 * line + 128) && decide (128 * line < a + q.2)
      | _ => false)

/-- Drop a core's copies of the lines of host space of a range (R104, R243). -/
def State.dropHostCopies (s : State) (p : Party) (core : CoreId) (base len : Nat) : State :=
  let k := s.core core
  if k.host.isEmpty then s
  else s.setCore { k with host := k.host.filter (fun e => !s.hostInRange p base len (e.1 / 128)) }

/-- Write back the dirty lines of a range that a die's L2 holds of other dies (R104, R243, R247). -/
def State.flushRemote (s : State) (p : Party) (die : BitVec 3) (base len : Nat) : State :=
  (s.remote.filter (fun r => r.die == die && s.lineInRange p base len r.line)).foldl (fun s r => s.writeBack r.line) s

/-- SCOPE and CLASS after PSCOPE (R243). -/
def pscopeScope (f : Fields) (p : BitVec 128) : Nat := if f.k 5 3 = 7 then ptrScope p else f.k 5 3
def pscopeCls (f : Fields) (p : BitVec 128) : Nat := if f.k 2 1 = 3 then ptrCls p else f.k 2 1

/-- Which changes flush, and which invalidate (R243). -/
def pscopeFlush (f : Fields) (p : BitVec 128) : Bool :=
  decide (ptrScope p < pscopeScope f p) || (ptrCls p == 0 && 1 ≤ pscopeCls f p)
    || (ptrCls p == 2 && pscopeCls f p != 2)
def pscopeDrop (f : Fields) (p : BitVec 128) : Bool :=
  decide (pscopeScope f p < ptrScope p) || (ptrCls p == 1 && pscopeCls f p != 1)
    || (ptrCls p == 2 && pscopeCls f p != 2)

/-- Does a space keep copies that PSCOPE acts on (R243)? -/
def spaceCopied (sp : Nat) : Bool := sp == 0 || sp == 3 || sp == 5

/-- The actions of a PSCOPE on the copies of the pointer's range (R243). -/
def State.pscopeActions (s : State) (l : Launch) (c : Coach) (f : Fields) (p : BitVec 128) : State :=
  if !spaceCopied (ptrSpace p) then s
  else
    let q := l.party (some c.core)
    let s1 := if pscopeFlush f p then
        ((match s.crewOf c with
         | some k => s.flushStash k (ptrBase p) (ptrLen p)
         | none => s)).flushRemote q c.core.die (ptrBase p) (ptrLen p)
      else s
    if pscopeDrop f p then
      ((s1.dropCopies q c.core (ptrBase p) (ptrLen p)).dropDieCopies q c.core.die (ptrBase p)
        (ptrLen p)).dropHostCopies q c.core (ptrBase p) (ptrLen p)
    else s1

/-- The MACHINE trap of a PSCOPE's write-backs. -/
def State.pscopeTrap (s : State) (c : Coach) (f : Fields) (p : BitVec 128) : Option Trap :=
  match (if spaceCopied (ptrSpace p) && pscopeFlush f p then s.crewOf c else none) with
  | some k => s.writeBackTrap k (k.linesIn (ptrBase p) (ptrLen p))
  | none => none

/-- PSCOPE (R243): a change acts as an acquire-release (R298, R300): it waits for the coach's earlier accesses,
and the core keeps no lease of an earlier time. -/
def execPscope (w0 : W0) (s : State) : Host.Outcome State Fault Refusal :=
  let f := Fields.of32 w0
  issue .pscope f (fun s l c =>
    let p := c.pr f.a.toNat
    whenActive s c f
      (unlessPointer (f.k 5 3 != 7 && decide (ptrWide p < f.k 5 3)) 0x000C f.a.toNat
        (let q := setField (setField p 109 3 (pscopeScope f p)) 107 2 (pscopeCls f p)
         let c1 := c.setP f.d.toNat q
         if q = p then finish s c1 f
         else if s.outstanding c then .error (.wait .remote s)
         else checked [s.pscopeTrap c f p] (finish ((s.pscopeActions l c f p).acquirePackage c.core) c1 f)))) s

/-! ### Streams (R244, R245) -/

/-- The stream register that SDEF defines (R244). -/
def sdefValue (c : Coach) (f : Fields) : BitVec 384 :=
  let w (i : Nat) : Nat := if f.a.toNat = 255 then 0 else (c.xr (f.a.toNat + i)).toNat
  let sen := if f.c.toNat = 255 then 0 else 32 + 64 * f.c.toNat
  BitVec.ofNat 384 (f.b.toNat % 32 + sen + w 0 * 2 ^ 64 + w 1 * 2 ^ 128 + w 2 * 2 ^ 192 + w 3 * 2 ^ 256
    + w 4 * 2 ^ 320)

/-- The reason that an SDEF fails, with the register that it names (R386 0x000D). -/
def sdefReason (c : Coach) (f : Fields) : Option (Nat × Nat) :=
  let v := sdefValue c f
  let block := fmtBlock (ptrFmt (c.pr f.b.toNat))
  if strCount v = 0 ∨ 2 ^ 48 ≤ strCount v then some (1, f.b.toNat)
  else if strSen v ≠ block then some (2, f.b.toNat)
  else if block ∧ strExt v 0 % 32 ≠ 0 then some (3, f.b.toNat)
  else if block ∧ ptrLen (c.pr f.c.toNat) < (strCount v + 31) / 32 then some (4, f.c.toNat)
  else none

/-- SDEF (R244). -/
def execSdef (w0 : W0) (w1 : W1) (s : State) : Host.Outcome State Fault Refusal :=
  let f := Fields.of64 w0 w1
  issue .sdef f (fun s _ c =>
    whenActive s c f (match sdefReason c f with
      | some (r, reg) => .error (pointerTrap 0x000D (reg + r * 2 ^ 12))
      | none => finish s (c.setS f.d.toNat (sdefValue c f)) f)) s

/-- The operand b of `.set`: unsigned, a literal zero-extended (R245). -/
def sposSet (c : Coach) (f : Fields) : Nat :=
  if f.form = .f96 then f.lit.toNat else (c.xr f.b.toNat).toNat

/-- SPOS in any format (R245). -/
def sposBody (f : Fields) : Body := fun s _ c =>
  whenActive s c f (finish s (match f.k 1 0 with
    | 0 => c.setS f.d.toNat (strAt (c.sr f.d.toNat) (min (sposSet c f) (strCount (c.sr f.d.toNat))))
    | 1 =>
      let v := c.sr f.d.toNat
      c.setS f.d.toNat (strAt v (clampInt 0 (strCount v) ((strPos v : Int) + (c.bValue f).toInt)).toNat)
    | _ => c.setX f.d.toNat (BitVec.ofNat 64 (strPos (c.sr f.a.toNat)))) f)

/-- SPOS in F32: `.rd`, or with b = 0 (R245). -/
def execSpos (w0 : W0) (s : State) : Host.Outcome State Fault Refusal :=
  issue .spos (.of32 w0) (sposBody (.of32 w0)) s

/-- SPOS of a register (R245). -/
def execSposF64 (w0 : W0) (w1 : W1) (s : State) : Host.Outcome State Fault Refusal :=
  issue .spos (.of64 w0 w1) (sposBody (.of64 w0 w1)) s

/-- SPOS of a literal (R245). -/
def execSposF96 (w0 : W0) (w1 : W1) (lit : BitVec 32) (s : State) : Host.Outcome State Fault Refusal :=
  issue .spos (.of96 w0 w1 lit) (sposBody (.of96 w0 w1 lit)) s

/-! ### Prefetch (R246) -/

/-- Bytes that a PREF requests (R246). -/
def prefLen (c : Coach) (f : Fields) : Nat :=
  if f.c.toNat = 255 then 128 else min (c.xr f.c.toNat).toNat (2 ^ 20)

/-- The pieces of lines that meet `n` bytes at offset `off` of a pointer. -/
def prefElems (reg : Nat) (p : BitVec 128) (off : Int) (n : Nat) : List Elem :=
  if n = 0 then [] else
    let lo : Int := (ptrBase p : Int) + off
    let hi : Int := lo + (n : Int)
    (List.range (n / 128 + 2)).filterMap (fun (i : Nat) =>
      let a := max lo ((lo / 128 + (i : Int)) * 128)
      let b := min hi ((lo / 128 + (i : Int) + 1) * 128)
      if a < b then
        some { lane := 0, ptr := reg, p := p, off := a - (ptrBase p : Int), size := (b - a).toNat }
      else none)

/-- Fill the core's data cache with the line of one element, unless a check fails or the stash serves it. -/
def State.prefFill (s : State) (l : Launch) (c : Coach) (e : Elem) : State :=
  let p := l.party (some c.core)
  match s.resolve l c {} [e] with
  | .ok [(_, .lunath a)] =>
    if (s.binding p e.va).isSome then s else ((s.recall (a / 128) true).homeRead p (ptrReadKind e.p) true 0 a 1).2
  | _ => s

/-- PREF in either format (R246). Filling an L2 is not visible; a fill of the data cache is a copy that a
later load may find. It never traps. -/
def prefBody (f : Fields) : Body := fun s l c =>
  let p := c.pr f.a.toNat
  whenActive s c f
    (if f.k 0 0 = 1 ∧ ptrCpol p ≠ 3 ∧ (ptrSpace p = 0 ∨ ptrSpace p = 5) ∧ ¬ (ptrCls p = 2 ∧ 4 ≤ ptrScope p) then
      finish ((prefElems f.a.toNat p (c.bValue f).toInt (prefLen c f)).foldl
        (fun s e => s.prefFill l c e) s) c f
    else finish s c f)

/-- PREF (R246). -/
def execPref (w0 : W0) (w1 : W1) (s : State) : Host.Outcome State Fault Refusal :=
  issue .pref (.of64 w0 w1) (prefBody (.of64 w0 w1)) s

/-- PREF at a literal offset (R246). -/
def execPrefF96 (w0 : W0) (w1 : W1) (lit : BitVec 32) (s : State) : Host.Outcome State Fault Refusal :=
  issue .pref (.of96 w0 w1 lit) (prefBody (.of96 w0 w1 lit)) s

/-! ### The stash (R98, R247, R248) -/

/-- A binding table entry (R98). -/
def bindEntry (va off len : Nat) : BitVec 128 :=
  BitVec.ofNat 128 (va % 2 ^ 57 + off % 2 ^ 20 * 2 ^ 64 + len % 2 ^ 21 * 2 ^ 84 + 2 ^ 127)

/-- Do [a, a + m) and [b, b + n) overlap? -/
def rangesMeet (a m b n : Nat) : Bool := decide (a < b + n) && decide (b < a + m)

/-- Does a valid entry overlap a range of scratch or of global addresses? -/
def bindMeets (e : BitVec 128) (va off len : Nat) : Bool :=
  bindValid e && (rangesMeet (bindVa e) (bindLen e) va len || rangesMeet (bindOff e) (bindLen e) off len)

/-- Does a valid entry overlap a range of global addresses? -/
def bindMeetsVa (e : BitVec 128) (va len : Nat) : Bool :=
  bindValid e && rangesMeet (bindVa e) (bindLen e) va len

/-- The leaves of the pages of a range; none: a page that is not mapped. -/
def State.rangeLeaf (s : State) (p : Party) (va : Nat) : Option Breach × Bool :=
  match s.leaf p (va % 2 ^ 57) with
  | .error b => (some b, false)
  | .ok (_, e) => (none, leafTT e != 0)

/-- The trap of an STBIND, by its first reason (R98, R247, R386 0x000E). -/
def State.bindTrap (s : State) (l : Launch) (c : Coach) (k : Crew) (reg : Nat) (p : BitVec 128)
    (off : Nat) : Option Trap :=
  let va := ptrBase p
  let len := ptrLen p
  let party := l.party (some c.core)
  let reason (r : Nat) : Option Trap :=
    some { cls := 5, code := 0x000E, info := BitVec.ofNat 64 (reg + r * 2 ^ 12) }
  if ptrSpace p ≠ 0 ∨ off % 128 ≠ 0 ∨ va % 128 ≠ 0 ∨ len % 128 ≠ 0 ∨ len < 128 ∨ 2 ^ 20 < len then
    reason 1
  else if k.scratch < off + len then reason 2
  else if k.stash.any (fun e => bindMeets e va off len) then reason 3
  else if s.crews.any (fun j => !(j.q == k.q && j.gang == k.gang && j.crew == k.crew)
      && sameCluster j.core k.core && s.ctxOf j.q == some l.ctx
      && j.stash.any (fun e => bindMeetsVa e va len)) then reason 4
  else if k.stash.all bindValid then reason 5
  else
    match (pagesOf va len).findSome? (fun q => (s.rangeLeaf party q.1).1.map (fun b => (b, q.1))) with
    | some (b, a) => some (b.trap a)
    | none => if (pagesOf va len).any (fun q => (s.rangeLeaf party q.1).2) then reason 6 else none

/-- Drop the copies of a range from the data caches of every core of a cluster (R247). -/
def State.dropClusterCopies (s : State) (p : Party) (core : CoreId) (base len : Nat) : State :=
  (s.cores.filter (fun k => sameCluster k.id core)).foldl (fun s k => s.dropCopies p k.id base len) s

/-- STBIND (R247). -/
def execStbind (w0 : W0) (w1 : W1) (s : State) : Host.Outcome State Fault Refusal :=
  let f := Fields.of64 w0 w1
  issue .stbind f (fun s l c =>
    let p := c.pr f.a.toNat
    let off := bits (c.xr f.b.toNat) 19 0
    match s.crewOf c with
    | none => finish s c f
    | some k =>
      whenActive s c f
        (match s.bindTrap l c k f.a.toNat p off with
         | some t => .error (.trap t)
         | none =>
           let i := k.stash.findIdx (fun e => !bindValid e)
           let q := l.party (some c.core)
           let s1 := (s.flushRemote q c.core.die (ptrBase p) (ptrLen p)).dropClusterCopies q c.core (ptrBase p) (ptrLen p)
           finish (s1.setCrew { k with stash := k.stash.set i (bindEntry (ptrBase p) off (ptrLen p)) })
             (c.setX f.d.toNat (BitVec.ofNat 64 i)) f)) s

/-- Remove a binding: dirty lines are written back, and the entry is free (R248). -/
def State.unbind (s : State) (k : Crew) (i : Nat) : State :=
  let s1 := (k.lines.filter (fun m => m.entry == i)).foldl (fun s m =>
    match s.crew? k.q k.gang k.crew with
    | some k1 => s.returnLine k1 m false
    | none => s) s
  match s1.crew? k.q k.gang k.crew with
  | none => s1
  | some k1 => s1.setCrew { k1 with stash := k1.stash.set i 0 }

/-- STUNB (R248). -/
def execStunb (w0 : W0) (s : State) : Host.Outcome State Fault Refusal :=
  let f := Fields.of32 w0
  issue .stunb f (fun s _ c =>
    let i := (c.xr f.a.toNat).toNat
    match s.crewOf c with
    | none => finish s c f
    | some k =>
      whenActive s c f (unlessPointer (decide (16 ≤ i) || !bindValid (k.stash.getD i 0)) 0x000F 0xFF
        (checked [s.writeBackTrap k (k.lines.filter (fun m => m.entry == i))] (finish (s.unbind k i) c f)))) s

end Sys2Proof.Machine
end

