-- ==== Sys2Proof/Machine/Record.lean ====
section
/-! DEFINITION. Coach records (R84, R85), and SAVEC and RESTC, which write and load them (R294, R368). -/

namespace Sys2Proof.Machine

open Sys2Proof

/-! ### Sizes -/

/-- Offset of the X registers in a record (R85). -/
def recordHeadSize : Nat := 832

/-- Bytes of the slot area (R85). -/
def slotAreaSize : Nat := 2336

/-- Bytes of a V register by its tag code (R85). -/
def tagSize (w tag : Nat) : Nat :=
  match tag with
  | 0 => 4
  | 1 => 8
  | _ => 4 * w

/-- Bytes of a record before its slot area, by the V registers' tags (R85). -/
def recordBodySize (nX nP nS w : Nat) (tags : List Nat) : Nat :=
  roundUp (recordHeadSize + 8 * nX + 16 * nP + 48 * nS + (tags.map (tagSize w)).foldl (· + ·) 0) 64

/-- CRMAX of an image (R85). -/
def Launch.crMaxOf (l : Launch) (img : Nat) : Nat :=
  recordBodySize (l.nX img) (l.nP img) (l.nS img) l.width (List.replicate (l.nV img) 2) + slotAreaSize

/-- CRMAX of a launch (R109). -/
def Launch.crMax (l : Launch) : Nat :=
  if l.twoImg then max (l.crMaxOf 0) (l.crMaxOf 1)
  else if l.imageLen 0 = 0 then l.crMaxOf 1 else l.crMaxOf 0

/-! ### Writing -/

/-- The tag code of a V register (R84). -/
def VReg.code (v : VReg) : Nat :=
  match v with
  | .u _ => 0
  | .a _ _ => 1
  | .g _ => 2

/-- A V register packed by its tag (R85). -/
def VReg.bytes (v : VReg) : List Byte :=
  match v with
  | .u b => natLe 4 b.toNat
  | .a b t => natLe 4 b.toNat ++ natLe 4 t.toNat
  | .g ws => ws.flatMap (fun w => natLe 4 w.toNat)

/-- An origin record, 255 for none (R84). -/
def lorCode (r : Option Nat) : Nat := r.getD 255

/-- Bytes up to a length. -/
def padTo (n : Nat) (bs : List Byte) : List Byte := bs ++ List.replicate (n - bs.length) 0

/-- The record header (R84). -/
def Coach.headBytes (c : Coach) : List Byte :=
  let g := (List.range 4).foldl (fun acc s => acc + (c.g.getD s 0).toNat * 2 ^ (16 * s)) 0
  let lor (i : Nat) : Nat := lorCode (c.lor.getD i none)
  let tags := (List.range c.v.length).foldl (fun acc i => acc + (c.vr i).code * 4 ^ i) 0
  ([c.pc, c.mode, c.cstat, c.mxs, c.cm, c.ex, c.rpc, c.alOf 0, c.alOf 1, c.alOf 2, c.alOf 3].flatMap
      (fun w => natLe 8 w.toNat))
    ++ natLe 8 g ++ natLe 8 (c.stack.length + c.depth % 2 ^ 32 * 2 ^ 16 + lor 0 * 2 ^ 48 + lor 1 * 2 ^ 56)
    ++ natLe 64 tags ++ natLe 88 (lor 2)

/-- A record without its slot area (R85). -/
def Coach.recordBody (c : Coach) : List Byte :=
  let bs := c.headBytes ++ padTo 512 (c.stack.reverse.flatMap entryBytes)
    ++ ((List.range 8).flatMap (fun i => natLe 8 (c.mr i).toNat))
    ++ c.x.flatMap (fun w => natLe 8 w.toNat) ++ c.p.flatMap (fun w => natLe 16 w.toNat)
    ++ c.str.flatMap (fun w => natLe 48 w.toNat) ++ c.v.flatMap VReg.bytes
  padTo (roundUp bs.length 64) bs

/-- Bits that say which slots are loaded. -/
def loadedMask (bs : List Bool) : Nat :=
  (List.range bs.length).foldl (fun acc i => acc + b2n (bs.getD i false) * 2 ^ i) 0

/-- The slot area of a crew (R85). -/
def Crew.slotArea (k : Crew) : List Byte :=
  natLe 8 (loadedMask (k.tl.map (·.loaded)) + loadedMask (k.cb.map (·.loaded)) * 2 ^ 8
      + loadedMask (k.ch.map (·.loaded)) * 2 ^ 16)
    ++ k.ch.flatMap (fun h => natLe 1 h.ops.length) ++ natLe 8 0
    ++ k.tl.flatMap (fun t => padTo 128 (t.words.flatMap (fun w => natLe 8 w.toNat) ++ natLe 4 t.progress))
    ++ k.cb.flatMap (fun b => b.entries.flatMap (fun e => natLe 2 e.toNat))
    ++ k.ch.flatMap (fun h => padTo 64 (h.ops.flatMap (fun w => natLe 4 w.toNat)))

/-! ### Loading -/

/-- `n` bytes of a string from an offset on, as a number. -/
def numAt (bs : List Byte) (off n : Nat) : Nat := leNat ((bs.drop off).take n)

/-- Word of eight bytes at an offset. -/
def dwordAt (bs : List Byte) (off : Nat) : DWord := BitVec.ofNat 64 (numAt bs off 8)

/-- The tags of a record. -/
def recordTags (bs : List Byte) (n : Nat) : List Nat :=
  (List.range n).map (fun i => numAt bs (104 + i / 4) 1 / 4 ^ (i % 4) % 4)

/-- A reserved-zero bit of the record's header is set (R294, R368). -/
def headBad (bs : List Byte) : Bool := numAt bs 96 8 / 32 % 2 ^ 11 != 0 || numAt bs 168 88 / 256 != 0

/-- The record's stack count is above 16 (R294, R368). -/
def countBad (bs : List Byte) : Bool := decide (Config.onChip < numAt bs 96 1 % 32)

/-- A tag of the record is 3 (R294, R368). -/
def tagBad (bs : List Byte) : Bool := (recordTags bs 256).contains 3

/-- The V registers from their packed bytes. -/
def vFrom (bs : List Byte) (w : Nat) : List Nat → Nat → List VReg
  | [], _ => []
  | t :: rest, off =>
    let word (o : Nat) : Word := BitVec.ofNat 32 (numAt bs o 4)
    let v : VReg := match t with
      | 0 => .u (word off)
      | 1 => .a (word off) (word (off + 4))
      | _ => .g ((List.range w).map (fun j => word (off + 4 * j)))
    v :: vFrom bs w rest (off + tagSize w t)

/-- The coach with the registers, masks and stack of a record (R294); the group slots and the depth of a
record are a save slot's only. R368 calls the registers of a record of another image, or of other declared counts,
undefined: the model takes the bytes at the pointer by the running image's layout (DESIGN CHOICE, log 88). -/
def Coach.loadRecord (c : Coach) (bs : List Byte) : Coach :=
  let nX := c.x.length
  let nP := c.p.length
  let nS := c.str.length
  let oP := recordHeadSize + 8 * nX
  let oS := oP + 16 * nP
  let count := min Config.onChip (numAt bs 96 1 % 32)
  { c with
    pc := dwordAt bs 0, mode := dwordAt bs 8, cstat := dwordAt bs 16, mxs := dwordAt bs 24
    cm := dwordAt bs 32 &&& c.lanes, ex := dwordAt bs 40 &&& c.lanes, rpc := dwordAt bs 48
    al := (List.range 4).map (fun i => dwordAt bs (56 + 8 * i) &&& c.lanes)
    stack := ((List.range count).map (fun i => entryOf ((bs.drop (256 + 32 * i)).take 32))).reverse
    depth := count
    m := (List.range 8).map (fun i => dwordAt bs (768 + 8 * i) &&& c.lanes)
    x := (List.range nX).map (fun i => dwordAt bs (recordHeadSize + 8 * i))
    p := (List.range nP).map (fun i => BitVec.ofNat 128 (numAt bs (oP + 16 * i) 16))
    str := (List.range nS).map (fun i => BitVec.ofNat 384 (numAt bs (oS + 48 * i) 48))
    v := vFrom bs c.width (recordTags bs c.v.length) (oS + 48 * nS)
    lor := [none, none, none] }

/-- The slots of a crew from a slot area (R85, R363). -/
def Crew.loadSlots (k : Crew) (bs : List Byte) : Crew :=
  let mask := numAt bs 0 8
  { k with
    tl := (List.range 8).map (fun i =>
      let o := 32 + 128 * i
      let w := numAt bs (o + 96) 4
      { loaded := mask.testBit i, words := (List.range 12).map (fun j => dwordAt bs (o + 8 * j))
        busy := w.testBit 31, own := w / 2 ^ 27 % 16, lines := w % 2 ^ 27, command := 0, trapped := false })
    cb := (List.range 8).map (fun i =>
      { loaded := mask.testBit (8 + i)
        entries := (List.range 16).map (fun j => BitVec.ofNat 16 (numAt bs (1056 + 32 * i + 2 * j) 2)) })
    ch := (List.range 16).map (fun i =>
      { loaded := mask.testBit (16 + i)
        ops := (List.range (min 16 (numAt bs (8 + i) 1))).map (fun j =>
          BitVec.ofNat 32 (numAt bs (1312 + 64 * i + 4 * j) 4)) }) }

/-! ### SAVEC and RESTC (R294) -/

/-- Elements of the first `n` bytes at a pointer register. -/
def rangeElems (c : Coach) (ptr n : Nat) (write : Bool) : List Elem :=
  let p := c.pr ptr
  (piecesOf (ptrBase p) n).map (fun q =>
    { lane := 0, ptr := ptr, p := p, off := (q.1 : Int) - (ptrBase p : Int), size := q.2, write := write })

/-- Read the first `n` bytes at a pointer register. -/
def State.readRange (s : State) (l : Launch) (c : Coach) (f : Fields) (ptr n : Nat) :
    Except Stop (List Byte × State) :=
  let es := rangeElems c ptr n false
  match s.loadElems l c f { lanes := false } 0 false es with
  | .error e => .error e
  | .ok (vs, s1) => .ok ((es.zip vs).flatMap (fun r => natLe r.1.size r.2), s1)

/-- Write bytes at a pointer register. -/
def State.writeRange (s : State) (l : Launch) (c : Coach) (ptr : Nat) (bs : List Byte) :
    Except Stop State :=
  match s.resolve l c { lanes := false, answered := !c.answers.isEmpty } (rangeElems c ptr bs.length true) with
  | .error t => .error (.trap t)
  | .ok rs =>
    if s.ownPending c rs then .error (.wait .remote s)
    else s.performStores l c (rs.map (fun r => (r, none, numAt bs r.1.off.toNat r.1.size)))

/-- OPERAND 0x0114 with the first failing requirement of R294. -/
def recordIf (b : Bool) (n : Nat) : Option Trap := operandIf b 0x0114 n

/-- The pointer requirement of R294, of a pointer that satisfies R87 (R354). -/
def recordPtrBad (l : Launch) (p : BitVec 128) : Bool :=
  ptrWellFormed l.scopeMax p && (ptrCls p != 0 || ptrFmt p != 0)

/-- A LEN below the record's size, of a pointer that satisfies R87 (R294, R354). -/
def recordLenBad (l : Launch) (p : BitVec 128) (n : Nat) : Bool := ptrWellFormed l.scopeMax p && decide (ptrLen p < n)

/-- Does a record of the coach meet poison (R397, R398)? -/
def State.coachPoisoned (s : State) (id : CoachId) : Bool :=
  s.poison.any (fun q => match q with
    | .register i _ _ => i == id
    | _ => false)

/-- SAVEC (R294): the record continues after the SAVEC with Xd = 1. -/
def execSavec (w0 : W0) (s : State) : Host.Outcome State Fault Refusal :=
  let f := Fields.of32 w0
  issue .savec f (fun s l c =>
    let d := f.d.toNat
    let r := ((c.setX d 1).advance f.len).recordBody
      ++ (match s.crewOf c with
          | some k => k.slotArea
          | none => [])
    let p := c.pr f.a.toNat
    checked
      [recordIf (decide (Config.onChip < c.depth)) 1, recordIf (recordPtrBad l p) 2,
        recordIf (recordLenBad l p r.length) 3] <| whenActive s c f
      (if s.coachPoisoned c.id then .error (.trap { cls := 11, code := 2 })
       else match s.writeRange l c f.a.toNat r with
        | .error e => .error e
        | .ok s1 => finish s1 (c.setX d 0).progress f)) s

/-- The coach that goes on from a loaded record: nothing that it waited for or had latched is left. -/
def State.goOnFrom (s : State) (c : Coach) : State :=
  let k := s.core c.core
  (s.setCore { k with latch := k.latch.map (fun e => match e with
    | some e => if e.owner == c.id then none else some e
    | none => none) }).setCoach { c with wait := .ready }

/-- RESTC (R294, R368). -/
def execRestc (w0 : W0) (s : State) : Host.Outcome State Fault Refusal :=
  let f := Fields.of32 w0
  issue .restc f (fun s l c =>
    let a := f.a.toNat
    let p := c.pr a
    checked
      [recordIf (decide (Config.onChip < c.depth)) 1, recordIf (recordPtrBad l p) 2,
        recordIf (recordLenBad l p recordHeadSize) 3] <| whenActive s c f
      (match s.readRange l c f a recordHeadSize with
      | .error e => .error e
      | .ok (head, _) =>
        let size := recordBodySize c.x.length c.p.length c.str.length c.width (recordTags head c.v.length)
        checked
          [recordIf (recordLenBad l p (size + slotAreaSize)) 3,
            recordIf (countBad head || headBad head || tagBad head) 4]
          (match s.readRange l c f a size with
          | .error e => .error e
          | .ok (bs, s1) => .ok (s1.goOnFrom (c.loadRecord bs))))) s

end Sys2Proof.Machine
end

