-- ==== Sys2Proof/Machine/Waybill.lean ====
section
/-! DEFINITION. What the launch scheduler checks when it takes a waybill: the context's descriptor (R323),
the waybill (R22, R33, R34, R43, R47), the kernel object with its post table (R106-R111, R119, R343), and
the waybill against the object (R46, R109). -/

namespace Sys2Proof.Machine

open Sys2Proof

/-! ### Contexts (R323) -/

/-- CTXBASE.EN. -/
def State.ctxEnabled (s : State) : Bool := bit s.window.ctxbase 0

/-- Address of a context's descriptor. -/
def State.descriptorAt (s : State) (k : BitVec 8) : Nat := bits s.window.ctxbase 51 14 * 2 ^ 14 + 64 * k.toNat

/-- A word of a context's descriptor. -/
def State.descriptor (s : State) (k : BitVec 8) (w : Nat) : Nat := s.read8 (s.descriptorAt k + 8 * w)

/-- A descriptor that maps addresses: readable, valid, and of the world that uses it. DESIGN CHOICE (log 93): its
reserved-zero bits are not looked at (R323). -/
def State.ctxValid (s : State) (k : BitVec 8) (sec : Bool) : Bool :=
  let w := s.descriptor k 0
  s.ctxEnabled && s.wordReadable (s.descriptorAt k) && w.testBit 0 && w.testBit 1 == sec

/-- A level-4 table at which every walk finds an invalid entry: that of a context without a valid
descriptor. -/
def noRoot : Nat := 2 ^ 57

/-- ROOT of a context (R92). -/
def State.ctxRoot (s : State) (k : BitVec 8) (sec : Bool) : Nat :=
  if s.ctxValid k sec then s.descriptor k 0 / 2 ^ 17 % 2 ^ 35 * 2 ^ 17 else noRoot

/-- A launch of a queue as its waybill gives it, before any check. -/
def State.newLaunch (s : State) (q : BitVec 6) (waybill : List DWord) : Launch :=
  let ctx := s.window.qctx.getD q.toNat 0
  let sec := (s.queue q).secure
  let w := s.descriptor ctx 1
  { q := q, waybill := waybill, header := [], posts := [], groups := [], ctx := ctx, sec := sec
    root := s.ctxRoot ctx sec, fctx := BitVec.ofNat 16 (w / 2 ^ 48), part := BitVec.ofNat 9 w
    phase := .taken, dies := 0, step := 0, stepsDone := 0, nextGang := 0, waitSince := s.time.toNat
    lastCluster := none, terminal := none, preempting := false, claim := none, nextReady := false, prefetched := false }

/-- The scheduler as a party of the launch's context. -/
def Launch.scheduler (l : Launch) : Party := l.party none

/-- Bytes as 64-bit words. -/
def wordsOf (bs : List Byte) : List DWord := (List.range (bs.length / 8)).map (fun i => dwordAt bs (8 * i))

/-! ### Stage 1: the waybill alone (R47) -/

/-- A reserved-zero bit of the waybill is set (R43). -/
def Launch.reservedSet (l : Launch) : Bool :=
  [(0, 63, 57), (2, 63, 34), (3, 63, 48), (5, 63, 57), (6, 63, 57), (7, 63, 57), (8, 63, 47), (9, 63, 57),
    (10, 63, 32), (11, 63, 5)].any (fun r => l.wb r.1 r.2.1 r.2.2 != 0)
    || (l.waybill.drop 24).any (· != 0)

/-- A field out of its range or alignment (R43). -/
def Launch.fieldBad (l : Launch) : Bool :=
  l.kobj % 256 != 0 || l.gridX == 0 || l.gridY == 0 || l.gridZ == 0 || l.maxDie == 0 || 8 < l.maxDie
    || l.minDie == 0 || l.maxDie < l.minDie || l.ctype == 3 || l.scratch % 16 != 0
    || l.wb 5 56 0 % 64 != 0 || l.spill % 32 != 0 || l.save % 4096 != 0 || 5 < l.scopeMax
    || l.saveSize % 4096 != 0 || l.done % 8 != 0

/-- An initial pointer that is not well formed (R87). -/
def Launch.pinitBad (l : Launch) : Bool :=
  !ptrWellFormed l.scopeMax (l.pinit 12) || !ptrWellFormed l.scopeMax (l.pinit 14)

/-- The gang shape breaks a rule of R22 that the core types alone decide. -/
def shapeBad (ctype crews coaches : Nat) : Bool :=
  match ctype with
  | 0 => 28 < crews
  | 1 => 4 < crews || 8 < coaches
  | _ => 28 < crews && 8 < coaches

/-- The status that a failed read gives a rejection: MACHINE for poison or a lost die (R351, R398, R407). -/
def Breach.status (b : Breach) (rejected : Nat) : Nat := if b.cls = 11 then 7 else rejected

/-- The group table's entries, or the status when it cannot be read (R33, R47). -/
def State.groupTable (s : State) (l : Launch) : Except Nat (List (BitVec 512)) :=
  match s.ctxRead l.scheduler (l.wb 5 56 0) (64 * l.ng) with
  | .error b => .error (b.status 1)
  | .ok bs => .ok ((List.range l.ng).map (fun g => BitVec.ofNat 512 (numAt bs (64 * g) 64)))

/-- A coach lies in more than four groups (R34). -/
def Launch.groupsBad (l : Launch) : Bool :=
  (List.range l.crewCount).any (fun w => (List.range l.coachCount).any (fun c =>
    decide (4 < (l.groupsOf w c).length)))

/-- Does the waybill alone break R47? -/
def Launch.waybillBad (l : Launch) : Bool :=
  l.reservedSet || l.fieldBad || l.pinitBad || shapeBad l.ctype l.crewCount l.coachCount

/-! ### Stage 2: the kernel object (R108, R119) -/

/-- Is an image present? -/
def Launch.present (l : Launch) (img : Nat) : Bool := l.imageLen img != 0

def Launch.objLen (l : Launch) : Nat := l.hd 15 31 0
def Launch.wcode (l : Launch) : Nat := l.hd 0 36 35
def Launch.cls (l : Launch) : Nat := l.hd 0 31 16
def Launch.nPost (l : Launch) : Nat := l.hd 6 47 32
def Launch.postOff (l : Launch) : Nat := l.hd 6 31 0
def Launch.gulen (l : Launch) : Nat := l.hd 9 63 32
def Launch.guoff (l : Launch) : Nat := l.hd 9 31 0

/-- A reserved-zero bit of the header is set (R106, R107). -/
def Launch.headerReserved (l : Launch) : Bool :=
  [(0, 63, 37), (4, 63, 26), (5, 63, 26), (6, 63, 48), (7, 63, 57), (8, 63, 40), (10, 63, 0), (11, 63, 0),
    (12, 63, 0), (13, 63, 0), (14, 63, 0), (15, 63, 32)].any (fun r => l.hd r.1 r.2.1 r.2.2 != 0)

/-- Register counts outside R65. -/
def Launch.countsBad (l : Launch) (img : Nat) : Bool :=
  l.nV img < 1 || 252 < l.nV img || l.nX img < 8 || 64 < l.nX img || l.nP img < 2 || 32 < l.nP img
    || 16 < l.nS img

/-- An image that is present breaks its offset, length, entry point or counts. Of an absent image R107 says that its count
word is 0 and R108 names no outcome of another: it is accepted (DESIGN CHOICE, log 88). -/
def Launch.imageBad (l : Launch) (img : Nat) : Bool :=
  l.present img && (l.imageLen img ≤ l.entry img || l.entry img % 4 != 0 || l.imageOff img % 256 != 0
    || l.objLen < l.imageOff img + l.imageLen img || l.countsBad img)

/-- The conditions of R108 that the header alone decides; an NPOST above 4,096 is among them (R106; log 83). R108 names no
outcome of a SCRMIN that is not a multiple of 16: it is accepted (DESIGN CHOICE, log 88). -/
def Launch.headerBad (l : Launch) : Bool :=
  let wain := l.present 0
  let gig := l.present 1
  l.hd 0 15 0 != 0xDA3E || l.wcode == 3 || l.headerReserved
    || (if l.twoImg then !(wain && gig) else wain == gig)
    || ((l.hd 0 33 33 == 1) != (l.gulen != 0))
    || l.imageBad 0 || l.imageBad 1
    || (l.gulen != 0 && (l.guoff % 256 != 0 || l.objLen < l.guoff + l.gulen))
    || (l.nPost != 0 && (l.postOff % 8 != 0 || 4096 < l.nPost || l.objLen < l.postOff + 24 * l.nPost))
    || (l.hd 0 32 32 == 1 && (l.wcode != 1 || l.cls != 2))
    || (l.cls == 1 && (l.wcode != 0 || l.hd 0 32 32 == 1))

/-- One post of the table: the entry's fields, its map's place, and whether R110 or R343 is broken. -/
structure RawPost where
  post : Post
  mapOff : Nat
  mapLen : Nat
  bad : Bool

/-- The status register and continuation point of an image in an entry (R110, R343). -/
def Launch.pointBad (l : Launch) (img st pc : Nat) : Bool :=
  if l.present img then l.nX img ≤ st || pc % 4 != 0 || l.imageLen img ≤ pc else st != 0 || pc != 0

/-- An entry of the post table (R110). -/
def Launch.rawPost (l : Launch) (bs : List Byte) : RawPost :=
  let f (o n : Nat) : Nat := numAt bs o n
  let id := f 0 2
  let n := f 2 2
  let p : Post := ⟨BitVec.ofNat 16 id, f 4 1, f 5 1, f 8 4, f 12 4, []⟩
  { post := p, mapOff := f 16 4, mapLen := n
    bad := id == 65535 || 1024 < n || f 6 2 != 0 || f 20 4 != 0 || f 16 4 % 4 != 0
      || l.pointBad 0 p.wst p.wpc || l.pointBad 1 p.gst p.gpc
      || (n != 0 && (!l.twoImg || id == 0xFFFE)) || (n != 0 && l.objLen < f 16 4 + 4 * n) }

/-- Declared registers of a kind of a state map (R111). -/
def Launch.kindCount (l : Launch) (img kind : Nat) : Nat := l.declared img kind

/-- An entry of a state map: kind, wain and gig register. -/
def mapEntry (bs : List Byte) : Nat × Nat × Nat := (numAt bs 2 1 % 8, numAt bs 0 1, numAt bs 1 1)

/-- A state map that breaks R111. -/
def Launch.mapBad (l : Launch) (p : Post) (bs : List Byte) (m : List (Nat × Nat × Nat)) : Bool :=
  (List.range m.length).any (fun i => numAt bs (4 * i) 4 / 2 ^ 19 != 0)
    || m.any (fun e => 4 < e.1 || l.kindCount 0 e.1 ≤ e.2.1 || l.kindCount 1 e.1 ≤ e.2.2
      || (e.1 == 1 && (e.2.1 == p.wst || e.2.2 == p.gst)))
    || (m.map (fun e => (e.1, e.2.1))).eraseDups.length != m.length
    || (m.map (fun e => (e.1, e.2.2))).eraseDups.length != m.length

/-- A post with its state map, or the status when the map is unreadable or breaks R110 or R111. -/
def State.fullPost (s : State) (l : Launch) (r : RawPost) : Except Nat Post :=
  if r.bad then .error 2
  else if r.mapLen = 0 then .ok r.post
  else
    match s.ctxRead l.scheduler (l.kobj + r.mapOff) (4 * r.mapLen) with
    | .error b => .error (b.status 2)
    | .ok bs =>
      let m := (List.range r.mapLen).map (fun i => mapEntry (bs.drop (4 * i)))
      if l.mapBad r.post bs m then .error 2 else .ok { r.post with map := m }

/-- The posts of raw entries. -/
def State.fullPosts (s : State) (l : Launch) : List RawPost → Except Nat (List Post)
  | [] => .ok []
  | r :: rest =>
    match s.fullPost l r, s.fullPosts l rest with
    | .ok p, .ok ps => .ok (p :: ps)
    | .error e, _ => .error e
    | _, .error e => .error e

/-- IDs that rise strictly (R110). -/
def idsRise : List Post → Bool
  | [] => true
  | p :: t => (match t with
      | [] => true
      | q :: _ => decide (p.id.toNat < q.id.toNat)) && idsRise t

/-- The posts of an object, or the status when the table is invalid (R108). -/
def State.postTable (s : State) (l : Launch) : Except Nat (List Post) :=
  if l.nPost = 0 then .ok []
  else
    match s.ctxRead l.scheduler (l.kobj + l.postOff) (24 * l.nPost) with
    | .error b => .error (b.status 2)
    | .ok bs =>
      match s.fullPosts l ((List.range l.nPost).map (fun i => l.rawPost ((bs.drop (24 * i)).take 24))) with
      | .error e => .error e
      | .ok ps => if idsRise ps then .ok ps else .error 2

/-- The launch with its header and posts, or the status of its rejection: BADOBJ (R47, R108, R119). -/
def State.readObject (s : State) (l : Launch) : Except Nat Launch :=
  match s.ctxRead l.scheduler l.kobj 128 with
  | .error b => .error (b.status 2)
  | .ok bs =>
    let l1 := { l with header := wordsOf bs }
    if l1.headerBad || !(l1.cls == 1 || l1.cls == 2) then .error 2
    else match s.postTable l1 with
      | .error e => .error e
      | .ok ps => .ok { l1 with posts := ps }

/-! ### Stage 3: the waybill against the object (R46, R109) -/

/-- CSLOT (R46). SCRATCH/128 is rounded up to whole bytes (log 81). -/
def Launch.crewSlot (l : Launch) : Nat :=
  roundUp (256 + l.scratch + (l.scratch + 127) / 128 + l.coachCount * l.crMax) 4096

/-- The core type that a CTYPE comes to with the images present (R109). -/
def Launch.effectiveType (l : Launch) : Nat :=
  if l.ctype = 2 then (if l.twoImg then 2 else if l.present 0 then 0 else 1) else l.ctype

/-- The waybill asks for what the object or R22 does not allow. -/
def Launch.requestBad (l : Launch) : Bool :=
  l.hd 7 56 52 + 1 < l.crewCount || l.hd 7 51 48 + 1 < l.coachCount || l.hd 8 7 0 + 1 < l.ng
    || l.scratch < l.hd 7 31 0 || l.spillCap < l.hd 7 47 32
    || (l.ctype == 0 && !l.present 0) || (l.ctype == 1 && !l.present 1)
    || shapeBad l.effectiveType l.crewCount l.coachCount
    || l.saveSize < 2048 + l.crewCount * l.crewSlot

/-- The launch that a waybill gives, or the status with which it is rejected: 1 BADWB, 2 BADOBJ (R47,
R351). -/
def State.checkLaunch (s : State) (l : Launch) : Except Nat Launch :=
  if l.waybillBad then .error 1
  else match s.groupTable l with
    | .error e => .error e
    | .ok gs =>
      let l1 := { l with groups := gs }
      if l1.groupsBad then .error 1
      else match s.readObject l1 with
        | .error e => .error e
        | .ok l2 => if l2.requestBad then .error 1 else .ok l2

end Sys2Proof.Machine
end

