-- ==== Sys2Proof/Machine/Runs.lean ====
section
/-! DEFINITION. Which runs of cores hold a gang (R9, R13, R22, R55, R324, R382), die sets (R56), and what no
run of the package can hold (R371). -/

namespace Sys2Proof.Machine

open Sys2Proof

/-! ### Cores -/

/-- Coaches that a core holds at most (R21). -/
def coachLimit (k : CoreId) : Nat := if coreGig k then 8 else 32

/-- Bytes of a core's vector register file (R11). -/
def vectorFile (k : CoreId) : Nat := if coreGig k then 131072 else 524288

/-- Bytes of vector registers that a crew of a launch takes on a core (R65). -/
def Launch.vectorBytes (l : Launch) (k : CoreId) : Nat := 4 * l.width * l.nV (imageFor k) * l.coachCount

/-- The crews on a core with their launches. -/
def State.crewsOn (s : State) (k : CoreId) : List (Crew × Launch) :=
  s.crews.filterMap (fun c => if c.core = k then (s.launch? c.q).map (fun l => (c, l)) else none)

/-- The sum of a number over a list. -/
def sumOf {α : Type} (f : α → Nat) (xs : List α) : Nat := xs.foldl (fun n x => n + f x) 0

/-- The lowest gap of `size` units between taken stretches, each with its first unit and its length. -/
def findGap (cap size : Nat) (rs : List (Nat × Nat)) : Option Nat :=
  let free (b : Nat) : Bool :=
    decide (b + size ≤ cap) && rs.all (fun r => decide (b + size ≤ r.1) || decide (r.1 + r.2 ≤ b))
  match (0 :: rs.map (fun r => r.1 + r.2)).filter free with
  | [] => none
  | b :: rest => some (rest.foldl min b)

/-- Where a crew's region would lie on a core; regions are multiples of 16 bytes long (R96). -/
def State.gapOn (s : State) (l : Launch) (k : CoreId) : Option Nat :=
  findGap (s.capacity k) l.scratch ((s.crewsOn k).map (fun r => (r.1.base, r.1.scratch)))

/-- Named barriers of a core (R35). -/
def coreBarriers : Nat := 256

/-- The first of the NG consecutive named barriers that a crew would get on a core: the lowest window that is free (R35;
log 92). -/
def State.windowOn (s : State) (l : Launch) (k : CoreId) : Option Nat :=
  findGap coreBarriers l.ng ((s.crewsOn k).map (fun r => (r.1.barrier, r.2.ng)))

/-- Cores of a run. -/
def Run.core (r : Run) (c : Nat) : CoreId := ⟨r.die, r.cluster, BitVec.ofNat 5 (r.first + c)⟩

/-- A core of a run that a granted migration of another gang reserves (R382). -/
def State.reservedFor (s : State) (q : BitVec 6) (g : Nat) (k : CoreId) : Bool :=
  s.gangs.any (fun h => !(h.q == q && h.index == g) && (match h.reserved, s.launch? h.q with
    | some r, some l => (List.range l.crewCount).any (fun c => r.core c == k)
    | _, _ => false))

/-- Does a core take a crew of a gang: healthy, of the queue's world, with room (R35, R55)? -/
def State.coreTakes (s : State) (l : Launch) (g : Nat) (k : CoreId) : Bool :=
  let cs := s.crewsOn k
  coreExists k && !s.dieLost k.die && !s.steward.withdrawn.contains k
    && s.steward.secureCores.contains k == l.sec && !s.reservedFor l.q g k
    && decide (sumOf (fun r => r.2.coachCount) cs + l.coachCount ≤ coachLimit k)
    && decide (sumOf (fun r => r.2.vectorBytes k) cs + l.vectorBytes k ≤ vectorFile k)
    && (s.windowOn l k).isSome && (s.gapOn l k).isSome

/-- A core of a type that CTYPE and the images allow (R22, R109). -/
def Launch.typeTakes (l : Launch) (k : CoreId) : Bool :=
  if coreGig k then l.ctype != 0 && l.present 1 && decide (l.coachCount ≤ 8)
  else l.ctype != 1 && l.present 0

/-! ### Runs -/

/-- Does a run take a gang whose crew c may go on the cores of which `ok c` holds? -/
def State.runTakes (s : State) (l : Launch) (g : Nat) (ok : Nat → CoreId → Bool) (r : Run) : Bool :=
  decide (r.first + l.crewCount ≤ 32)
    && (List.range l.crewCount).all (fun c =>
      l.typeTakes (r.core c) && ok c (r.core c) && s.coreTakes l g (r.core c))

/-- The run from a position of a cluster, numbered die × 6 + cluster. -/
def runAt (cl first : Nat) : Run := { die := BitVec.ofNat 3 (cl / 6), cluster := BitVec.ofNat 3 (cl % 6), first := first }

/-- The first run of a cluster that takes the gang (R55). -/
def State.runIn (s : State) (l : Launch) (g : Nat) (ok : Nat → CoreId → Bool) (cl : Nat) : Option Run :=
  ((List.range 32).map (runAt cl)).find? (s.runTakes l g ok)

/-- A cluster that the scheduler clears for a queue of a higher level (R54). -/
def State.claimed (s : State) (l : Launch) (cl : Nat) : Bool :=
  s.launches.any (fun m => m.claim == some cl && decide ((s.queue l.q).level < (s.queue m.q).level))

/-- The clusters of a launch's die set, in the order in which the dispatcher tries them (R55). DESIGN CHOICE (log 88): the
order goes by die, then by cluster, and round; a launch without a gang yet starts at the first. -/
def Launch.clusterOrder (l : Launch) : List Nat :=
  let start := match l.lastCluster with
    | some c => c + 1
    | none => 0
  ((List.range 48).map (fun i => (start + i) % 48)).filter (fun cl => l.dies.getLsbD (cl / 6))

/-- The run on which a gang goes next, in a cluster that `clusterOk` holds of. -/
def State.findRun (s : State) (l : Launch) (g : Nat) (ok : Nat → CoreId → Bool) (clusterOk : Nat → Bool) :
    Option Run :=
  (l.clusterOrder.filter (fun cl => clusterOk cl && !s.claimed l cl)).findSome? (s.runIn l g ok)

/-- Any core. -/
def anyCore : Nat → CoreId → Bool := fun _ _ => true

/-- The crews of a gang on a run, with their regions and their windows of named barriers. -/
def State.addCrews (s : State) (l : Launch) (g : Nat) (r : Run) (stamp : Nat) : State :=
  (List.range l.crewCount).foldl (fun s c =>
    let k := r.core c
    match s.gapOn l k, s.windowOn l k with
    | some b, some w => s.setCrew (l.newCrew g c k b (s.upperPresent k) stamp w)
    | _, _ => s) s

/-! ### Die sets (R56) -/

/-- The dies that have not been lost. -/
def State.healthy (s : State) : List Nat := (List.range 8).filter (fun d => s.steward.healthyDies.getLsbD d)

/-- Running launches, other than one, that use a die. -/
def State.dieUsers (s : State) (q : BitVec 6) (d : Nat) : Nat :=
  (s.launches.filter (fun l => l.q != q && l.phase == .running && l.terminal.isNone && l.dies.getLsbD d)).length

/-- Insert a die by uses, then by the internal order. -/
def insertDie (key : Nat → Nat × Nat) (d : Nat) : List Nat → List Nat
  | [] => [d]
  | e :: t =>
    if (key d).1 < (key e).1 ∨ ((key d).1 = (key e).1 ∧ (key d).2 < (key e).2) then d :: e :: t
    else e :: insertDie key d t

/-- The die set of a launch: the MAXDIE healthy dies that the fewest running launches use. -/
def State.chooseDies (s : State) (l : Launch) : BitVec 8 :=
  let sorted := s.healthy.foldr (insertDie (fun d => (s.dieUsers l.q d, Config.dieRank d))) []
  (sorted.take l.maxDie).foldl (fun m d => m ||| BitVec.ofNat 8 (2 ^ d)) 0

/-- A die enters a launch's die set: its bit in TDIES is set (R56, R323). -/
def State.touchDies (s : State) (l : Launch) (dies : BitVec 8) : State :=
  if s.ctxEnabled then
    let b : Byte := BitVec.ofNat 8 (s.tdies l.ctx)
    if b ||| dies = b ∨ !s.wordReadable (s.descriptorAt l.ctx) then s
    else s.lunathWrite none (s.descriptorAt l.ctx + 12) [b ||| dies]
  else s

/-! ### What no run can hold (R371) -/

/-- The package with every core idle. -/
def State.idle (s : State) : State := { s with crews := [], gangs := [], launches := [] }

/-- Gangs of a launch, at most `fuel`, that fit one cluster of an idle package together. -/
def State.clusterHolds (s : State) (l : Launch) (cl : Nat) : Nat → Nat → Nat
  | 0, n => n
  | fuel + 1, n =>
    match s.runIn l n anyCore cl with
    | none => n
    | some r => ((s.setLaunch l).addCrews l n r 0).clusterHolds l cl fuel (n + 1)

/-- Gangs of a launch that a die holds together when idle. -/
def State.dieHolds (s : State) (l : Launch) (fuel d : Nat) : Nat :=
  sumOf (fun c => s.idle.clusterHolds l (6 * d + c) fuel 0) (List.range 6)

/-- Insert a number, the greatest first. -/
def insertDown (n : Nat) : List Nat → List Nat
  | [] => [n]
  | m :: t => if m ≤ n then n :: m :: t else m :: insertDown n t

/-- Gangs that the MAXDIE roomiest healthy dies hold together when idle. -/
def State.diesHold (s : State) (l : Launch) (fuel : Nat) : Nat :=
  sumOf id (((s.healthy.map (s.dieHolds l fuel)).foldr insertDown []).take l.maxDie)

/-- More gangs than a cluster could ever hold. -/
def gangFuel : Nat := 1025

/-- RES (R371): no run of the dies that are healthy takes the gang, or they cannot take a step with COR = 1 at once
(log 70). -/
def State.tooLarge (s : State) (l : Launch) : Bool :=
  decide (s.diesHold l 1 = 0) || (l.cor && decide (s.diesHold l gangFuel < l.gangCount))

end Sys2Proof.Machine
end

