-- ==== Sys2Proof/Machine/Scheduler.lean ====
section
/-! DEFINITION. The launch scheduler: taking a waybill, starting, placing, the ends of steps and launches, and
the prefetch of the next kernel (R38, R44, R47, R48, R51, R53, R55-R57, R350). -/

namespace Sys2Proof.Machine

open Sys2Proof

/-! ### The end of a launch (R48, R52) -/

/-- Stop a queue (R52). -/
def State.stopQueue (s : State) (q : BitVec 6) : State :=
  (s.setQueue q { s.queue q with err := true }).raiseIrq 16

/-- The completion word (R48). -/
def Launch.completionWord (l : Launch) (status : Nat) : Nat :=
  l.seq * 2 ^ 32 + l.stepsDone % 2 ^ 16 * 2 ^ 16 + status % 256

/-- Write the completion word; one that cannot be written stops the queue (R48). -/
def State.writeCompletion (s : State) (l : Launch) (status : Nat) : State :=
  if l.done % 8 ≠ 0 then s.stopQueue l.q
  else match s.ctxWrite l.scheduler l.done (natLe 8 (l.completionWord status)) with
    | .error _ => s.stopQueue l.q
    | .ok s1 => s1

/-- Every dirty copy that a die's L2 holds of another die's line is written back (R38, R48, R303). -/
def State.writeBackAll (s : State) : State := s.remote.foldl (fun s r => s.writeBack r.line) s

/-- End a launch with a status, once its writes are performed at package scope (R48, R322). -/
def State.complete (s : State) (l : Launch) (status : Nat) : State :=
  let s1 := s.writeBackAll.writeCompletion l status
  let s2 := if l.irqe then s1.raiseIrq l.irqv else s1
  ({ s2 with launches := s2.launches.filter (fun m => m.q != l.q) } : State).settlePreempt

/-! ### TAKE_WAYBILL (R47, R51, R371) -/

/-- May the scheduler take the queue's next waybill (R50-R52)? -/
def State.mayTake (s : State) (q : BitVec 6) : Bool :=
  let u := s.queue q
  u.enabled && !u.err && !s.queueAddrBad u && (s.launch? q).isNone && decide (u.qcons.toNat < u.seen.toNat)

/-- Lunath address of waybill k of a queue (R50). -/
def Queue.waybillAt (u : Queue) (k : Nat) : Nat := u.qbase.toNat + 256 * (k % u.size)

/-- The 32 words of a waybill in Lunath, after the stashes have given up their copies of it and of the context's
descriptor (R99). -/
def State.takeWords (s : State) (q : BitVec 6) (a : Nat) : List DWord × State :=
  let s0 := s.recall (s.descriptorAt (s.window.qctx.getD q.toNat 0) / 128) true
  let s1 := (s0.recall (a / 128) true).recall (a / 128 + 1) true
  (wordsOf (s1.homeBytes none a 128 ++ s1.homeBytes none (a + 128) 128), s1)

/-- Can a waybill be read from its ring? -/
def State.ringReadable (s : State) (a : Nat) : Bool := s.wordReadable a && s.wordReadable (a + 128)

/-- TAKE_WAYBILL (R51): the launch is taken, or rejected with a status (R47, R371). A waybill that cannot be read, on a lost
die or poisoned, stops the queue (log 90). -/
def execTakeWaybill (q : BitVec 6) (s : State) : Host.Outcome State Fault Refusal :=
  if !s.mayTake q then .next s
  else
    let u := s.queue q
    if !s.ringReadable (u.waybillAt u.qcons.toNat) then .next (s.stopQueue q)
    else match s.takeWords q (u.waybillAt u.qcons.toNat) with
    | (ws, s0) =>
      let s1 := s0.setQueue q { u with qcons := u.qcons + 1 }
      let l := s1.newLaunch q ws
      match s1.checkLaunch l with
      | .error status => .next (s1.complete l status)
      | .ok l1 => .next (if s1.tooLarge l1 then s1.complete l1 3 else s1.setLaunch l1)

/-! ### LAUNCH_START (R56) -/

/-- May a taken launch start? -/
def State.mayStart (s : State) (l : Launch) : Bool :=
  l.phase == .taken && l.terminal.isNone && decide (l.minDie ≤ s.healthy.length)

/-- LAUNCH_START (R56): the die set is chosen, and its dies are touched. -/
def execLaunchStart (q : BitVec 6) (s : State) : Host.Outcome State Fault Refusal :=
  match s.launch? q with
  | none => .next s
  | some l =>
    if !s.mayStart l then .next s
    else
      let dies := s.chooseDies l
      .next ((s.touchDies l dies).mapLaunch q (fun l =>
        { l with phase := .running, dies := dies, waitSince := s.time.toNat }))

/-! ### PLACE_GANG (R44, R53, R55) -/

/-- May gangs of a launch be placed or resumed? -/
def Launch.placing (l : Launch) : Bool := l.phase == .running && l.terminal.isNone && !l.preempting

/-- The run on which the launch's next gang goes, if one is free. -/
def State.placement (s : State) (l : Launch) : Option Run :=
  if l.placing && decide (l.nextGang < l.gangCount) then s.findRun l l.nextGang anyCore (fun _ => true)
  else none

/-- The non-synchronising copies of cores and of the L2s of dies, as a step boundary drops them (R303). -/
def State.dropPrivate (s : State) (core : CoreId → Bool) (die : BitVec 3 → Bool) : State :=
  { s with
    cores := s.cores.map (fun k =>
      if core k.id then { k with copies := k.copies.filter (·.lease.isSome), host := [] } else k)
    dies := s.dies.map (fun d => if die d.id then { d with copies := [] } else d) }

/-- A core as a gang finds it at placement: what was released at package scope is visible, and no copy is left from
before an earlier step boundary (R301, R303). -/
def State.wakeCore (s : State) (k : CoreId) : State :=
  ((s.dropPrivate (· == k) (· == k.die)).setCore ((s.dropPrivate (· == k) (· == k.die)).core k)).acquirePackage k

/-- The region of a new crew: no byte written, every granule empty (R96, R101). -/
def State.freshRegion (s : State) (k : Crew) : State :=
  let c := s.core k.core
  s.setCore { c with
    cells := c.cells.filter (fun e => !(decide (k.base ≤ e.1) && decide (e.1 < k.base + k.scratch)))
    full := c.full.filter (fun g => !(decide (k.base / 16 ≤ g) && decide (g < (k.base + k.scratch) / 16))) }

/-- The crews of a gang on a run, their cores awake and their regions fresh. -/
def State.settleCrews (s : State) (l : Launch) (g : Nat) (r : Run) : State :=
  let s1 := s.addCrews l g r s.fresh
  (s1.crews.filter (fun k => k.q == l.q && k.gang == g)).foldl
    (fun s k => (s.wakeCore k.core).freshRegion k) s1

/-- The identities of a gang's coaches. -/
def Launch.coachIds (l : Launch) (g : Nat) : List CoachId :=
  (List.range l.crewCount).flatMap (fun w => (List.range l.coachCount).map (fun c => ⟨l.q, g, w, c⟩))

/-- A queue has been offered a run (R53). -/
def State.offer (s : State) (q : BitVec 6) : State :=
  { s with offered := s.offered.set (s.queue q).level q }

/-- Is the next waybill of an enabled queue published (R50, R57)? -/
def State.nextPublished (s : State) (q : BitVec 6) : Bool :=
  let u := s.queue q
  u.enabled && !u.err && decide (u.qcons.toNat < u.seen.toNat)

/-- A gang on a run, with every coach at its entry point (R44). The first gang of a step starts its placement: whether the
next waybill is published by then is noted for the prefetch (R57). -/
def State.placeGang (s : State) (l : Launch) (g : Nat) (r : Run) : State :=
  let s1 := s.settleCrews l g r
  let s2 := (l.coachIds g).foldl
    (fun s id => s.setCoach (l.newCoach id (r.core id.crew) s.cycles)) s1
  let s3 := s2.setGang
    { q := l.q, index := g, step := l.step, run := r, placedAt := s.fresh, status := .resident, parity := 0
      atPost := false, reserved := none, waitSince := s.time.toNat, side := [], image := [] }
  (s3.setLaunch { l with
    nextGang := g + 1, nextReady := if g = 0 then s.nextPublished l.q else l.nextReady
    lastCluster := some (r.die.toNat * 6 + r.cluster.toNat), claim := none }).offer l.q

/-- PLACE_GANG (R55). -/
def execPlaceGang (q : BitVec 6) (gang : Nat) (s : State) : Host.Outcome State Fault Refusal :=
  match s.launch? q with
  | none => .next s
  | some l =>
    if gang ≠ l.nextGang then .next s
    else match s.placement l with
      | none => .next s
      | some r => .next (s.placeGang l gang r)

/-! ### STEP_RETIRE and COMPLETION_WORD_WRITE (R38, R48, R56, R303) -/

/-- Has every gang of the launch's step retired? -/
def State.stepOver (s : State) (l : Launch) : Bool :=
  l.phase == .running && l.terminal.isNone && decide (l.gangCount ≤ l.nextGang)
    && s.gangs.all (fun g => g.q != l.q)

/-- At a step boundary every L2 writes back and drops its remote copies, and the cores of the die set, before it and
after it, drop their non-synchronising copies (R303). -/
def State.stepBoundary (s : State) (dies : BitVec 8) : State :=
  s.writeBackAll.dropPrivate (fun k => dies.getLsbD k.die.toNat) (fun _ => true)

/-- Does STEPMARK let the die set change before a step (R43, R56)? -/
def Launch.stepMarked (l : Launch) (n : Nat) : Bool := bit (l.waybill.getD 4 0) n

/-- STEP_RETIRE (R38): the next step may be placed, on the die set chosen anew where it is marked, or the
launch ends. -/
def execStepRetire (q : BitVec 6) (s : State) : Host.Outcome State Fault Refusal :=
  match s.launch? q with
  | none => .next s
  | some l =>
    if !s.stepOver l then .next s
    else
      let more (l : Launch) : Launch := { l with stepsDone := l.stepsDone + 1, claim := none }
      if l.step + 1 < l.steps then
        let dies := if l.stepMarked (l.step + 1) then s.chooseDies l else l.dies
        .next (((s.stepBoundary (l.dies ||| dies)).touchDies l dies).mapLaunch q (fun l =>
          { more l with step := l.step + 1, nextGang := 0, dies := dies, waitSince := s.time.toNat }))
      else .next ((s.stepBoundary l.dies).mapLaunch q (fun l => { more l with phase := .ending }))

/-- Is the completion word of a launch due: every step has retired, and every access of its coaches is performed (R48)? -/
def State.wordDue (s : State) (l : Launch) : Bool :=
  l.phase == .ending && l.terminal.isNone && s.requests.all (fun r => r.coach.q != l.q)

/-- COMPLETION_WORD_WRITE (R48): the L2s write back first, and a launch that this write-back ends (R398) is discarded
instead (R350). -/
def execCompletionWordWrite (q : BitVec 6) (s : State) : Host.Outcome State Fault Refusal :=
  match s.launch? q with
  | none => .next s
  | some l =>
    if !s.wordDue l then .next s
    else
      let s1 := s.writeBackAll
      .next (if (s1.launch? q).any (·.terminal.isSome) then s1 else s1.complete l 0)

/-! ### LAUNCH_DISCARD (R350) -/

/-- Write back what a crew's stash can give, and drop its lines. -/
def State.salvageStash (s : State) (k : Crew) : State :=
  k.lines.foldl (fun s l => match s.crew? k.q k.gang k.crew with
    | some k1 => if (s.writeBackTrap k1 [l]).isSome then s else s.returnLine k1 l false
    | none => s) s

/-- Take a launch's gangs from their cores, those of pre-empted gangs included. -/
def State.dropGangs (s : State) (q : BitVec 6) : State :=
  let s1 := (s.crews.filter (fun k => k.q == q)).foldl (fun s k => s.salvageStash k) s
  let s2 := (s.gangs.filter (fun g => g.q == q)).foldl (fun s g => s.freeGang q g.index) s1
  { s2 with gangs := s2.gangs.filter (fun g => g.q != q) }

/-- Write the terminal record; the status becomes MACHINE when it cannot be written (R346, R351). -/
def State.writeTerminal (s : State) (l : Launch) (t : Terminal) : State × Nat :=
  match t.record with
  | none => (s, t.status)
  | some r =>
    match s.ctxWrite l.scheduler l.fa r with
    | .error _ => (s, 7)
    | .ok s1 => (s1, t.status)

/-- LAUNCH_DISCARD (R350): the launch's gangs are dropped, then the terminal record and the completion word are
written. -/
def execLaunchDiscard (q : BitVec 6) (s : State) : Host.Outcome State Fault Refusal :=
  match s.launch? q with
  | none => .next s
  | some l =>
    match l.terminal with
    | none => .next s
    | some t =>
      match (s.dropGangs q).writeTerminal l t with
      | (s1, status) => .next (s1.complete l status)

/-! ### KERNEL_PREFETCH (R57) -/

/-- Is the next kernel due to be prefetched: the launch's last step has started placement, when the next waybill was
already published (R57)? -/
def State.prefetchDue (s : State) (l : Launch) : Bool :=
  !l.prefetched && l.phase == .running && l.terminal.isNone && decide (l.steps ≤ l.step + 1)
    && decide (0 < l.nextGang) && l.nextReady && s.nextPublished l.q

/-- Bytes of an image that are prefetched. -/
def prefetchBytes : Nat := 8192

/-- The words of an image's first 8 KiB that can be fetched. -/
def State.prefetchWords (s : State) (l : Launch) (img : Nat) : List (Nat × Word) :=
  (List.range (min prefetchBytes (l.imageLen img) / 4)).filterMap (fun i =>
    match s.translateFetch l.scheduler (l.imageBase img + 4 * i) with
    | .ok (.lunath a) => some (fetchKey (.lunath a), s.wordAt none (.lunath a))
    | _ => none)

/-- KERNEL_PREFETCH (R57). -/
def execKernelPrefetch (q : BitVec 6) (s : State) : Host.Outcome State Fault Refusal :=
  match s.launch? q with
  | none => .next s
  | some l =>
    if !s.prefetchDue l then .next s
    else
      let u := s.queue q
      if !s.ringReadable (u.waybillAt u.qcons.toNat) then .next (s.setLaunch { l with prefetched := true })
      else match s.takeWords q (u.waybillAt u.qcons.toNat) with
      | (ws, s0) =>
        let n := s0.newLaunch q ws
        let s1 := s0.mapLaunch q (fun l => { l with prefetched := true })
        match s1.ctxRead n.scheduler n.kobj 128 with
        | .error _ => .next s1
        | .ok bs =>
          let n1 := { n with header := wordsOf bs }
          let part (gig : Bool) : Prefetch := { dies := l.dies, gig := gig, words := s1.prefetchWords n1 (b2n gig) }
          let allowed (gig : Bool) : Bool := n1.present (b2n gig) && n1.ctype != b2n (!gig)
          .next { s1 with prefetch := ([false, true].filter allowed).map part ++ s1.prefetch }

end Sys2Proof.Machine
end

