-- ==== Sys2Proof/Machine/Queues.lean ====
section
/-! DEFINITION. Host writes of the configuration window (R49, R50, R321), and the senders of the decoupled
queues (R59, R60, R374). -/

namespace Sys2Proof.Machine

open Sys2Proof

/-! ### Launch queues (R49, R50, R52, R324) -/

/-- What the host's writes change: nothing while the package does not run. -/
def State.ifUp (s t : State) : Host.Outcome State Fault Refusal := .next (if s.powered && s.booted then t else s)

/-- Is the host's port gone: the I/O die has failed, and no firmware image has been accepted since (R409)? -/
def State.ioDown (s : State) : Bool := s.steward.hostDown && !s.booted

/-- What the host's writes of the mailbox and the aperture change: with power on, before boot too, since a firmware image
arrives by them, but not after the I/O die's failure (R325, R409). -/
def State.ifPowered (s t : State) : Host.Outcome State Fault Refusal := .next (if s.powered && !s.ioDown then t else s)

/-- Field bits of QCFG (R49). -/
def qcfgMask : DWord := 0x1FF#64

/-- A queue that has just been enabled: QCONS is 0 and the watch list holds its publish word (R50). -/
def State.enableQueue (s : State) (q : BitVec 6) : State :=
  let u := s.queue q
  let s1 := s.setQueue q { u with qcons := 0, seen := BitVec.ofNat 64 (s.read8 u.qpub.toNat) }
  if s.queueAddrBad u || !s.wordReadable u.qpub.toNat then s1.stopQueue q
  else if 2 ^ (bits u.qcfg 3 0) < s.read8 u.qpub.toNat then s1.stopQueue q
  else s1

/-- Is a launch of a queue active: QSTAT.RUN (R49)? -/
def State.queueRuns (s : State) (q : BitVec 6) : Bool := (s.launch? q).isSome

/-- QCFG after a host write: QWORLD stays while a launch runs, since the world of a block changes only while it is idle
(R49, R324). DESIGN CHOICE (log 93): its reserved-zero bits are dropped. -/
def State.qcfgAfter (s : State) (q : BitVec 6) (value : DWord) : DWord :=
  if s.queueRuns q then (value &&& qcfgMask &&& ~~~(0x80#64)) ||| ((s.queue q).qcfg &&& 0x80#64) else value &&& qcfgMask

/-- QCFG_WRITE (R49, R50): the host does not write the registers of a secure queue (R324). -/
def execQcfgWrite (q : BitVec 6) (value : BitVec 64) (s : State) : Host.Outcome State Fault Refusal :=
  let u := s.queue q
  let s1 := s.setQueue q { u with qcfg := s.qcfgAfter q value }
  s.ifUp (if u.secure then s else if bit value 8 && !u.enabled then s1.enableQueue q else s1)

/-- QSTAT_WRITE (R49, R52): ERR is cleared; a publish word that is still not valid stops the queue again. -/
def execQstatWrite (q : BitVec 6) (value : BitVec 64) (s : State) : Host.Outcome State Fault Refusal :=
  let u := s.queue q
  let v := s.read8 u.qpub.toNat
  let s1 := s.setQueue q { u with err := false, seen := BitVec.ofNat 64 v }
  s.ifUp (if u.secure || !bit value 0 then s
    else if u.enabled && !s.queueAddrBad u
      && (decide (v < u.qcons.toNat) || decide (u.qcons.toNat + u.size < v) || !s.wordReadable u.qpub.toNat)
    then s1.stopQueue q else s1)

/-- Address bits of QBASE and QPUB. -/
def addrMask : DWord := 0x01FFFFFFFFFFFFFF#64

/-- A write of a queue's register block: QBASE and QPUB have no behaviour of their own (R49). DESIGN CHOICE (log 88): with
QEN = 1 the scheduler goes on from the publish count that it has seen, until the word is written or ERR is cleared
(R50). DESIGN CHOICE (log 93): reserved-zero bits are dropped. -/
def State.writeQueueReg (s : State) (q : BitVec 6) (off : Nat) (value : DWord) : State :=
  let u := s.queue q
  if u.secure then s
  else match off with
    | 0x00 => s.setQueue q { u with qbase := value &&& addrMask }
    | 0x10 => s.setQueue q { u with qpub := value &&& addrMask }
    | _ => s

/-- A register of a queue's block as the host reads it (R49). -/
def State.queueReg (s : State) (q : BitVec 6) (off : Nat) : DWord :=
  let u := s.queue q
  match off with
  | 0x00 => u.qbase
  | 0x08 => u.qcfg
  | 0x10 => u.qpub
  | 0x18 => u.qcons
  | 0x20 => BitVec.ofNat 64 (b2n u.err + 2 * b2n (s.queueRuns q))
  | _ => 0

/-- A register of the configuration window as the host reads it, at an offset that is a multiple of 8; a hole reads 0,
and everything all ones after the I/O die's failure (R49, R321, R409). -/
def State.windowReg (s : State) (o : Nat) : DWord :=
  let w := s.window
  if s.ioDown then BitVec.allOnes 64
  else if o = 0x00 then BitVec.ofNat 64 (2 + w.rev.toNat * 2 ^ 16)
  else if o = 0x08 then w.pkgno.setWidth 64
  else if o = 0x10 then w.fbackoff
  else if o = 0x18 then w.ftmo
  else if o = 0x20 then w.ctxbase
  else if o = 0x28 then w.podbase
  else if o = 0x30 then BitVec.ofNat 64 (w.preemptQ.toNat + b2n w.preemptGo * 2 ^ 8 + b2n w.preemptDone * 2 ^ 9)
  else if o = 0x38 then w.irqstat
  else if o = 0x40 then w.apbase
  else if 0x10000 ≤ o ∧ o < 0x11000 then s.queueReg (BitVec.ofNat 6 ((o - 0x10000) / 0x40)) (o % 0x40)
  else if 0x11000 ≤ o ∧ o < 0x11200 then (w.qctx.getD ((o - 0x11000) / 8) 0).setWidth 64
  else if 0x40000 ≤ o ∧ o < 0x41000 then
    BitVec.ofNat 64 (leNat ((List.range 8).map (fun i => (cellAt w.mailbox (o - 0x40000 + i)).getD 0)))
  else 0

/-- A write of the mailbox by the host (R321, R325). -/
def State.writeMailbox (s : State) (o : Nat) (value : DWord) : State :=
  { s with window := { s.window with mailbox := putCells s.window.mailbox o (natLe 8 value.toNat) } }

/-- CONFIG_REGISTER_WRITE (R321): registers of the steward, read-only ones and holes ignore the write. DESIGN CHOICE
(log 93): a write keeps the bits that the register has, and drops its reserved-zero bits. -/
def execConfigRegisterWrite (off : BitVec 24) (value : BitVec 64) (s : State) :
    Host.Outcome State Fault Refusal :=
  let w := s.window
  let o := off.toNat
  if o % 8 = 0 ∧ 0x40000 ≤ o ∧ o < 0x41000 then s.ifPowered (s.writeMailbox (o - 0x40000) value)
  else s.ifUp
    (if o % 8 ≠ 0 then s
     else if o = 0x10 then { s with window := { w with fbackoff := value &&& 0xFFFFF3FF#64 } }
     else if o = 0x18 then { s with window := { w with ftmo := value &&& 0x3FFF#64 } }
     else if o = 0x20 then { s with window := { w with ctxbase := value &&& 0x000FFFFFFFFFC001#64 } }
     else if o = 0x40 then { s with window := { w with apbase := value &&& 0xF#64 } }
     else if 0x10000 ≤ o ∧ o < 0x11000 then
       s.writeQueueReg (BitVec.ofNat 6 ((o - 0x10000) / 0x40)) (o % 0x40) value
     else if 0x11000 ≤ o ∧ o < 0x11200 then
       { s with window := { w with qctx := w.qctx.set ((o - 0x11000) / 8) (value.setWidth 8) } }
     else s)

/-- IRQSTAT_WRITE (R321): causes are cleared by writing 1. -/
def execIrqstatWrite (value : BitVec 64) (s : State) : Host.Outcome State Fault Refusal :=
  s.ifUp { s with window := { s.window with irqstat := s.window.irqstat &&& ~~~value } }

/-! ### Responses (R319, R395, R401) -/

/-- Does a request await data for its instruction? -/
def Request.brings (r : Request) : Bool := r.kind == 0 || r.kind == 2

/-- Is a request a read? -/
def Request.reads (r : Request) : Bool := r.kind == 0 || r.kind == 3

/-- The coach of a request when its response has come: the bytes are kept for its instruction. A store or atomic that was
performed is progress (R376). -/
def Coach.answered (c : Coach) (r : Request) (bytes : List Byte) (fto : Bool) : Coach :=
  { c with
    answers := if r.brings && !r.held then c.answers ++ [{ key := r.key, bytes := bytes, good := !fto, keep := r.keep }] else c.answers
    heldAnswers :=
      if r.brings && r.held then c.heldAnswers ++ [{ key := r.key, bytes := bytes, good := !fto, keep := r.keep }] else c.heldAnswers
    cstat := if fto then c.cstat ||| 1#64 else c.cstat
    wdc := if !r.reads && !fto then 0 else c.wdc }

/-- Has the wait of a coach for responses ended as one for `id` came: its own, when it awaits no more data; any other, when
it has nothing outstanding (R292, R319)? -/
def State.remoteOver (s : State) (id : CoachId) (c : Coach) : Bool :=
  c.wait == .remote && (if c.id = id then !s.awaitsData id else !s.outstanding c)

/-- Coaches whose wait for responses has ended, or that wait to send a packet, try again (R59, R319). -/
def State.wakeRemote (s : State) (id : CoachId) (fabric : Bool) : State :=
  { s with coaches := s.coaches.map (fun c =>
      if s.remoteOver id c || (fabric && c.wait == .window 3) then { c with wait := .ready } else c) }

/-- Deliver the response to a request; its tag is free, for coaches that waited for one. -/
def State.respond (s : State) (r : Request) (bytes : List Byte) (fto : Bool) : State :=
  let s1 := { s with requests := s.requests.erase r }
  (match s1.coach? r.coach with
   | none => s1
   | some c => s1.setCoach (c.answered r bytes fto)).wakeRemote r.coach r.limit.isSome

/-- The access has timed out: all ones, and FTO (R319). -/
def State.timeOut (s : State) (r : Request) : State := s.respond r (List.replicate r.count 0xFF#8) true

/-! ### Senders (R59, R60, R374) -/

/-- BACKOFF that governs a sender (R60). -/
def State.backoffOf (s : State) (id : SenderId) : DWord :=
  match id with
  | .coachMemory c | .drayNetwork c | .coreReeve c => (s.core c).backoff
  | .dieFabric _ | .port _ => s.window.fbackoff

/-- The delay after the k-th consecutive NACK, k from 1 (R60). -/
def backoffDelay (v : DWord) (k : Nat) : Nat :=
  let base := max 1 (bits v 9 0)
  let cap := if bits v 31 16 = 0 then base else bits v 31 16
  min (base * 2 ^ min (k - 1) (bits v 15 12)) cap

/-- Is a fabric port down (R403)? -/
def State.portDown (s : State) (port : BitVec 4) : Bool := s.steward.portsDown.getLsbD port.toNat

/-- Can a packet pass from its die to the port of its plane: the die's link does not retrain, the port is up, and its
replay window has a place (R59, R316, R403, R404)? -/
def State.fabricOpen (s : State) (d : BitVec 3) (p : Packet) : Bool :=
  let port := s.portOf (p.line.toNat % 16)
  !s.retraining (.die d) && !s.portDown port && s.hasPlace (.port port)

/-- Can a port send to its switch: its link does not retrain, and it is up (R403, R404)? -/
def State.portOpen (s : State) (port : BitVec 4) : Bool := !s.retraining (.port port) && !s.portDown port

/-- Is a packet of a window dropped: its deadline has passed, and it is a request, or its port is down (R318, R403)? -/
def State.packetLate (s : State) (p : Packet) : Bool :=
  !serialLe (s.time.setWidth 16) p.dl && (decide (p.op.toNat < 3) || s.portDown (s.portOf (p.line.toNat % 16)))

/-- Coaches that waited on a sender's full window are ready again (R59). -/
def State.wakeWindow (s : State) (id : SenderId) : State :=
  { s with coaches := s.coaches.map (fun c => match c.wait with
    | .window join => if joinSender c.core join = id then { c with wait := .ready } else c
    | _ => c) }

/-- The sender after a NACK of its oldest entry (R60, R374). -/
def Sender.nacked (k : Sender) (entries : List (Option (CoachId × DWord))) (now cycle : Nat) (v : DWord) :
    Sender :=
  { k with
    entries := entries, nacks := k.nacks + 1, since := if k.nacks = 0 then now else k.since
    backoff := some (cycle + backoffDelay v (k.nacks + 1)) }

/-- The fabric request of a coach that a packet carries, if it still awaits its response. -/
def State.requestOf (s : State) (p : Packet) : Option Request :=
  if p.op.toNat < 3 then s.requests.find? (fun r => r.tag == p.tag.toNat && r.limit.isSome) else none

/-- A packet that its receiver has accepted goes on: from a die into the window of its plane's port, from a port to the
switch (R316). -/
def State.passOn (s : State) (id : SenderId) (owner : Option (CoachId × DWord)) (p : Packet) : State :=
  match id with
  | .port port => s.send port p
  | _ => s.joinWindow (.port (s.portOf (p.line.toNat % 16))) owner p

/-- Is the way open that a packet takes from the window of a die or of a port? -/
def State.wayOpen (s : State) (id : SenderId) (p : Packet) : Bool :=
  match id with
  | .dieFabric d => s.fabricOpen d p
  | .port port => s.portOpen port
  | _ => true

/-- A packet at the head of a window: one whose deadline has passed is dropped, and its request times out; one that can
pass goes on; any other is NACKed (R59, R316, R318, R374, R404). -/
def State.receivePacket (s : State) (k : Sender) (p : Packet) (accepted : Bool) : State :=
  let gone := { k with entries := k.entries.tail, packets := k.packets.tail, nacks := 0 }
  if s.packetLate p then
    let s1 := (s.setSender gone).wakeWindow k.id
    match s1.requestOf p with
    | some r => s1.timeOut r
    | none => s1
  else if accepted && s.wayOpen k.id p then
    ((s.setSender gone).passOn k.id (k.entries.head?.getD none) p).wakeWindow k.id
  else s.setSender (k.nacked k.entries s.time.toNat s.cycles (s.backoffOf k.id))

/-- Does a sender have an entry that its receiver is to accept or NACK (R59)? -/
def Sender.entryDue (k : Sender) : Bool := k.backoff.isNone && !k.entries.isEmpty

/-- An entry of a core's sender: accepted, or NACKed. A sender whose entries have all been accepted may have its last entry
NACKed (R59). -/
def State.receiveEntry (s : State) (k : Sender) (accepted : Bool) : State :=
  match k.entries, accepted with
  | [], true => s
  | [], false =>
    if k.last.isNone then s else s.setSender (k.nacked [k.last] s.time.toNat s.cycles (s.backoffOf k.id))
  | _ :: rest, true => (s.setSender { k with entries := rest, nacks := 0 }).wakeWindow k.id
  | es, false => s.setSender (k.nacked es s.time.toNat s.cycles (s.backoffOf k.id))

/-- Does a sender hold packets: a die's, or a port's? -/
def holdsPackets (id : SenderId) : Bool :=
  match id with
  | .dieFabric _ | .port _ => true
  | _ => false

/-- ENTRY_RECEIVE (R59): the receiver accepts the sender's oldest entry, or drops and NACKs it; a link that retrains NACKs
each (R404). -/
def execEntryReceive (sender : SenderId) (accepted : Bool) (s : State) : Host.Outcome State Fault Refusal :=
  let k := s.sender sender
  s.ifUp
    (if k.backoff.isSome then s
     else if holdsPackets sender then
       match k.packets with
       | [] => s
       | p :: _ => s.receivePacket k p accepted
     else s.receiveEntry k (accepted && !s.cutOff sender))

/-- Has a sender's back-off ended? -/
def State.backoffOver (s : State) (k : Sender) : Bool :=
  match k.backoff with
  | some t => decide (t ≤ s.cycles)
  | none => false

/-- BACKOFF_EXPIRY (R60): the sender resends from the NACKed entry onward. -/
def execBackoffExpiry (sender : SenderId) (s : State) : Host.Outcome State Fault Refusal :=
  let k := s.sender sender
  .next (if s.backoffOver k then s.setSender { k with backoff := none } else s)

/-- The join of a sender in an EXEC record (R370). -/
def senderJoin (id : SenderId) : Option Nat :=
  match id with
  | .coachMemory _ => some 0
  | .drayNetwork _ => some 1
  | .coreReeve _ => some 2
  | .dieFabric _ | .port _ => none

/-- The owner of an entry that has been NACKed for the replay limit, with its PC and the join (R374). -/
def State.exhausted (s : State) (k : Sender) : Option (Launch × Coach × DWord × Nat) :=
  if k.nacks = 0 || decide (s.time.toNat < k.since + Config.replayLimit) then none
  else match senderJoin k.id, k.entries with
    | some join, some (id, pc) :: _ =>
      match s.coach? id, s.launch? id.q with
      | some c, some l => if l.terminal.isSome then none else some (l, c, pc, join)
      | _, _ => none
    | _, _ => none

/-- REPLAY_LIMIT_EXHAUSTION (R374): EXEC 0x0003 in the coach that owns the oldest entry. -/
def execReplayLimitExhaustion (sender : SenderId) (s : State) : Host.Outcome State Fault Refusal :=
  match s.exhausted (s.sender sender) with
  | none => .next s
  | some (l, c, pc, join) =>
    .next (s.takeTrap c { cls := 7, code := 3, info := BitVec.ofNat 64 join }
      { pce := pc, resume := pc, act := 0, ilen := s.fetchLen l { c with pc := pc } })

end Sys2Proof.Machine
end

