-- ==== Sys2Proof/Machine/Fabric.lean ====
section
/-! DEFINITION. What arrives from other packages and from the host: responses to requests, requests of
peers, and BAR2 accesses (R314-R320, R323, R395, R401, R407, R412). -/

namespace Sys2Proof.Machine

open Sys2Proof

/-! ### The flits of a packet (R315) -/

/-- Header flit (R315). -/
def packetHeader (p : Packet) : BitVec 256 :=
  p.be ++ p.dst ++ p.src ++ p.op ++ p.sync ++ BitVec.ofBool p.sec ++ p.tag ++ p.fctx ++ p.dl ++ p.aop ++ p.aw ++
    (0 : BitVec 1) ++ p.line ++ (0 : BitVec 7)

/-- How many data flits a packet carries: four with a line, one with the operands or the old value of an atomic (R315). -/
def packetDataFlits (p : Packet) : Nat :=
  match p.op.toNat with
  | 1 => 4
  | 2 => 1
  | 3 => 4
  | 4 => if p.data.isEmpty then 0 else 1
  | _ => 0

/-- Data flit `n`: bytes 32n to 32n + 31 of the data, byte k in bits 8k + 7 to 8k. -/
def packetDataFlit (p : Packet) (n : Nat) : BitVec 256 :=
  BitVec.ofNat 256 (leNat ((p.data.drop (32 * n)).take 32))

/-- The flits of a packet in the order they leave: the header, then the data (R315). -/
def packetFlits (p : Packet) : List (BitVec 256) :=
  packetHeader p :: (List.range (packetDataFlits p)).map (packetDataFlit p)

/-- The packet that a header flit and the bytes of its data flits stand for (R315). -/
def packetOfHeader (h : BitVec 256) (data : List (BitVec 8)) : Packet :=
  { be := h.extractLsb' 128 128, dst := h.extractLsb' 119 9, src := h.extractLsb' 110 9
    op := h.extractLsb' 106 4, sync := h.extractLsb' 104 2, sec := h.getLsbD 103
    tag := h.extractLsb' 96 7, fctx := h.extractLsb' 80 16, dl := h.extractLsb' 64 16
    aop := h.extractLsb' 60 4, aw := h.extractLsb' 58 2, line := h.extractLsb' 7 50, data := data }

/-! ### Responses (R319, R395, R401) -/


/-- The outstanding fabric request of a tag whose limit has not passed (R401). -/
def State.request? (s : State) (tag : Nat) (fabric : Bool) : Option Request :=
  s.requests.find? (fun r => r.tag == tag && (match r.limit with
    | some t => fabric && decide (s.time.toNat < t)
    | none => !fabric))

/-! ### Entries from the switches (R59, R316, R404) -/

/-- Has the deadline of a NACKed request passed, so that its switch drops it and sends it no more (R318)? -/
def State.expired (s : State) (e : Instr) : Bool :=
  match e with
  | .fabricReadRequest p | .fabricWrite p | .fabricAtomic p => !serialLe (s.time.setWidth 16) p.dl
  | _ => false

/-- The entry that a port has NACKed and not accepted since. -/
def State.refusedAt (s : State) (port : BitVec 4) : Option Instr :=
  (s.refused.find? (fun r => r.1 == port && !s.expired r.2)).map (·.2)

/-- The state in which a port has accepted everything that it has NACKed. -/
def State.acceptAt (s : State) (port : BitVec 4) : State := { s with refused := s.refused.filter (fun r => r.1 != port) }

/-- A port NACKs an entry: the first since it last accepted one is the one that must come again first. -/
def State.nackAt (s : State) (port : BitVec 4) (e : Instr) : State :=
  { s with
    refused := (port, (s.refusedAt port).getD e) :: s.refused.filter (fun r => r.1 != port)
    outbox := s.outbox ++ [Emission.nack port.toNat] }

/-- An entry from the switch of a port: it is accepted when there is room for it, unless the port has NACKed an earlier one
and not accepted it since; else nothing of it happens, and it is NACKed (R59, R316, R404). -/
def State.arrive (s : State) (port : BitVec 4) (e : Instr) (room : Bool) (act : State → State) : State :=
  if room && (match s.refusedAt port with
      | some r => r == e
      | none => true) then act (s.acceptAt port)
  else s.nackAt port e

/-- The port on which the response to a request arrives, that of its plane (R316). -/
def State.responsePort (s : State) (r : Request) : BitVec 4 := s.portOf r.plane

/-- Do the port's link and the link of the requester's die carry a response: neither retrains (R404)? -/
def State.responseOpen (s : State) (r : Request) : Bool :=
  !s.retraining (.port (s.responsePort r)) && !(s.coach? r.coach).any (fun c => s.retraining (.die c.core.die))

/-- A response of the fabric arrives. -/
def State.responseArrives (s : State) (r : Request) (e : Instr) (act : State → State) : State :=
  s.arrive (s.responsePort r) e (s.responseOpen r) act

/-- A response that comes after its request's limit is discarded, and its tag is clear of it (R401). -/
def State.lateResponse (s : State) (tag : Nat) : State := { s with staleTags := s.staleTags.filter (· != tag) }

/-- FABRIC_READ_DATA (R401). -/
def execFabricReadData (tag : Nat) (data : List (BitVec 8)) (s : State) : Host.Outcome State Fault Refusal :=
  match s.request? tag true with
  | some r => s.ifUp (if r.reads then s.responseArrives r (.fabricReadData tag data) (·.respond r data false) else s)
  | none => s.ifUp (s.lateResponse tag)

/-- FABRIC_ACK (R401): with the old value for an atomic. -/
def execFabricAck (tag : Nat) (old : BitVec 64) (s : State) : Host.Outcome State Fault Refusal :=
  match s.request? tag true with
  | some r => s.ifUp (if r.reads then s
      else s.responseArrives r (.fabricAck tag old) (·.respond r (natLe 8 old.toNat) false))
  | none => s.ifUp (s.lateResponse tag)

/-- FABRIC_DROP (R319). -/
def execFabricDrop (tag : Nat) (s : State) : Host.Outcome State Fault Refusal :=
  match s.request? tag true with
  | some r => s.ifUp (s.responseArrives r (.fabricDrop tag) (·.timeOut r))
  | none => s.ifUp (s.lateResponse tag)

/-- A request whose response limit has passed (R401). -/
def State.overdue (s : State) (r : Request) : Bool :=
  match r.limit with
  | some t => decide (t ≤ s.time.toNat)
  | none => false

/-- FABRIC_RESPONSE_TIMEOUT (R401). -/
def execFabricResponseTimeout (tag : Nat) (s : State) : Host.Outcome State Fault Refusal :=
  match s.requests.find? (fun r => r.tag == tag && s.overdue r) with
  | some r => .next { s.timeOut r with staleTags := tag :: (s.timeOut r).staleTags }
  | none => .next s

/-- HOST_COMPLETION (R395): an error completion delivers all ones and sets FTO. -/
def execHostCompletion (tag : Nat) (ok : Bool) (data : List (BitVec 8)) (s : State) :
    Host.Outcome State Fault Refusal :=
  match s.request? tag false with
  | some r => s.ifUp (if ok then s.respond r data false else s.timeOut r)
  | none => .next s

/-! ### Requests of peers (R314-R318, R407, R412) -/

/-- The context that a packet names: a valid descriptor with its FCTX and world (R90, R323). -/
def State.packetCtx (s : State) (p : Packet) : Option (BitVec 8) :=
  ((List.range 256).map (BitVec.ofNat 8)).find? (fun k =>
    s.ctxValid k p.sec && s.descriptor k 1 / 2 ^ 48 == p.fctx.toNat)

/-- The peer's party in its context on this package. -/
def State.packetParty (s : State) (p : Packet) (k : BitVec 8) : Party :=
  { ctx := k, root := s.ctxRoot k p.sec, sec := p.sec, core := none, lease := Config.defaultLease, q := none }

/-- Does the port of a packet's plane carry it: a port carries only packets of its world (R324)? One that does not, never
arrives. -/
def State.portCarries (s : State) (p : Packet) : Bool :=
  s.steward.securePorts.getLsbD (s.portOf (p.line.toNat % 16)).toNat == p.sec

/-- Is the package itself enabled in the pod table (R314)? -/
def State.podEnabled (s : State) : Bool :=
  !s.window.podWritten
    || (s.wordReadable (s.podAt s.window.pkgno.toNat) && (s.podEntry s.window.pkgno.toNat).testBit 1)

/-- Lunath address of a packet's line, if the package performs the request; else the check that stops it, if
one does (R318, R407, R412). -/
def State.packetLine (s : State) (p : Packet) (write : Bool) : Except (Option Breach) Nat :=
  if p.dst != s.window.pkgno || !s.podEnabled || !serialLe (s.time.setWidth 16) p.dl then .error none
  else match s.packetCtx p with
    | none => .error none
    | some k =>
      match s.translate (s.packetParty p k) false write (p.line.toNat * 128) with
      | .error b => .error (some b)
      | .ok loc => match loc, (if write then s.writeHazard loc else s.readHazard loc 128) with
        | .lunath a, none => .ok a
        | _, _ => .error none

/-- A response to a packet, in the window that it leaves by (R59, R315, R316). -/
def State.reply (s : State) (id : SenderId) (p : Packet) (op : Nat) (data : List Byte) : State :=
  s.joinWindow id none { p with dst := p.src, src := s.window.pkgno, op := BitVec.ofNat 4 op, data := data }

/-- The window that the response to a request leaves by: of the line's home die, which performs it; of the plane's port, for
a drop (R316, R318). -/
def State.replySender (s : State) (p : Packet) (line : Except (Option Breach) Nat) : SenderId :=
  match line with
  | .ok a => .dieFabric (homeDie a)
  | .error _ => .port (s.portOf (p.line.toNat % 16))

/-- Answer a packet that is not performed with a drop; a world breach is logged (R318, R412). -/
def State.dropPacket (s : State) (p : Packet) (b : Option Breach) : State :=
  let s1 := match b with
    | some b => if b.cls = 10 then s.logRecord (natLe 8 (p.line.toNat * 128)) else s
    | none => s
  s1.reply (.port (s.portOf (p.line.toNat % 16))) p 5 []

/-- Is there room for a request: neither its port's link nor, where it is performed, that of its line's home die retrains,
and the window that its response leaves by has a place (R59, R404; log 79)? -/
def State.requestOpen (s : State) (p : Packet) (line : Except (Option Breach) Nat) : Bool :=
  !s.retraining (.port (s.portOf (p.line.toNat % 16)))
    && (match line with
      | .ok a => !s.retraining (.die (homeDie a))
      | .error _ => true)
    && s.hasPlace (s.replySender p line)

/-- A request `e` that has arrived: it is performed at its line and answered, or answered with a drop; or NACKed, so that
nothing of it happens until it is sent again (R59). -/
def State.serve (s : State) (e : Instr) (p : Packet) (line : Except (Option Breach) Nat) (act : State → Nat → State) :
    State :=
  if !s.portCarries p then s
  else s.arrive (s.portOf (p.line.toNat % 16)) e (s.requestOpen p line) (fun s1 =>
    match line with
    | .error b => s1.dropPacket p b
    | .ok a => act s1 a)

/-- The core of a coach of this package whose own request a packet is (R234, R400). -/
def State.ownCore (s : State) (p : Packet) : Option CoreId :=
  if p.src != s.window.pkgno then none
  else (s.requests.find? (fun r => r.own && r.tag == p.tag.toNat)).bind (fun r => (s.coach? r.coach).map (·.core))

/-- A request of this package to itself meets everything that its coach has stored, which no L2 holds back from it, and
leaves the coach's core no older copy of the line (R234, R298, R299). -/
def State.meetOwn (s : State) (p : Packet) (a : Nat) : State :=
  match s.ownCore p with
  | some c => (s.writeBack (a / 128)).dropCopy c (a / 128)
  | none => s

/-- A read of a peer, of the line at `a`. -/
def State.packetRead (s : State) (p : Packet) (a : Nat) : State :=
  let s1 := (s.recall (a / 128) true).meetOwn p a
  s1.reply (.dieFabric (homeDie a)) p 3 (s1.homeBytes none a 128)

/-- FABRIC_READ_REQUEST (R318). -/
def execFabricReadRequest (packet : Packet) (s : State) : Host.Outcome State Fault Refusal :=
  s.ifUp (s.serve (.fabricReadRequest packet) packet (s.packetLine packet false) (fun s a => s.packetRead packet a))

/-- The runs of enabled bytes of a line, as (offset, bytes). -/
def enabledRuns (be : BitVec 128) (data : List Byte) : List Nat → List (Nat × List Byte)
  | [] => []
  | i :: rest =>
    if be.getLsbD i then
      match enabledRuns be data rest with
      | (j, bs) :: more => if j = i + 1 then (i, data.getD i 0 :: bs) :: more else (i, [data.getD i 0]) :: (j, bs) :: more
      | [] => [(i, [data.getD i 0])]
    else enabledRuns be data rest

/-- A write of a peer, in the line at `a`. -/
def State.packetWrite (s : State) (p : Packet) (a : Nat) : State :=
  (((enabledRuns p.be p.data (List.range 128)).foldl (fun s r => s.lunathWrite none (a + r.1) r.2) s).meetOwn p a).reply
    (.dieFabric (homeDie a)) p 4 []

/-- FABRIC_WRITE (R318): bytes without an enable are ignored (R315). -/
def execFabricWrite (packet : Packet) (s : State) : Host.Outcome State Fault Refusal :=
  s.ifUp (s.serve (.fabricWrite packet) packet (s.packetLine packet true) (fun s a => s.packetWrite packet a))

/-- The format that a packet's atomic works in: the packet does not carry it (R239, R315). -/
def atomicFmt (wide : Bool) (pick : Nat) : Nat :=
  if wide then [0x00, 0x07].getD (pick % 2) 0 else [0x05, 0x06, 0x0A].getD (pick % 3) 0

/-- Perform a packet's atomic on its line: the old value, and the state. The issuing coach's MODE is not in the packet, and
its SUB is free (R185; log 74). -/
def State.packetAtomic (s : State) (p : Packet) (a : Nat) : Nat × State :=
  let n := if p.aw = 1 then 8 else 4
  let o := ((List.range 128).find? p.be.getLsbD).getD 0
  let s1 := (s.recall (a / 128) false).writeBack (a / 128)
  let old := leNat (Memory.readBytes s1.mem (a + o) n)
  let v := numAt p.data 0 n
  let exp := numAt p.data 8 n
  let new := atomNew (atomicFmt (p.aw == 1) (Config.freeNat s.fresh 0)) p.aop.toNat (Config.freeNat s.fresh 1 % 3) n old v exp
  (old, (s1.homeWrite none (a + o) (natLe n new)).meetOwn p a)

/-- FABRIC_ATOMIC (R318). -/
def execFabricAtomic (packet : Packet) (s : State) : Host.Outcome State Fault Refusal :=
  let line := match s.packetLine packet true with
    | .error b => .error b
    | .ok _ => s.packetLine packet false
  s.ifUp (s.serve (.fabricAtomic packet) packet line (fun s a =>
    match s.packetAtomic packet a with
    | (old, s1) => s1.reply (.dieFabric (homeDie a)) packet 4 (natLe 8 old)))

/-! ### The host's BAR2 (R320, R407, R412) -/

/-- Lines that a range of Lunath meets. -/
def linesOf (a n : Nat) : List Nat :=
  if n = 0 then [] else (List.range ((a + n - 1) / 128 - a / 128 + 1)).map (fun i => a / 128 + i)

/-- Pieces of a range that do not cross a 128-byte line: start and length. -/
def linePieces (a n : Nat) : List (Nat × Nat) :=
  (linesOf a n).map (fun l =>
    let lo := max a (128 * l)
    (lo, min (a + n) (128 * l + 128) - lo))

/-- A host access to a secure region is logged and not performed (R412). -/
def State.hostBreach (s : State) (a n : Nat) : Bool := (linesOf a n).any (fun l => s.secureAddr (128 * l))

/-- A host access that cannot be performed: beyond Lunath, to a lost die, or of poisoned data (R397,
R407). -/
def State.hostBlocked (s : State) (a n : Nat) (write : Bool) : Bool :=
  decide (2 ^ 40 < a + n) || (linesOf a n).any (fun l =>
    (if write then s.writeHazard (.lunath (128 * l)) else s.readHazard (.lunath (128 * l)) 128).isSome)

/-- The Lunath address of an offset in BAR2: the offset itself in an aperture of 1 TiB, else that of the 64 GiB unit that
APBASE names; beyond the aperture none that exists (R320). -/
def State.apertureAt (s : State) (off : Nat) : Nat :=
  if Config.bar2Resized then off
  else if off < 2 ^ 36 then bits s.window.apbase 3 0 * 2 ^ 36 + off else 2 ^ 40

/-- HOST_BAR2_READ (R320): `off` is an offset in BAR2. After the I/O die's failure a read finds all ones (R409). -/
def execHostBar2Read (off : Nat) (count : Nat) (s : State) : Host.Outcome State Fault Refusal :=
  let addr := s.apertureAt off
  let answer (s : State) (d : Option (List Byte)) : State := { s with outbox := s.outbox ++ [.bar2Completion d] }
  if s.ioDown then .next (answer s (some (List.replicate count 0xFF)))
  else s.ifUp
    (if s.hostBreach addr count then answer (s.logRecord (natLe 8 addr)) none
     else if s.hostBlocked addr count false then answer s none
     else
       let s1 := (linesOf addr count).foldl (fun s l => s.recall l true) s
       answer s1 (some ((linePieces addr count).flatMap (fun q => s1.homeBytes none q.1 q.2))))

/-- The context whose TDIES lies at a Lunath address (R323). -/
def State.tdiesAt (s : State) (a : Nat) : Option (BitVec 8) :=
  let base := bits s.window.ctxbase 51 14 * 2 ^ 14
  if s.ctxEnabled && decide (base ≤ a) && decide (a < base + 64 * 256) && (a - base) % 64 == 12 then
    some (BitVec.ofNat 8 ((a - base) / 64))
  else none

/-- What a host write stores in one byte: in TDIES, ones clear bits, and a healthy die that a launch uses is set again; a
launch that has met its end uses none (R323, R408). -/
def State.hostByte (s : State) (a : Nat) (v : Byte) : Byte :=
  match s.tdiesAt a with
  | none => v
  | some k =>
    let used := (s.launches.filter (fun l => l.ctx == k && l.phase == .running && l.terminal.isNone)).foldl
      (fun m l => m ||| l.dies) (0 : Byte)
    (Memory.read s.mem a &&& ~~~v) ||| (used &&& s.steward.healthyDies)

/-- A write of the host at a Lunath address, once stashes have given up their copies: a write of one line is performed whole;
one of a secure region is logged, and it and one that cannot be performed change nothing else (R99, R320, R407, R412). -/
def State.hostWriteAt (s : State) (addr : Nat) (data : List Byte) : State :=
  let n := data.length
  if s.hostBreach addr n then s.logRecord (natLe 8 addr)
  else if s.hostBlocked addr n true then s
  else
    let s1 := (linesOf addr n).foldl (fun s l => s.recall l false) s
    let bytes := (List.range n).map (fun i => s1.hostByte (addr + i) (data.getD i 0))
    (linePieces addr n).foldl (fun s q => s.lunathWrite none q.1 ((bytes.drop (q.1 - addr)).take q.2)) s1

/-- HOST_BAR2_WRITE (R320). The aperture takes writes before a firmware image has been accepted, which is how one arrives
(R325). -/
def execHostBar2Write (off : Nat) (data : List (BitVec 8)) (s : State) : Host.Outcome State Fault Refusal :=
  s.ifPowered (s.hostWriteAt (s.apertureAt off) data)

/-- Does the aperture reach `n` bytes at a Lunath address (R320)? -/
def State.hostReaches (s : State) (a n : Nat) : Bool :=
  Config.bar2Resized || (a / 2 ^ 36 == bits s.window.apbase 3 0 && (a + n - 1) / 2 ^ 36 == bits s.window.apbase 3 0)

/-- PUBLISH (R50): the host writes a queue's publish word through BAR2, where the aperture reaches it; the watch list sees
the write (R50, R52, R320, R324). -/
def execPublish (q : BitVec 6) (value : BitVec 64) (s : State) : Host.Outcome State Fault Refusal :=
  let a := (s.queue q).qpub.toNat
  s.ifUp (if s.hostReaches a 8 then s.hostWriteAt a (natLe 8 value.toNat) else s)

end Sys2Proof.Machine
end

