-- ==== Sys2Proof/Machine/Digest.lean ====
section
/-! DEFINITION. The checks that the manual names by their standards (log 71): SHA-256 (R325, R326; FIPS 180-4), and the
verification of an RSASSA-PKCS1-v1_5 signature by RSA-3072 over it (R325; RFC 8017). -/

namespace Sys2Proof.Machine

open Sys2Proof

/-! ### SHA-256 -/

/-- The round constants. -/
def shaK : List Word :=
  [0x428a2f98#32, 0x71374491#32, 0xb5c0fbcf#32, 0xe9b5dba5#32, 0x3956c25b#32, 0x59f111f1#32, 0x923f82a4#32, 0xab1c5ed5#32,
    0xd807aa98#32, 0x12835b01#32, 0x243185be#32, 0x550c7dc3#32, 0x72be5d74#32, 0x80deb1fe#32, 0x9bdc06a7#32, 0xc19bf174#32]
  ++ [0xe49b69c1#32, 0xefbe4786#32, 0x0fc19dc6#32, 0x240ca1cc#32, 0x2de92c6f#32, 0x4a7484aa#32, 0x5cb0a9dc#32, 0x76f988da#32,
    0x983e5152#32, 0xa831c66d#32, 0xb00327c8#32, 0xbf597fc7#32, 0xc6e00bf3#32, 0xd5a79147#32, 0x06ca6351#32, 0x14292967#32]
  ++ [0x27b70a85#32, 0x2e1b2138#32, 0x4d2c6dfc#32, 0x53380d13#32, 0x650a7354#32, 0x766a0abb#32, 0x81c2c92e#32, 0x92722c85#32,
    0xa2bfe8a1#32, 0xa81a664b#32, 0xc24b8b70#32, 0xc76c51a3#32, 0xd192e819#32, 0xd6990624#32, 0xf40e3585#32, 0x106aa070#32]
  ++ [0x19a4c116#32, 0x1e376c08#32, 0x2748774c#32, 0x34b0bcb5#32, 0x391c0cb3#32, 0x4ed8aa4a#32, 0x5b9cca4f#32, 0x682e6ff3#32,
    0x748f82ee#32, 0x78a5636f#32, 0x84c87814#32, 0x8cc70208#32, 0x90befffa#32, 0xa4506ceb#32, 0xbef9a3f7#32, 0xc67178f2#32]

/-- The initial hash value. -/
def shaInit : List Word :=
  [0x6a09e667#32, 0xbb67ae85#32, 0x3c6ef372#32, 0xa54ff53a#32, 0x510e527f#32, 0x9b05688c#32, 0x1f83d9ab#32, 0x5be0cd19#32]

/-- Bytes as a number, the most significant first. -/
def bigEndian (bs : List Byte) : Nat := bs.foldl (fun n b => n * 256 + b.toNat) 0

/-- A number as `n` bytes, the most significant first. -/
def bytesBig (n v : Nat) : List Byte := (natLe n v).reverse

/-- The padded message. -/
def shaPad (bs : List Byte) : List Byte :=
  let n := bs.length
  bs ++ [0x80#8] ++ List.replicate ((119 - n % 64) % 64) 0#8 ++ bytesBig 8 (8 * n)

/-- One more word of the schedule, which is held the latest first. -/
def shaNext (ws : List Word) : List Word :=
  let w (i : Nat) : Word := ws.getD i 0
  let s0 := (w 14).rotateRight 7 ^^^ (w 14).rotateRight 18 ^^^ (w 14 >>> 3)
  let s1 := (w 1).rotateRight 17 ^^^ (w 1).rotateRight 19 ^^^ (w 1 >>> 10)
  (s1 + w 6 + s0 + w 15) :: ws

/-- `n` more words of the schedule. -/
def shaExtend : Nat → List Word → List Word
  | 0, ws => ws
  | n + 1, ws => shaExtend n (shaNext ws)

/-- The 64 words of the schedule of a block. -/
def shaSchedule (block : List Byte) : List Word :=
  (shaExtend 48 ((List.range 16).map (fun i => BitVec.ofNat 32 (bigEndian ((block.drop (4 * i)).take 4)))).reverse).reverse

/-- One round. -/
def shaRound (h : List Word) (kw : Word × Word) : List Word :=
  match h with
  | [a, b, c, d, e, f, g, x] =>
    let t1 := x + (e.rotateRight 6 ^^^ e.rotateRight 11 ^^^ e.rotateRight 25) + ((e &&& f) ^^^ (~~~e &&& g)) + kw.1 + kw.2
    let t2 := (a.rotateRight 2 ^^^ a.rotateRight 13 ^^^ a.rotateRight 22) + ((a &&& b) ^^^ (a &&& c) ^^^ (b &&& c))
    [t1 + t2, a, b, c, d + t1, e, f, g]
  | _ => h

/-- The hash value after one block. -/
def shaBlock (h : List Word) (block : List Byte) : List Word :=
  (h.zip ((shaK.zip (shaSchedule block)).foldl shaRound h)).map (fun r => r.1 + r.2)

/-- The hash value after the blocks of a padded message. -/
def shaBlocks : Nat → List Byte → List Word → List Word
  | 0, _, h => h
  | n + 1, bs, h => shaBlocks n (bs.drop 64) (shaBlock h (bs.take 64))

/-- SHA-256. -/
def sha256 (bs : List Byte) : List Byte :=
  let m := shaPad bs
  (shaBlocks (m.length / 64) m shaInit).flatMap (fun w => bytesBig 4 w.toNat)

/-! ### RSASSA-PKCS1-v1_5, RSA-3072 over SHA-256 -/

/-- b ^ e modulo n, by squaring; `fuel`: at least the bits of e. -/
def powMod (n : Nat) : Nat → Nat → Nat → Nat
  | 0, _, _ => 1 % n
  | fuel + 1, b, e =>
    if e = 0 then 1 % n
    else
      let h := powMod n fuel (b * b % n) (e / 2)
      if e % 2 = 1 then b * h % n else h

/-- Bytes of a signature by a 3,072-bit key. -/
def rsaBytes : Nat := 384

/-- The prefix of a SHA-256 digest in an encoded message. -/
def digestInfo : List Byte :=
  [0x30#8, 0x31#8, 0x30#8, 0x0d#8, 0x06#8, 0x09#8, 0x60#8, 0x86#8, 0x48#8, 0x01#8, 0x65#8, 0x03#8, 0x04#8, 0x02#8, 0x01#8,
    0x05#8, 0x00#8, 0x04#8, 0x20#8]

/-- The encoded message of a message. -/
def pkcsEncode (bs : List Byte) : List Byte :=
  let t := digestInfo ++ sha256 bs
  [0x00#8, 0x01#8] ++ List.replicate (rsaBytes - t.length - 3) 0xFF#8 ++ [0x00#8] ++ t

/-- Is a signature of a message good under a public key? -/
def rsaOk (modulus exponent : Nat) (bs signature : List Byte) : Bool :=
  signature.length == rsaBytes && decide (bigEndian signature < modulus)
    && powMod modulus 3072 (bigEndian signature) exponent == bigEndian (pkcsEncode bs)

/-- The signature of a message by a private key, which verifies under its public key. -/
def rsaSign (modulus exponent : Nat) (bs : List Byte) : List Byte :=
  bytesBig rsaBytes (powMod modulus 3072 (bigEndian (pkcsEncode bs)) exponent)

end Sys2Proof.Machine
end

