-- ==== Sys2Proof/Machine/Control.lean ====
section
/-! DEFINITION. The control instructions, opcodes 0x20-0x32 (R165-R175), and the pop rule (R29). -/

namespace Sys2Proof.Machine

open Sys2Proof

/-- pc + 4 × sext(offset, 16) (R165). -/
def Coach.wordTarget (c : Coach) (off : Nat) : DWord := c.pc + BitVec.ofInt 64 (4 * sextInt off 16)

/-- pc + sext(LIT32, 32) (R166). -/
def Coach.byteTarget (c : Coach) (lit : BitVec 32) : DWord := c.pc + lit.signExtend 64

/-- The two halves of LIT32 (R168). -/
def litLow (f : Fields) : Nat := bits f.lit 15 0
def litHigh (f : Fields) : Nat := bits f.lit 31 16

/-- The instruction that follows. -/
def Coach.nextPc (c : Coach) (f : Fields) : DWord := c.pc + BitVec.ofNat 64 f.len

/-- Go to a target inside the image (R365). -/
def goTo (l : Launch) (s : State) (c : Coach) (target : DWord) : Except Stop State :=
  checked [l.targetTrap c [target]] (.ok (s.setCoach { c with pc := target }))

/-- Complete a control instruction that has set the coach's pc. -/
def settle (r : Except Stop (State × Coach)) : Except Stop State :=
  match r with
  | .error e => .error e
  | .ok (s, c) => .ok (s.setCoach c)

/-- OFF22, word 0 [31:10]: K6, A, D from the top (R166). -/
def off22 (f : Fields) : Int := sextInt (f.k6.toNat * 2 ^ 16 + f.a.toNat * 2 ^ 8 + f.d.toNat) 22

/-- BRA (R166). -/
def execBra (w0 : W0) (s : State) : Host.Outcome State Fault Refusal :=
  let f := Fields.of32 w0
  issue .bra f (fun s l c => goTo l s c (c.pc + BitVec.ofInt 64 (4 * off22 f))) s

/-- BRC (R166). -/
def execBrc (w0 : W0) (w1 : W1) (lit : BitVec 32) (s : State) : Host.Outcome State Fault Refusal :=
  let f := Fields.of96 w0 w1 lit
  issue .brc f (fun s l c =>
    if condBrc (f.k 1 0) (c.xr f.a.toNat) then goTo l s c (c.byteTarget lit) else finish s c f) s

/-- CALL (R167). -/
def execCall (w0 : W0) (w1 : W1) (lit : BitVec 32) (s : State) : Host.Outcome State Fault Refusal :=
  let f := Fields.of96 w0 w1 lit
  issue .call f (fun s l c => goTo l s (c.setX f.d.toNat (c.nextPc f)) (c.byteTarget lit)) s

/-- RET (R167). -/
def execRet (w0 : W0) (s : State) : Host.Outcome State Fault Refusal :=
  let f := Fields.of32 w0
  issue .ret f (fun s l c => goTo l s c (c.xr f.a.toNat)) s

/-- JMPX (R167). -/
def execJmpx (w0 : W0) (s : State) : Host.Outcome State Fault Refusal :=
  let f := Fields.of32 w0
  issue .jmpx f (fun s l c => goTo l s c (c.xr f.a.toNat)) s

/-- A divergent branch whose three addresses lie in the image (R28, R365). -/
def branchBody (f : Fields) (tpc npc rp : Coach → DWord) : Body := fun s l c =>
  checked [l.targetTrap c [tpc c, npc c, rp c]] (settle (s.branch l c (c.cond f) (tpc c) (npc c) (rp c)))

/-- IF (R168). -/
def execIfM (w0 : W0) (w1 : W1) (lit : BitVec 32) (s : State) : Host.Outcome State Fault Refusal :=
  let f := Fields.of96 w0 w1 lit
  issue .ifM f (branchBody f (fun c => c.nextPc f) (fun c => c.wordTarget (litLow f))
    (fun c => c.wordTarget (litHigh f))) s

/-- ELSE (R168, R365). The target, which an RFT or a RESTC may leave anywhere, is not checked: R365's list of checked
addresses does not name ELSE (DEDUCED, log 88). -/
def execElseM (w0 : W0) (s : State) : Host.Outcome State Fault Refusal :=
  issue .elseM (.of32 w0) (fun s _ c =>
    if c.rpc = noPc then .error (.trap { cls := 4, code := 0x010F, info := c.rpc })
    else .ok (s.setCoach { c with pc := c.rpc })) s

/-- ENDIF (R168). -/
def execEndif (w0 : W0) (s : State) : Host.Outcome State Fault Refusal :=
  issue .endif (.of32 w0) (fun s _ c => finish s c (.of32 w0)) s

/-- LOOP (R169). -/
def execLoop (w0 : W0) (w1 : W1) (lit : BitVec 32) (s : State) : Host.Outcome State Fault Refusal :=
  let f := Fields.of96 w0 w1 lit
  issue .loop f (fun s l c =>
    let exit_ := c.wordTarget (litLow f)
    checked [l.targetTrap c [exit_, c.nextPc f]]
      (settle (match s.push l c
          { kind := 0, pc := exit_, mask := c.cm, rpc := c.rpc, ph := false, slot := 0 } with
        | .error e => .error e
        | .ok (s1, c1) => .ok (s1, { c1 with rpc := exit_, pc := c.nextPc f })))) s

/-- OPERAND 0x010F of a failed loop check (R170, R365). -/
def Coach.loopTrap (c : Coach) (exit_ : DWord) : Option Trap :=
  if c.rpc = exit_ then none else some { cls := 4, code := 0x010F, info := c.rpc }

/-- The coach without the live lanes of a condition (R170, R171). -/
def Coach.drop (c : Coach) (cond : DWord) : Coach := { c with cm := c.cm &&& ~~~(c.live &&& cond) }

/-- BREAK (R170). -/
def execBreakM (w0 : W0) (w1 : W1) (lit : BitVec 32) (s : State) : Host.Outcome State Fault Refusal :=
  let f := Fields.of96 w0 w1 lit
  issue .breakM f (fun s _ c =>
    checked [c.loopTrap (c.wordTarget (litLow f))] (finish s (c.drop (c.cond f)) f)) s

/-- CONT (R170): the named loop's exit is the ENDLOOP address plus 12. -/
def execCont (w0 : W0) (w1 : W1) (lit : BitVec 32) (s : State) : Host.Outcome State Fault Refusal :=
  let f := Fields.of96 w0 w1 lit
  issue .cont f (fun s l c =>
    let e := c.wordTarget (litLow f)
    checked [l.targetTrap c [e, c.nextPc f], c.loopTrap (e + 12)]
      (settle (s.branch l c (c.cond f) e (c.nextPc f) e))) s

/-- ENDLOOP (R169). -/
def execEndloop (w0 : W0) (w1 : W1) (lit : BitVec 32) (s : State) : Host.Outcome State Fault Refusal :=
  let f := Fields.of96 w0 w1 lit
  issue .endloop f (fun s l c =>
    let body := c.wordTarget (litLow f)
    let t := c.live &&& c.cond f
    checked [l.targetTrap c [c.nextPc f, body]]
      (if t = 0 then finish s c f else .ok (s.setCoach { c with cm := t, pc := body }))) s

/-- BRDIV (R171). -/
def execBrdiv (w0 : W0) (w1 : W1) (lit : BitVec 32) (s : State) : Host.Outcome State Fault Refusal :=
  let f := Fields.of96 w0 w1 lit
  issue .brdiv f (branchBody f (fun c => c.wordTarget (litLow f)) (fun c => c.nextPc f)
    (fun c => c.wordTarget (litHigh f))) s

/-- RECONV (R171). -/
def execReconv (w0 : W0) (s : State) : Host.Outcome State Fault Refusal :=
  let f := Fields.of32 w0
  issue .reconv f (fun s _ c => finish s (c.drop (c.cond f)) f) s

/-- EXIT in either format: lanes of act exit, which can complete arrivals (R30, R36, R172); these are a release of what
preceded the EXIT (R298, R301). -/
def exitBody (f : Fields) : Body := fun s _ c =>
  whenActive s c f (s.drained c (finish s ({ c with ex := c.ex ||| c.act f, wdc := 0 } : Coach).arriveAll f))

/-- EXIT (R172). -/
def execExit (w0 : W0) (s : State) : Host.Outcome State Fault Refusal :=
  issue .exit (.of32 w0) (exitBody (.of32 w0)) s

/-- EXIT with a predicate (R172). -/
def execExitF64 (w0 : W0) (w1 : W1) (s : State) : Host.Outcome State Fault Refusal :=
  issue .exit (.of64 w0 w1) (exitBody (.of64 w0 w1)) s

/-- What a YIELD leaves: the coach waits in both slots (R173). The issue of the YIELD itself is still to be counted. -/
def State.yieldBoth (s : State) (c : Coach) : List Yielded :=
  let k := s.core c.core
  [⟨false, k.issued + 1, s.cycles⟩, ⟨true, k.issuedVector, s.cycles⟩]

/-- YIELD (R173): the instruction completes, and the coach is not ready for a while. -/
def execYield (w0 : W0) (s : State) : Host.Outcome State Fault Refusal :=
  issue .yield (.of32 w0) (fun s _ c =>
    finish s { c with yields := s.yieldBoth c } (.of32 w0)) s

/-- Ticks of a SLEEP (R174). -/
def sleepTicks (a b : DWord) : Nat := min (a + b).toNat (2 ^ 24)

/-- The operand b of SLEEP: an X register or the zero-extended literal (R174). -/
def sleepB (c : Coach) (f : Fields) : DWord :=
  if f.form = .f96 then f.lit.setWidth 64 else c.xr f.b.toNat

/-- SLEEP (R174): 0 ticks act as YIELD; otherwise the PC stays until the ticks have passed. -/
def sleepBody (f : Fields) : Body := fun s _ c =>
  let n := sleepTicks (c.xr f.a.toNat) (sleepB c f)
  if n = 0 then finish s { c with yields := s.yieldBoth c } f
  else .error (.wait (.sleep (s.time.toNat + n) f.len) s)

/-- SLEEP xa (R174). -/
def execSleep (w0 : W0) (s : State) : Host.Outcome State Fault Refusal :=
  issue .sleep (.of32 w0) (sleepBody (.of32 w0)) s

/-- SLEEP xa, xb (R174). -/
def execSleepF64 (w0 : W0) (w1 : W1) (s : State) : Host.Outcome State Fault Refusal :=
  issue .sleep (.of64 w0 w1) (sleepBody (.of64 w0 w1)) s

/-- SLEEP #n (R174). -/
def execSleepF96 (w0 : W0) (w1 : W1) (lit : BitVec 32) (s : State) :
    Host.Outcome State Fault Refusal :=
  issue .sleep (.of96 w0 w1 lit) (sleepBody (.of96 w0 w1 lit)) s

/-- The source of a mask test, and the lanes that it tests (R175). -/
def Coach.testMask (c : Coach) (f : Fields) : DWord × DWord :=
  let v := match f.k 2 1 with
    | 0 => c.mr f.a.toNat
    | 1 => c.cm
    | _ => c.ex
  let lanes := if f.k 2 1 = 0 then c.live else c.lanes
  ((if f.k 0 0 = 1 then ~~~v else v) &&& lanes, lanes)

/-- ANYM (R175). -/
def execAnym (w0 : W0) (s : State) : Host.Outcome State Fault Refusal :=
  let f := Fields.of32 w0
  issue .anym f (fun s _ c =>
    finish s (c.setX f.d.toNat (if (c.testMask f).1 = 0 then 0 else 1)) f) s

/-- ALLM (R175). -/
def execAllm (w0 : W0) (s : State) : Host.Outcome State Fault Refusal :=
  let f := Fields.of32 w0
  issue .allm f (fun s _ c =>
    finish s (c.setX f.d.toNat (if (c.testMask f).1 = (c.testMask f).2 then 1 else 0)) f) s

/-- Does the pop rule run for a coach now: before its next issue, or before it stops, since the pops that a control
instruction causes are complete before then (R29, R165)? -/
def State.popDue (s : State) (c : Coach) : Bool :=
  c.mustPop && s.waitOver c && !c.retired
    && (s.running c || (s.stopping c && (match s.launch? c.id.q with
      | some l => l.mayIssue
      | none => false)))

/-- Where a trap of the pop rule, or of the retirement of its gang, is raised (R347, R373). -/
def State.popSite (s : State) (l : Launch) (c : Coach) : TrapSite :=
  { pce := c.pc, resume := c.pc, act := 0, ilen := s.fetchLen l c }

/-- A gang of which every coach has retired retires, unless its stash lines cannot be written back (R39, R99, R397). -/
def State.endGang (s : State) (l : Launch) (c : Coach) : State :=
  match s.retireTrap c.id.q c.id.gang with
  | some t => s.takeTrap c t (s.popSite l c)
  | none => s.retireGang c.id.q c.id.gang

/-- POP_RULE (R29): before an instruction issues. A refill that fails is EXEC 0x0002 at the pc at which
the rule ran (R373). A coach whose retirement is an arrival retires after its earlier accesses (R298, R301). It may retire its gang (R39), which a coach that has retired before tries again
once the gang's accesses have been performed (log 68). -/
def execPopRule (c : CoachId) (s : State) : Host.Outcome State Fault Refusal :=
  match s.coach? c with
  | none => .next s
  | some co =>
    match s.launch? c.q with
    | none => .next s
    | some l =>
      if co.retired then .next (s.endGang l co)
      else if !s.popDue co then .next s
      else
        match popLoop (co.depth + 1) s l co with
        | .error t => .next (s.trapAfterGrid co co t (s.popSite l co))
        | .ok (s1, c1) =>
          if c1.retired && co.grid.isSome then .next (s.setCoach { co with wait := .ownGrid })
          else if c1.retired && s.outstanding co then .next (s.setCoach { co with wait := .remote })
          else if c1.retired then
            .next ((({ s1 with cur := some c } : State).setCoach c1).abandon c1 none |>.endGang l { c1 with pc := co.pc })
          else .next (s1.setCoach c1)

end Sys2Proof.Machine
end

