-- ==== Sys2Proof/Machine/CrossLane.lean ====
section
/-! DEFINITION. The cross-lane instructions, opcodes 0xA0-0xAA (R216-R226). -/

namespace Sys2Proof.Machine

open Sys2Proof

/-- S: lanes of a segment (R216). -/
def Coach.segment (c : Coach) : Nat := if c.cmp16 then 16 else c.width

/-- sb(j): first lane of lane j's segment (R216). -/
def Coach.segBase (c : Coach) (j : Nat) : Nat := j - j % c.segment

/-- A(j): the active lanes of the segment that begins at `b`, in increasing order (R221). -/
def Coach.segLanes (c : Coach) (act : DWord) (b : Nat) : List Nat :=
  ((List.range c.segment).map (fun i => b + i)).filter (fun i => bit act i)

/-- With ORD, every earlier access of the coach is performed before the instruction reads its sources (R226, R298;
log 20). -/
def fenced (f : Fields) (body : Body) : Body := fun s l c =>
  if f.x31 && s.outstanding c then .error (.wait .remote s) else body s l c

/-- A vector instruction whose result depends on several lanes of A. -/
def crossOp (o : Op) (f : Fields) (g : Coach → Sources → Result) (s : State) :
    Host.Outcome State Fault Refusal :=
  issue o f (fenced f (vectorOp o f (fun c src => (g c src, c)))) s

/-! ### Shuffles (R220) -/

/-- A shuffle: `lane` gives the source lane from S, rel(j) and n. -/
def shuffle (lane : Nat → Nat → Nat → Nat) (c : Coach) (src : Sources) : Result :=
  { value := match src.a.value with
      | .u x => .u x
      | a => .g ((List.range c.width).map (fun j =>
          a.elem (c.segBase j + lane c.segment (j % c.segment) (src.b.elem j).toNat))) }

def laneIdx (S _ n : Nat) : Nat := n % S
def laneUp (S r n : Nat) : Nat := if n < S ∧ n ≤ r then r - n else r
def laneDown (S r n : Nat) : Nat := if n < S ∧ r + n < S then r + n else r
def laneXor (S r n : Nat) : Nat := Nat.xor r (n % S)

/-! ### Votes, election, matching (R221-R223) -/

/-- The vote of the lanes of one segment. -/
def voteWord (vop : Nat) (a : VReg) (ls : List Nat) : Word :=
  let yes := match vop with
    | 1 => ls.any (fun i => a.elem i != 0)
    | 2 => ls.all (fun i => a.elem i != 0)
    | _ => match ls with
      | [] => true
      | i :: t => t.all (fun k => a.elem k == a.elem i)
  if yes then 1 else 0

/-- A result that is one value per segment: U when the segment is the whole coach. -/
def perSegment (c : Coach) (v : Nat → Word) : VReg :=
  if c.segment = c.width then .u (v 0) else .g ((List.range c.width).map (fun j => v (c.segBase j)))

/-- ANY, ALL and EQ. -/
def voteResult (f : Fields) (c : Coach) (src : Sources) : Result :=
  { value := perSegment c (fun b => voteWord (f.k 1 0) src.a.value (c.segLanes (c.act f) b)) }

/-- VOTE in either format (R221). -/
def voteBody (f : Fields) : Body := fun s l c =>
  if f.k 1 0 = 0 then
    checked (s.vectorChecks l c .vote f)
      (match s.sources l c .vote f with
       | .error e => .error e
       | .ok (src, s1, c1) =>
         let m := maskOf c.width (fun j => bit (c1.act f) j && src.a.value.elem j != 0)
         let (s2, c2) := s1.holdA (c1.setM f.d.toNat m) f src.a
         finish s2 c2 f)
  else vectorOp .vote f (fun c src => (voteResult f c src, c)) s l c

/-- ELECT in either format (R222). -/
def electBody (f : Fields) : Body := fun s _ c =>
  finish s (c.setM f.d.toNat (maskOf c.width (fun j =>
    (c.segLanes (c.act f) (c.segBase j)).head? == some j))) f

/-- MATCH of an element among the lanes of its segment: relative index or count. -/
def matchWord (f : Fields) (c : Coach) (a : VReg) (ls : List Nat) (x : Word) : Word :=
  let same := ls.filter (fun i => a.elem i == x)
  BitVec.ofNat 32 (if f.k 0 0 = 1 then same.length else match same with
    | [] => 0
    | i :: _ => i % c.segment)

/-- MATCH (R223). -/
def matchResult (f : Fields) (c : Coach) (src : Sources) : Result :=
  let g (j : Nat) : Word :=
    matchWord f c src.a.value (c.segLanes (c.act f) (c.segBase j)) (src.a.value.elem j)
  { value := match src.a.value with
      | .u _ => if c.segment = c.width then .u (g 0) else .g ((List.range c.width).map g)
      | _ => .g ((List.range c.width).map g)
    keepExited := true }

/-! ### Reductions and scans (R224) -/

/-- OP and TY of REDUCE and SCAN. -/
def foldOp (f : Fields) : Nat := f.k 5 3
def foldTy (f : Fields) : Nat := f.k 1 0

/-- The identity of an operation (R224). -/
def foldId (op ty : Nat) : Word :=
  match op, ty with
  | 1, 0 => 0x7FFFFFFF#32
  | 1, 1 => 0xFFFFFFFF#32
  | 1, _ => 0x7F800000#32
  | 2, 0 => 0x80000000#32
  | 2, 1 => 0
  | 2, _ => 0xFF800000#32
  | 3, _ => 0xFFFFFFFF#32
  | _, _ => 0

/-- One step of a fold other than an integer add. -/
def foldStep (op ty r s sub : Nat) (a b : Word) : Word :=
  match op, ty with
  | 0, _ => BitVec.ofNat 32 (sumRes .b32 r s sub
      [FloatFormat.b32.operand sub a.toNat, FloatFormat.b32.operand sub b.toNat])
  | 1, 0 => if b.slt a then b else a
  | 1, 1 => if b.ult a then b else a
  | 1, _ => BitVec.ofNat 32 (fminmax .b32 false sub a.toNat b.toNat)
  | 2, 0 => if a.slt b then b else a
  | 2, 1 => if a.ult b then b else a
  | 2, _ => BitVec.ofNat 32 (fminmax .b32 true sub a.toNat b.toNat)
  | 3, _ => a &&& b
  | 4, _ => a ||| b
  | _, _ => a ^^^ b

/-- The exact integer sum of words, narrowed once. -/
def foldSum (ty sat : Nat) (ws : List Word) : Word :=
  BitVec.ofNat 32 (narrow sat (ty == 0) 32
    (ws.foldl (fun acc w => acc + elemInt (ty == 0) 32 w.toNat) (0 : Int)))

/-- The fold of words in order; from the first word without an identity, from the identity with one. -/
def foldWords (f : Fields) (c : Coach) (withId : Bool) (ws : List Word) : Word :=
  let op := foldOp f
  let ty := foldTy f
  if op = 0 ∧ ty < 2 then foldSum ty (c.sat f) ws
  else
    let step := foldStep op ty (c.rnd f) (c.sat f) c.sub
    match ws, withId with
    | [], _ => foldId op ty
    | w :: t, false => t.foldl step w
    | ws, true => ws.foldl step (foldId op ty)

/-- REDUCE (R224). -/
def reduceResult (f : Fields) (c : Coach) (src : Sources) : Result :=
  { value := perSegment c (fun b =>
      foldWords f c false ((c.segLanes (c.act f) b).map src.a.value.elem)) }

/-- SCAN: the fold of the lanes up to, or below, each lane (R224). -/
def scanResult (f : Fields) (c : Coach) (src : Sources) : Result :=
  { value := .g ((List.range c.width).map (fun j =>
      foldWords f c true (((c.segLanes (c.act f) (c.segBase j)).filter (fun i =>
        if f.k 2 2 = 1 then i < j else i ≤ j)).map src.a.value.elem)))
    keepExited := true }

/-! ### Compress and expand (R225) -/

/-- COMPRESS writes lanes whether they are active or not. The lanes it leaves in an entry that HOLD names too are those of
the HOLD copy, as in every write of D (R70; log 40). -/
def compressBody (f : Fields) : Body := fun s l c =>
  checked (s.vectorChecks l c .compress f)
    (match s.sources l c .compress f with
     | .error e => .error e
     | .ok (src, s1, c1) =>
       let (s2, c2) := s1.holdA c1 f src.a
       let old := (s2.readV c2 f.d.toNat).value
       let v := VReg.g ((List.range c.width).map (fun j =>
         match (c.segLanes (c1.act f) (c.segBase j))[j % c.segment]? with
         | some i => src.a.value.elem i
         | none => old.elem j))
       let (s3, c3) := s2.writeV c2 f.d.toNat c.lanes { value := v }
       finish s3 c3 f)

/-- EXPAND: the k-th active lane takes the segment's element k, as R225 has it, also where that lane is not active: R217
takes the elements that EXPAND combines from lanes in act only (DEDUCED, log 94). -/
def expandResult (f : Fields) (c : Coach) (src : Sources) : Result :=
  { value := .g ((List.range c.width).map (fun j =>
      let b := c.segBase j
      src.a.value.elem (b + ((c.segLanes (c.act f) b).filter (fun i => i < j)).length)))
    keepExited := true }

/-- SHFL (R220). -/
def execShfl (w0 : W0) (w1 : W1) (s : State) : Host.Outcome State Fault Refusal :=
  let f := Fields.of64 w0 w1
  crossOp .shfl f (shuffle laneIdx) s

/-- SHFL with a literal (R220). -/
def execShflF96 (w0 : W0) (w1 : W1) (lit : BitVec 32) (s : State) : Host.Outcome State Fault Refusal :=
  let f := Fields.of96 w0 w1 lit
  crossOp .shfl f (shuffle laneIdx) s

/-- SHFLUP (R220). -/
def execShflup (w0 : W0) (w1 : W1) (s : State) : Host.Outcome State Fault Refusal :=
  let f := Fields.of64 w0 w1
  crossOp .shflup f (shuffle laneUp) s

/-- SHFLUP with a literal (R220). -/
def execShflupF96 (w0 : W0) (w1 : W1) (lit : BitVec 32) (s : State) : Host.Outcome State Fault Refusal :=
  let f := Fields.of96 w0 w1 lit
  crossOp .shflup f (shuffle laneUp) s

/-- SHFLDN (R220). -/
def execShfldn (w0 : W0) (w1 : W1) (s : State) : Host.Outcome State Fault Refusal :=
  let f := Fields.of64 w0 w1
  crossOp .shfldn f (shuffle laneDown) s

/-- SHFLDN with a literal (R220). -/
def execShfldnF96 (w0 : W0) (w1 : W1) (lit : BitVec 32) (s : State) : Host.Outcome State Fault Refusal :=
  let f := Fields.of96 w0 w1 lit
  crossOp .shfldn f (shuffle laneDown) s

/-- SHFLX (R220). -/
def execShflx (w0 : W0) (w1 : W1) (s : State) : Host.Outcome State Fault Refusal :=
  let f := Fields.of64 w0 w1
  crossOp .shflx f (shuffle laneXor) s

/-- SHFLX with a literal (R220). -/
def execShflxF96 (w0 : W0) (w1 : W1) (lit : BitVec 32) (s : State) : Host.Outcome State Fault Refusal :=
  let f := Fields.of96 w0 w1 lit
  crossOp .shflx f (shuffle laneXor) s

/-- VOTE (R221). -/
def execVote (w0 : W0) (s : State) : Host.Outcome State Fault Refusal :=
  let f := Fields.of32 w0
  issue .vote f (fenced f (voteBody f)) s

/-- VOTE in F64 (R221). -/
def execVoteF64 (w0 : W0) (w1 : W1) (s : State) : Host.Outcome State Fault Refusal :=
  let f := Fields.of64 w0 w1
  issue .vote f (fenced f (voteBody f)) s

/-- REDUCE (R224). -/
def execReduce (w0 : W0) (s : State) : Host.Outcome State Fault Refusal :=
  let f := Fields.of32 w0
  crossOp .reduce f (reduceResult f) s

/-- REDUCE in F64 (R224). -/
def execReduceF64 (w0 : W0) (w1 : W1) (s : State) : Host.Outcome State Fault Refusal :=
  let f := Fields.of64 w0 w1
  crossOp .reduce f (reduceResult f) s

/-- SCAN (R224). -/
def execScan (w0 : W0) (s : State) : Host.Outcome State Fault Refusal :=
  let f := Fields.of32 w0
  crossOp .scan f (scanResult f) s

/-- SCAN in F64 (R224). -/
def execScanF64 (w0 : W0) (w1 : W1) (s : State) : Host.Outcome State Fault Refusal :=
  let f := Fields.of64 w0 w1
  crossOp .scan f (scanResult f) s

/-- ELECT (R222). -/
def execElect (w0 : W0) (s : State) : Host.Outcome State Fault Refusal :=
  let f := Fields.of32 w0
  issue .elect f (fenced f (electBody f)) s

/-- ELECT in F64 (R222). -/
def execElectF64 (w0 : W0) (w1 : W1) (s : State) : Host.Outcome State Fault Refusal :=
  let f := Fields.of64 w0 w1
  issue .elect f (fenced f (electBody f)) s

/-- MATCH (R223). -/
def execMatchL (w0 : W0) (s : State) : Host.Outcome State Fault Refusal :=
  let f := Fields.of32 w0
  crossOp .matchL f (matchResult f) s

/-- MATCH in F64 (R223). -/
def execMatchLF64 (w0 : W0) (w1 : W1) (s : State) : Host.Outcome State Fault Refusal :=
  let f := Fields.of64 w0 w1
  crossOp .matchL f (matchResult f) s

/-- COMPRESS (R225). -/
def execCompress (w0 : W0) (s : State) : Host.Outcome State Fault Refusal :=
  let f := Fields.of32 w0
  issue .compress f (fenced f (compressBody f)) s

/-- COMPRESS in F64 (R225). -/
def execCompressF64 (w0 : W0) (w1 : W1) (s : State) : Host.Outcome State Fault Refusal :=
  let f := Fields.of64 w0 w1
  issue .compress f (fenced f (compressBody f)) s

/-- EXPAND (R225). -/
def execExpand (w0 : W0) (s : State) : Host.Outcome State Fault Refusal :=
  let f := Fields.of32 w0
  crossOp .expand f (expandResult f) s

/-- EXPAND in F64 (R225). -/
def execExpandF64 (w0 : W0) (w1 : W1) (s : State) : Host.Outcome State Fault Refusal :=
  let f := Fields.of64 w0 w1
  crossOp .expand f (expandResult f) s

end Sys2Proof.Machine
end

