-- ==== Sys2Proof/Machine/Group.lean ====
section
/-! DEFINITION. Groups, posts and waiting on memory, opcodes 0xE0-0xE7 (R35-R37, R112, R113, R285-R288,
R366, R381), and the ends of the waits that time brings (R173, R174). -/

namespace Sys2Proof.Machine

open Sys2Proof

/-- OPERAND 0x0113: a group slot that is not valid (R34). -/
def Coach.slotTrap (c : Coach) (slot : Nat) : Option Trap := operandIf (!c.slotValid slot) 0x0113 slot

/-! ### Contributions (R286) -/

/-- The identity of an operation, as a contribution holds it (R224, R286). -/
def gredId (op ty : Nat) : DWord :=
  if ty < 3 then (foldId op ty).setWidth 64
  else match op with
    | 1 => 0x7FFFFFFFFFFFFFFF#64
    | 2 => 0x8000000000000000#64
    | 3 => BitVec.allOnes 64
    | _ => 0

/-- One combination of GRED: integer adds wrap, float adds round to nearest under IEEE overflow, float minima and maxima
flush their operands as MODE.SUB says (R185, R286). -/
def gredOp (op ty sub : Nat) (a b : DWord) : DWord :=
  if ty < 3 then
    let x : Word := a.setWidth 32
    let y : Word := b.setWidth 32
    (if op = 0 ∧ ty < 2 then x + y else foldStep op ty 1 2 (if op = 0 then 0 else sub) x y).setWidth 64
  else match op with
    | 0 => a + b
    | 1 => if b.slt a then b else a
    | 2 => if a.slt b then b else a
    | 3 => a &&& b
    | 4 => a ||| b
    | _ => a ^^^ b

/-- The value of x[a] as TY takes it (R286). -/
def gredArg (ty : Nat) (x : DWord) : DWord := if ty < 3 then (x.setWidth 32 : Word).setWidth 64 else x

/-- A result as X[d] takes it: I32 sign-extended (R286). -/
def gredExtend (ty : Nat) (r : DWord) : DWord :=
  if ty = 0 then (r.setWidth 32 : Word).signExtend 64 else r

/-- The pending contribution after a GRED (R286, R381). -/
def contribute (old : Option Contribution) (op ty sub : Nat) (x : DWord) : Contribution :=
  match old with
  | none => { op := op, ty := ty, value := gredOp op ty sub (gredId op ty) (gredArg ty x), mixed := false }
  | some k =>
    if k.op = op ∧ k.ty = ty then { k with value := gredOp op ty sub k.value (gredArg ty x) }
    else { k with mixed := true }

/-! ### Arrival (R36, R37) -/

/-- Lanes reach slot `slot`; the coach may arrive (R36). -/
def Coach.reach (c : Coach) (slot : Nat) (act : DWord) : Coach :=
  ({ c with al := c.al.set slot (c.alOf slot ||| act) } : Coach).tryArrive slot

/-- The entry of a path held at a barrier (R37). -/
def State.heldEntry (s : State) (c : Coach) (slot : Nat) (act next : DWord) : Entry :=
  { kind := 2, pc := next, mask := act, rpc := c.rpc, slot := slot, ph := s.parity c slot }

/-- The coach with the GRED of a path that has just been held in the top entry, where it is one (R286). -/
def Coach.noteGred (c : Coach) (e : Entry) (xd : Option Nat) : Coach :=
  { c with gred := match xd with
      | some d => c.gred ++ [{ entry := c.depth - 1, slot := e.slot, ph := e.ph, xd := d, result := none }]
      | none => c.gred }

/-- Hold the path of the lanes of `act`, and run the deferred path `e` on top of the stack: a pop, with its refill, then a
push, with its spill (R31, R37, R373, R398). -/
def State.holdPath (s : State) (l : Launch) (c : Coach) (e : Entry) (slot : Nat) (act next : DWord)
    (xd : Option Nat) : Except Stop State :=
  match s.entryTrap c (c.depth - 1) with
  | some t => .error (.trap t)
  | none =>
    match s.refill l (c.popEntry e) with
    | .error t => .error (.trap t)
    | .ok (s1, c1) =>
      match s1.push l c1 (s.heldEntry c slot act next) with
      | .error stop => .error stop
      | .ok (s2, c2) => .ok (s2.setCoach (c2.noteGred (s.heldEntry c slot act next) xd))

/-- GBAR and GRED once the contribution is made (R37): the coach waits when its arrival is complete, holds
its path when it is not, and waits without an arrival when no other path can run. It continues with its own act. -/
def barrierBody (f : Fields) (slot : Nat) (xd : Option Nat) (s : State) (l : Launch) (c : Coach) :
    Except Stop State :=
  let c1 := c.reach slot (c.act f)
  let wait (arrived : Bool) : Except Stop State :=
    .error (.wait (.barrier slot f.len arrived xd (c.act f)) (s.setCoach c1))
  if !c.arrOf slot && c1.arrOf slot then wait true
  else match c1.stack with
    | e :: _ =>
      if e.kind = 1 then s.holdPath l c1 e slot (c.act f) (c.nextPc f) xd
      else wait false
    | [] => wait false

/-- GBAR in either format (R36, R37): its arrival is a release (R298, R301). -/
def gbarBody (f : Fields) : Body := fun s l c =>
  checked [c.slotTrap f.a.toNat] (whenActive s c f (s.drained c (barrierBody f f.a.toNat none s l c)))

/-- GBAR (R37). -/
def execGbar (w0 : W0) (s : State) : Host.Outcome State Fault Refusal :=
  issue .gbar (.of32 w0) (gbarBody (.of32 w0)) s

/-- GBAR with a predicate (R37). -/
def execGbarF64 (w0 : W0) (w1 : W1) (s : State) : Host.Outcome State Fault Refusal :=
  issue .gbar (.of64 w0 w1) (gbarBody (.of64 w0 w1)) s

/-- GARV in either format: it never waits for the phase (R36, R37). Its arrival is a release (R298, R301). -/
def garvBody (f : Fields) : Body := fun s _ c =>
  checked [c.slotTrap f.a.toNat] (whenActive s c f (s.drained c (finish s (c.reach f.a.toNat (c.act f)) f)))

/-- GARV (R36). -/
def execGarv (w0 : W0) (s : State) : Host.Outcome State Fault Refusal :=
  issue .garv (.of32 w0) (garvBody (.of32 w0)) s

/-- GARV with a predicate (R36). -/
def execGarvF64 (w0 : W0) (w1 : W1) (s : State) : Host.Outcome State Fault Refusal :=
  issue .garv (.of64 w0 w1) (garvBody (.of64 w0 w1)) s

/-- GWAIT (R285). -/
def execGwait (w0 : W0) (s : State) : Host.Outcome State Fault Refusal :=
  let f := Fields.of32 w0
  issue .gwait f (fun s _ c =>
    checked [c.slotTrap f.a.toNat]
      (whenActive s c f
        (if c.arrOf f.a.toNat then .error (.wait (.gwait f.a.toNat) s) else finish s c f))) s

/-- GQRY (R285). -/
def execGqry (w0 : W0) (s : State) : Host.Outcome State Fault Refusal :=
  let f := Fields.of32 w0
  issue .gqry f (fun s _ c =>
    checked [c.slotTrap f.a.toNat]
      (whenActive s c f (finish s (c.setX f.d.toNat
        (BitVec.ofNat 64 (b2n (s.parity c f.a.toNat) + 2 * b2n (c.arrOf f.a.toNat)))) f))) s

/-- GRED (R286). -/
def execGred (w0 : W0) (w1 : W1) (s : State) : Host.Outcome State Fault Refusal :=
  let f := Fields.of64 w0 w1
  issue .gred f (fun s l c =>
    let slot := f.b.toNat
    checked [c.slotTrap slot]
      (whenActive s c f
        (let k := contribute (c.cont.getD slot none) (f.k 5 3) (f.k 1 0) c.sub (c.xr f.a.toNat)
         s.drained c (barrierBody f slot (some f.d.toNat) s l { c with cont := c.cont.set slot (some k) })))) s

/-! ### Completion of a phase (R35, R285, R286, R381) -/

/-- The slot in which a coach has a group (R34). -/
def Coach.slotFor (c : Coach) (g : Nat) : Option Nat :=
  (List.range 4).find? (fun i => c.slotValid i && c.groupOf i == g)

/-- The member coaches of a group, by rank, each with its slot. -/
def State.members (s : State) (q : BitVec 6) (gang g : Nat) : List (Coach × Nat) :=
  (s.coachesOf q gang).filterMap (fun c => (c.slotFor g).map (fun i => (c, i)))

/-- Does a coach count as arrived (R36)? -/
def Coach.hasArrived (c : Coach) (slot : Nat) : Bool := c.arrOf slot || c.ex == c.lanes

/-- Is the phase of a group due to complete: every member has arrived, and some member has done so since the
last phase completed? Exited members alone complete no further phase. -/
def phaseDue (ms : List (Coach × Nat)) : Bool :=
  ms.all (fun m => m.1.hasArrived m.2) && ms.any (fun m => m.1.arrOf m.2)

/-- Take out element i. -/
def takeAt {α : Type} (i : Nat) (xs : List α) : List α := xs.take i ++ xs.drop (i + 1)

/-- Combine values in an order that the manual does not promise (R156, R286): at each turn a free choice of
the next. -/
def foldAnyOrder (pick : Nat → Nat) (op ty : Nat) : Nat → List DWord → DWord → DWord
  | 0, _, acc => acc
  | n + 1, xs, acc =>
    match xs[pick n % (n + 1)]? with
    | none => acc
    | some x => foldAnyOrder pick op ty n (takeAt (pick n % (n + 1)) xs) (gredOp op ty 0 acc x)

/-- The contributions of one core's coaches combined in order; a coach without one contributes the
identity. Each has been flushed as its coach's MODE says (R185). -/
def coreContribution (op ty : Nat) (ks : List (Option Contribution)) : DWord :=
  match ks.map (fun k => match k with
    | some k => k.value
    | none => gredId op ty) with
  | [] => gredId op ty
  | v :: t => t.foldl (gredOp op ty 0) v

/-- Insert a member by rank. -/
def insertMember (m : Coach × Nat) : List (Coach × Nat) → List (Coach × Nat)
  | [] => [m]
  | h :: t => if m.1.rank ≤ h.1.rank then m :: h :: t else h :: insertMember m t

/-- Members by increasing (crew, coach). -/
def byRank (ms : List (Coach × Nat)) : List (Coach × Nat) := ms.foldr insertMember []

/-- The result of a phase; none: no GRED took part (R286). -/
def phaseResult (pick : Nat → Nat) (ms : List (Coach × Nat)) : Option (Nat × DWord) :=
  let sent := (byRank ms).map (fun m => (m.1.core, m.1.sent.getD m.2 none))
  match sent.findSome? (·.2) with
  | none => none
  | some k =>
    let cores := (sent.map (·.1)).eraseDups
    match cores.map (fun core => coreContribution k.op k.ty ((sent.filter (fun r => r.1 == core)).map (·.2))) with
    | [] => none
    | [v] => some (k.ty, v)
    | vs =>
      let i := pick vs.length % vs.length
      some (k.ty, foldAnyOrder pick k.op k.ty (vs.length - 1) (takeAt i vs) (vs.getD i 0))

/-- Did the GREDs of a phase differ in OP or TY (R381)? -/
def phaseMixed (ms : List (Coach × Nat)) : Bool :=
  let ks := ms.filterMap (fun m => m.1.sent.getD m.2 none)
  match ks with
  | [] => false
  | k :: _ => ks.any (fun j => j.mixed || j.op != k.op || j.ty != k.ty)

/-- A coach at the end of its wait continues after the waiting instruction. -/
def Coach.continueAfter (c : Coach) (len : Nat) : Coach :=
  ({ c with wait := .ready, lastPost := none } : Coach).advance len

/-- The wait of an instruction that the completion of slot `sl`'s phase ends: its length, what it
writes, and the act under which a barrier continues (R37, R285, R286). -/
def Wait.released (w : Wait) (sl : Nat) (value : Option DWord) :
    Option (Nat × List (Nat × DWord) × Option DWord) :=
  match w with
  | .barrier s len true xd act =>
    if s = sl then some (len, (match xd, value with
      | some d, some v => [(d, v)]
      | _, _ => []), some act) else none
  | .gwait s => if s = sl then some (4, [], none) else none
  | _ => none

/-- A wait without an arrival becomes one with it (R37, R285). -/
def Wait.arrives (w : Wait) (sl : Nat) (arrived : Bool) : Wait :=
  match w with
  | .barrier s len false xd act => if s = sl && arrived then .barrier s len true xd act else w
  | _ => w

/-- What a suspended wait becomes when a phase completes (R378). -/
def suspendedAfter (sl : Nat) (value : Option DWord) (p : DWord × Wait) : DWord × Wait :=
  match p.2.released sl value with
  | some (len, ws, act) => (p.1, .ended len ws act)
  | none => p

/-- The coach whose wait a completed phase may end: a held path is looked at again by the pop rule. -/
def Coach.release (c : Coach) (sl : Nat) (value : Option DWord) : Coach :=
  match c.wait.released sl value with
  | some (len, ws, act) => { (c.setXs ws).continueAfter len with cm := act.getD c.cm }
  | none => if c.wait = .held then { c with wait := .ready } else c

/-- A member coach when a phase completes (R37, R285, R286, R378); one whose lanes have all exited, none
of them at the slot since, counts as arrived without an arrival. -/
def Coach.phaseEnds (c : Coach) (slot : Nat) (ph : Bool) (r : Option (Nat × DWord)) : Coach :=
  let value := r.map (fun p => gredExtend p.1 p.2)
  let c1 := { c with
    arr := c.arr.set slot false, sent := c.sent.set slot none, wdc := 0
    suspended := c.suspended.map (suspendedAfter slot value)
    gred := c.gred.map (fun (g : GredPending) =>
      if g.slot == slot && g.ph == ph && g.result.isNone then { g with result := value } else g) }
  let exited := c1.ex == c1.lanes && c1.alOf slot == 0 && (c1.cont.getD slot none).isNone
  let c2 := if exited then c1 else (c1.release slot value).tryArrive slot
  { c2 with
    wait := c2.wait.arrives slot (c2.arrOf slot)
    suspended := c2.suspended.map (fun p => (p.1, p.2.arrives slot (c2.arrOf slot))) }

/-- The member whose arrival completed a group's phase: the one that the gang has noted, else the coach that issued last,
since the phase completes before anything else happens. -/
def State.completer (s : State) (g : Gang) (group : Nat) (ms : List (Coach × Nat)) : Option (Coach × Nat) :=
  match ms.find? (fun m => g.mixed.contains (group, m.1.id)) with
  | some m => some m
  | none => match ms.find? (fun m => s.cur == some m.1.id) with
    | some m => some m
    | none => (byRank ms).head?

/-- Has a mixed phase been noted, whose trap waits for the matrix instruction of the member that raises it (R344, R381)? -/
def Gang.mixedWaits (g : Gang) (group : Nat) (ms : List (Coach × Nat)) : Bool :=
  phaseMixed ms && ms.any (fun m => g.mixed.contains (group, m.1.id) && m.1.grid.isSome)

/-- The phase of a group whose GREDs do not agree (R381): EXEC 4 in the member whose arrival completed it, noted until the
member's matrix instruction has ended. -/
def State.mixedPhase (s : State) (g : Gang) (group : Nat) (ms : List (Coach × Nat)) : State :=
  match s.completer g group ms, s.launch? g.q with
  | some (c, slot), some l =>
    if c.grid.isSome then s.setGang { g with mixed := (group, c.id) :: g.mixed }
    else s.takeTrap c { cls := 7, code := 4, info := BitVec.ofNat 64 (slot + 4 * group) } (s.boundarySite l c)
  | _, _ => s

/-- GROUP_PHASE_COMPLETE (R35): the parity flips, and every member is released. -/
def execGroupPhaseComplete (q : BitVec 6) (gang : Nat) (group : BitVec 8) (s : State) :
    Host.Outcome State Fault Refusal :=
  let ms := s.members q gang group.toNat
  match s.gang? q gang, s.launch? q with
  | some g, some _ =>
    if !phaseDue ms || g.mixedWaits group.toNat ms || g.status == .saved then .next s
    else if phaseMixed ms then .next (s.mixedPhase g group.toNat ms)
    else
      let ph := g.parity.getLsbD group.toNat
      let r := phaseResult (fun i => Config.freeNat s.fresh i) ms
      let s1 := s.setGang { g with parity := g.parity ^^^ BitVec.ofNat 256 (2 ^ group.toNat) }
      let s2 := ms.foldl (fun s m => s.setCoach (m.1.phaseEnds m.2 ph r)) s1
      .next (s2.syncCores ((ms.map (·.1.core)).eraseDups))
  | _, _ => .next s

/-! ### Posts (R112, R113, R366) -/

/-- OPERAND 0x0110 of POST and MIGRATE (R366). -/
def Coach.postTrap (l : Launch) (c : Coach) (n : BitVec 16) (migrate : Bool) : Option Trap :=
  operandIf (n == 0xFFFF || n == trapPost || (l.post? n).isNone || c.mxm
      || (migrate && c.lastPost != some n)) 0x0110 (n.toNat + 2 ^ 16 * b2n migrate)

/-- POST (R112). -/
def execPost (w0 : W0) (s : State) : Host.Outcome State Fault Refusal :=
  let f := Fields.of32 w0
  issue .post f (fun s l c =>
    checked [c.postTrap l f.id16 false]
      (whenActive s c f (finish s { c with lpost := some f.id16, wdc := 0 } f))) s

/-- MIGRATE (R113): the coach waits for the scheduler's decision. -/
def execMigrate (w0 : W0) (s : State) : Host.Outcome State Fault Refusal :=
  let f := Fields.of32 w0
  issue .migrate f (fun s l c =>
    checked [c.postTrap l f.id16 true] (whenActive s c f (.error (.wait (.migrate f.id16) s)))) s

/-! ### WAITV (R288) -/

/-- FMT codes that WAITV accepts. -/
def waitvFmtOk (n : Nat) : Bool := n == 0 || n == 5 || n == 6 || n == 7

/-- Timeout of a WAITV in ticks; 0: none (R284, R288). -/
def waitvLimit (c : Coach) (f : Fields) : Nat :=
  if f.form = .f96 then f.lit.toNat else (c.xr f.b.toNat).toNat

/-- The element that WAITV loads. -/
def waitvElem (c : Coach) (f : Fields) : List Elem :=
  let p := c.pr f.a.toNat
  let n := fmtBytes 8 (ptrFmt p)
  [{ lane := 0, ptr := f.a.toNat, p := p, off := 0, size := n, align := n }]

/-- One round of WAITV, in a wait that began at tick `start`: the load that ends the wait carries the
pointer's ORD. The pod-table entry is checked as the wait begins; later rounds (`again`) complete under it (R400). -/
def waitvRound (f : Fields) (start : Nat) (again : Bool) (s : State) (l : Launch) (c : Coach) : Except Stop State :=
  let es := waitvElem c f
  let m : AccessMode := { lanes := false, answered := again }
  let fmt := ptrFmt (c.pr f.a.toNat)
  if s.outstanding c then .error (.wait (.waitv f start) s)
  else match s.loadElems l c f m 0 true es with
  | .error (.wait _ s1) => .error (.wait (.waitv f start) s1)
  | .error (.trap t) => .error (.trap t)
  | .ok (vs, s1) =>
    let v := fmtToDWord fmt [] (vs.getD 0 0)
    let t := waitvLimit c f
    if condX (f.k 3 3 == 1) (f.k 2 0) v (c.xr f.c.toNat) || (t != 0 && decide (start + t ≤ s.time.toNat)) then
      match s.loadElems l c f m 0 false es with
      | .error e => .error e
      | .ok (ws, s2) =>
        finish s2 { c.setX f.d.toNat (fmtToDWord fmt [] (ws.getD 0 0)) with wdc := 0 } f
    else .error (.wait (.waitv f start) (s1.dropAnswers c.id .waitv))

/-- WAITV in either format. -/
def waitvBody (f : Fields) (start : Option Nat) : Body := fun s l c =>
  checked [fmtTrap l c f.a.toNat waitvFmtOk]
    (whenActive s c f (waitvRound f (start.getD s.time.toNat) start.isSome s l c))

/-- WAITV (R288). -/
def execWaitv (w0 : W0) (w1 : W1) (s : State) : Host.Outcome State Fault Refusal :=
  issue .waitv (.of64 w0 w1) (waitvBody (.of64 w0 w1) none) s

/-- WAITV with a literal timeout (R288). -/
def execWaitvF96 (w0 : W0) (w1 : W1) (lit : BitVec 32) (s : State) : Host.Outcome State Fault Refusal :=
  issue .waitv (.of96 w0 w1 lit) (waitvBody (.of96 w0 w1 lit) none) s

/-- WAITV_RECHECK (R288): the coach loads and compares again. -/
def execWaitvRecheck (id : CoachId) (s : State) : Host.Outcome State Fault Refusal :=
  match s.coach? id with
  | none => .next s
  | some c =>
    match c.wait with
    | .waitv f start =>
      if s.running c then issue .waitv f (waitvBody f (some start)) { s with cur := some id } else .next s
    | _ => .next s

/-! ### Waits that time ends (R173, R174) -/

/-- SLEEP_EXPIRY (R174): the coach continues after its SLEEP. -/
def execSleepExpiry (id : CoachId) (s : State) : Host.Outcome State Fault Refusal :=
  match s.coach? id with
  | none => .next s
  | some c =>
    match c.wait with
    | .sleep t len =>
      if s.running c && decide (t ≤ s.time.toNat) then .next (s.setCoach (c.continueAfter len)) else .next s
    | _ => .next s

/-- Is a coach's YIELD over in a slot: another coach has issued there on the core, or 4 cycles have passed and no other
coach of the core is ready (R173)? -/
def State.yieldOver (s : State) (c : Coach) (y : Yielded) : Bool :=
  let k := s.core c.core
  decide (y.issued < (if y.vector then k.issuedVector else k.issued))
    || (decide (y.cycle + 4 ≤ s.cycles)
      && !s.coaches.any (fun d => d.core == c.core && d.id != c.id && s.ready d))

/-- YIELD_EXPIRY (R173): the coach may issue again in the slots where its YIELD is over, its age there starting from 0. -/
def execYieldExpiry (id : CoachId) (s : State) : Host.Outcome State Fault Refusal :=
  match s.coach? id with
  | none => .next s
  | some c =>
    let ended (v : Bool) : Bool := c.yields.any (fun y => y.vector == v && s.yieldOver c y)
    .next (s.setCoach { c with
      yields := c.yields.filter (fun y => !s.yieldOver c y)
      lastScalar := if ended false then s.cycles else c.lastScalar
      lastVector := if ended true then s.cycles else c.lastVector })

end Sys2Proof.Machine
end

