-- ==== Sys2Proof/Machine/Preempt.lean ====
section
/-! DEFINITION. Pre-emption, save, resume and migration of gangs (R54, R61-R64, R113-R115, R322, R382-R384),
and the progress watchdog (R375-R379). -/

namespace Sys2Proof.Machine

open Sys2Proof

/-! ### Stopping gangs (R54, R62, R322) -/

/-- The gangs of which `p` holds stop issuing. -/
def State.stopGangs (s : State) (p : Gang → Bool) : State :=
  { s with gangs := s.gangs.map (fun g =>
      if g.status == .resident && p g then { g with status := .stopping } else g) }

/-- PREEMPT_REQUEST (R322): a write of PREEMPT. -/
def execPreemptRequest (value : BitVec 64) (s : State) : Host.Outcome State Fault Refusal :=
  let w := s.window
  let q : BitVec 6 := value.setWidth 6
  let begun := w.preemptGo && s.gangs.any (fun g => g.q == w.preemptQ && g.status != .resident)
  if !s.booted || begun || (!bit value 8 && w.preemptGo) then .next s
  else if !bit value 8 then .next { s with window := { w with preemptQ := q } }
  else
    let s1 : State := { s with
      window := { w with preemptQ := q, preemptGo := true, preemptDone := false }
      launches := s.launches.map (fun l => { l with preempting := l.q == q && l.terminal.isNone }) }
    let s2 := s1.stopGangs (fun g => g.q == q)
    .next s2.settlePreempt

/-- The position of a run's cluster, die × 6 + cluster. -/
def Run.index (r : Run) : Nat := r.die.toNat * 6 + r.cluster.toNat

/-- Insert a gang, the most recently placed first. -/
def insertRecent (g : Gang) : List Gang → List Gang
  | [] => [g]
  | h :: t => if h.placedAt ≤ g.placedAt then g :: h :: t else h :: insertRecent g t

/-- The gangs of lower levels on a cluster, the most recently placed first (R54). -/
def State.lowerGangs (s : State) (l : Launch) (cl : Nat) : List Gang :=
  (s.gangs.filter (fun g => g.status != .saved && g.run.index == cl
    && decide ((s.queue g.q).level < (s.queue l.q).level))).foldr insertRecent []

/-- Every gang that goes when some must: with COR = 1 a gang's whole step (R54, R42). -/
def State.goers (s : State) (vs : List Gang) : List Gang :=
  s.gangs.filter (fun g => g.status != .saved && vs.any (fun v =>
    v.q == g.q && (v.index == g.index || (match s.launch? v.q with
      | some l => l.cor
      | none => false))))

/-- The state without some gangs' crews. -/
def State.without (s : State) (gs : List Gang) : State :=
  { s with
    crews := s.crews.filter (fun k => !gs.any (fun g => g.q == k.q && g.index == k.gang))
    gangs := s.gangs.filter (fun h => !gs.any (fun g => g.q == h.q && g.index == h.index)) }

/-- What a waiting gang asks of a run: which core each crew may take, and which clusters. -/
structure Need where
  gang : Nat
  since : Nat
  ok : Nat → CoreId → Bool
  clusterOk : Nat → Bool

/-- The gangs whose going frees a run of a cluster, fewest first found (R54). -/
def State.victims (s : State) (l : Launch) (n : Need) (cl : Nat) : Option (List Gang) :=
  let lower := s.lowerGangs l cl
  ((List.range (lower.length + 1)).map (fun k => s.goers (lower.take k))).find? (fun gs =>
    ((s.without gs).runIn l n.gang n.ok cl).isSome)

/-- The cluster where the fewest gangs must go, ties to the lowest. -/
def fewest : List (Nat × List Gang) → Option (Nat × List Gang)
  | [] => none
  | r :: t => match fewest t with
    | none => some r
    | some b => if b.2.length < r.2.length then some b else some r

/-- The clearing that PREEMPT_PRIORITY makes for a waiting gang (R54). -/
def State.clearing (s : State) (l : Launch) (n : Need) : Option (Nat × List Gang) :=
  fewest (((List.range 48).filter (fun cl => l.dies.getLsbD (cl / 6) && n.clusterOk cl && !s.claimed l cl)).filterMap
    (fun cl => (s.victims l n cl).map (fun gs => (cl, gs))))

/-! ### Save slots (R46, R63) -/

/-- First byte of a gang's save slot. -/
def Launch.saveAt (l : Launch) (g : Nat) : Nat := l.save + l.saveSize * g

/-- Offset of a crew's part. -/
def Launch.crewAt (l : Launch) (c : Nat) : Nat := 2048 + c * l.crewSlot

/-- Offset of a coach's record (R63). SCRATCH/128 is rounded up to whole bytes (log 81). -/
def Launch.recordAt (l : Launch) (crew coach : Nat) : Nat :=
  l.crewAt crew + 256 + l.scratch + (l.scratch + 127) / 128 + coach * l.crMax

/-- Core type of a run: 0 wain, 1 gig, 2 both. -/
def runType (cores : List CoreId) : Nat :=
  if cores.all coreGig then 1 else if cores.any coreGig then 2 else 0

/-- The post that a coach stands at, if any (R115). -/
def Coach.postAt (l : Launch) (c : Coach) : Option (BitVec 16) :=
  if c.depth = 0 ∧ c.live = c.notExited ∧ c.mxm = false then
    match c.wait with
    | .migrate n => some n
    | _ => (l.posts.find? (fun p => p.id != trapPost
        && c.pc == BitVec.ofNat 64 (l.imageBase c.image + p.pcOff c.image))).map (·.id)
  else none

/-- ATPOST of a gang (R63, R115). -/
def State.allAtPost (s : State) (l : Launch) (g : Nat) : Bool :=
  (s.coachesOf l.q g).all (fun c => c.retired || (c.postAt l).isSome)

/-- The words of the save slot for the groups (R63). -/
def State.groupWords (s : State) (l : Launch) (g : Gang) : List Byte :=
  (List.range 256).flatMap (fun n => natLe 4
    (if n < l.ng then ((s.members l.q g.index n).filter (fun m => m.1.hasArrived m.2)).length
      + b2n (g.parity.getLsbD n) * 2 ^ 10 else 0))

/-- The head of a save slot. -/
def State.slotHead (s : State) (l : Launch) (g : Gang) (pts : BitVec 16) (cores : List CoreId) : List Byte :=
  padTo 2048 (padTo 256 (natLe 8 (1 + b2n (s.allAtPost l g.index) * 2 + runType cores * 4)
    ++ natLe 8 pts.toNat ++ natLe 8 g.index ++ natLe 8 g.step) ++ s.groupWords l g)

/-- Full-empty bits of a crew's region, granule 0 in bit 0. -/
def State.fullBytes (s : State) (k : Crew) : List Byte :=
  let full := (s.core k.core).full
  (List.range ((k.scratch + 127) / 128)).map (fun i =>
    BitVec.ofNat 8 ((List.range 8).foldl (fun acc j =>
      acc + b2n (decide (8 * i + j < k.scratch / 16) && full.contains (k.base / 16 + 8 * i + j)) * 2 ^ j) 0))

/-- A crew's part of the save slot, with the coach records each at its place. -/
def State.crewParts (s : State) (l : Launch) (k : Crew) : List (Nat × List Byte) :=
  (l.crewAt k.crew, k.stash.flatMap (fun e => natLe 16 e.toNat) ++ s.storeBytes k.core k.base k.scratch
      ++ s.fullBytes k)
    :: ((s.coachesOf k.q k.gang).filter (fun c => c.id.crew == k.crew)).map (fun c =>
      (l.recordAt k.crew c.id.coach, c.recordBody ++ k.slotArea))

/-- The first piece of a range that the scheduler may not write, and its check. -/
def State.writeFails (s : State) (p : Party) (va n : Nat) : Option (Breach × Nat) :=
  (piecesOf va n).findSome? (fun q => (s.ctxWriteBreach p q.1 q.2).map (fun b => (b, q.1)))

/-- The first piece of a range that the scheduler may not read, and its check. -/
def State.readFails (s : State) (p : Party) (va n : Nat) : Option (Breach × Nat) :=
  (piecesOf va n).findSome? (fun q => match s.ctxRead p q.1 q.2 with
    | .error b => some (b, q.1)
    | .ok _ => none)

/-- Write parts whose checks have passed; lines that they cover whole lose their poison (R397). -/
def State.writeParts (s : State) (p : Party) (base : Nat) (parts : List (Nat × List Byte)) : State :=
  (parts.foldl (fun s q => s.writePieces p (base + q.1) q.2 (piecesOf (base + q.1) q.2.length)) s).unpoisonVa p
    (parts.map (fun q => (2 * (base + q.1), 2 * q.2.length)))

/-! ### PREEMPT_SAVE (R62, R63, R383) -/

/-- A stopped coach that has nothing under way (R62). -/
def Coach.atRest (c : Coach) : Bool :=
  c.charg.isNone && c.answers.isEmpty && c.grid.isNone
    && (match c.wait with
      | .remote | .dray _ _ _ | .swcall _ => false
      | _ => true)
    && (match c.suspended with
      | some (_, .swcall _) => false
      | _ => true)

/-- A stopping gang has drained: its coaches rest, no pop is left to do, and no access or queue entry of it is under way
(R62, R165). A gang whose last coach has retired retires. -/
def State.gangDrained (s : State) (q : BitVec 6) (g : Nat) : Bool :=
  (s.coachesOf q g).all (fun c => (c.retired || c.atRest) && !s.popDue c)
    && !(s.coachesOf q g).all (·.retired) && s.gangQuiet q g

/-- The coach that a gang-level event names: the lowest (crew, coach) (R370). -/
def State.gangCoach (s : State) (q : BitVec 6) (g : Nat) : Option Coach :=
  ((byRank ((s.coachesOf q g).map (fun c => (c, 0)))).head?).map (·.1)

/-- A trap of a coach between its instructions, as those in the name of a gang and the WATCHDOG's. -/
def State.gangTrap (s : State) (l : Launch) (c : Coach) (t : Trap) : State := s.takeTrap c t (s.boundarySite l c)

/-- The poison that saving a gang would consume: a register, a granule, or a dirty stash line (R397,
R398). -/
def State.saveTrap (s : State) (q : BitVec 6) (g : Nat) : Option Trap :=
  if s.poison.isEmpty && s.steward.healthyDies == 0xFF#8 then none
  else
    let ks := s.crews.filter (fun k => k.q == q && k.gang == g)
    firstTrap
      [if (s.coachesOf q g).any (fun c => s.coachPoisoned c.id) then some { cls := 11, code := 2 } else none,
        ks.findSome? (fun k => (List.range (k.scratch / 16)).findSome? (fun i =>
          (s.readHazard (.store k.core (k.base + 16 * i)) 16).map (fun code =>
            { cls := 11, code := code, addr := BitVec.ofNat 64 (16 * i) }))),
        ks.findSome? (fun k => s.writeBackTrap k k.lines)]

/-- The trap of a save slot that cannot be written (R383). -/
def saveSlotTrap (r : Breach × Nat) : Trap :=
  if r.1.cls = 6 then { cls := 7, code := 6, addr := BitVec.ofNat 64 r.2 } else r.1.trap r.2

/-- TL slots with a stopped command of a coach, and the command's address (R270). -/
def State.commandsOf (s : State) (c : Coach) : List (Nat × DWord × Bool) :=
  match s.crewOf c with
  | none => []
  | some k => (List.range k.tl.length).filterMap (fun i => match k.tl[i]? with
    | some t => if t.busy && t.own == c.id.coach then some (i, t.command, t.trapped) else none
    | none => none)

/-- The largest pts of cores (R63). -/
def State.largestPts (s : State) (cores : List CoreId) : BitVec 16 :=
  match cores with
  | [] => 0
  | k :: rest => rest.foldl (fun t j => smax t (s.core j).pts) (s.core k).pts

/-- The private writes that a die's L2 holds of other dies' lines are written back, so that its gang finds them wherever
it resumes (R62, R64). -/
def State.writeBackDie (s : State) (d : BitVec 3) : State :=
  (s.remote.filter (fun r => r.die == d)).foldl (fun s r => s.writeBack r.line) s

/-- The state with a stopped gang saved and its resources freed (R62, R63). -/
def State.saveGang (s : State) (l : Launch) (g : Gang) : State :=
  let p := l.scheduler
  let base := l.saveAt g.index
  let ks := s.crews.filter (fun k => k.q == g.q && k.gang == g.index)
  let cores := ks.map (·.core)
  let parts := (0, s.slotHead l g (s.largestPts cores) cores) :: ks.flatMap (s.crewParts l)
  let saved : Gang := { g with
    status := .saved, atPost := s.allAtPost l g.index, waitSince := s.time.toNat, placedAt := s.fresh, image := parts
    side := (s.coachesOf g.q g.index).map (fun c => { coach := c, commands := s.commandsOf c }) }
  let s1 := (s.writeParts p base parts).freeGang g.q g.index
  (s1.setGang saved).settlePreempt

/-- PREEMPT_SAVE (R63): the stash is written back, then the slot is written. -/
def execPreemptSave (q : BitVec 6) (gang : Nat) (s : State) : Host.Outcome State Fault Refusal :=
  match s.gang? q gang, s.launch? q, s.gangCoach q gang with
  | some g, some l, some c =>
    if g.status != .stopping || l.terminal.isSome || !s.gangDrained q gang then .next s
    else
      match s.saveTrap q gang with
      | some t => .next (s.gangTrap l c t)
      | none =>
        let s1 := (s.returnStash q gang).writeBackDie g.run.die
        match s1.writeFails l.scheduler (l.saveAt gang) (l.crewAt l.crewCount) with
        | some r => .next (s1.gangTrap l c (saveSlotTrap r))
        | none => .next (s1.saveGang l g)
  | _, _, _ => .next s

/-! ### GANG_RESUME (R64, R114, R384) -/

/-- A piece of a save slot from offset `off` on, as a resume takes it: what software has changed since the save holds
undefined values (R384, R3). -/
def Gang.slotBytes (g : Gang) (off : Nat) (bs : List Byte) : List Byte :=
  match g.image.find? (fun r => r.1 == off) with
  | none => bs
  | some (_, saved) =>
    (List.range bs.length).map (fun i => match saved[i]? with
      | some v => if bs.getD i 0 = v then v else BitVec.ofNat 8 (Config.freeNat g.placedAt (off + i))
      | none => bs.getD i 0)

/-- May a binding that a save slot gives be restored: it lies in the crew's own region, so that no slot that software has
changed reaches the state of another context (R98, R384)? -/
def bindingOk (scratch : Nat) (e : BitVec 128) : Bool :=
  bindValid e && bindOff e % 128 == 0 && bindLen e % 128 == 0 && bindVa e % 128 == 0
    && decide (bindOff e + bindLen e ≤ scratch)

/-- Bindings of a save slot's crew header (R63, R98). -/
def bindingsFrom (scratch : Nat) (bs : List Byte) : List (BitVec 128) :=
  (List.range 16).map (fun i =>
    let e := BitVec.ofNat 128 (numAt bs (16 * i) 16)
    if bindingOk scratch e then e else 0)

/-- Do two bindings overlap in global addresses? -/
def bindsOverlap (a b : BitVec 128) : Bool :=
  bindValid a && bindValid b && decide (bindVa a < bindVa b + bindLen b)
    && decide (bindVa b < bindVa a + bindLen a)

/-- Bindings that a saved gang would restore, as far as they can be read. -/
def State.savedBindings (s : State) (l : Launch) (g : Gang) : List (BitVec 128) :=
  (List.range l.crewCount).flatMap (fun c =>
    match s.ctxRead l.scheduler (l.saveAt g.index + l.crewAt c) 256 with
    | .error _ => []
    | .ok bs => bindingsFrom l.scratch (g.slotBytes (l.crewAt c) bs))

/-- A cluster where no binding of another gang overlaps the given ones (R55, R392). -/
def State.bindingsFit (s : State) (l : Launch) (g : Nat) (es : List (BitVec 128)) (cl : Nat) : Bool :=
  s.crews.all (fun k =>
    (k.q == l.q && k.gang == g) || (runAt cl 0).die != k.core.die || (runAt cl 0).cluster != k.core.cluster
      || s.ctxOf k.q != some l.ctx || !k.stash.any (fun e => es.any (bindsOverlap e)))

/-- The image that a crew ran when its gang was saved. -/
def Gang.savedImage (g : Gang) (crew : Nat) : Nat :=
  ((g.side.find? (fun d => d.coach.id.crew == crew)).map (·.coach.image)).getD 0

/-- May a saved gang resume on cores of either type: ATPOST in its slot says so; what software has changed of it, or of the
saving run's core type, is undefined (R63, R115, R384)? -/
def State.eitherType (s : State) (l : Launch) (g : Gang) : Bool :=
  l.twoImg && (match s.ctxRead l.scheduler (l.saveAt g.index) 8 with
    | .error _ => g.atPost
    | .ok bs =>
      let flags := numAt (g.slotBytes 0 bs) 0 1
      flags.testBit 1 || g.image.any (fun r => r.1 == 0 && numAt r.2 0 1 / 4 % 4 != flags / 4 % 4))

/-- What a saved gang asks of a run (R64, R115). -/
def State.resumeNeed (s : State) (l : Launch) (g : Gang) : Need :=
  { gang := g.index, since := g.waitSince
    ok := fun c k => imageFor k == g.savedImage c || s.eitherType l g
    clusterOk := s.bindingsFit l g.index (s.savedBindings l g) }

/-- The run on which a saved gang resumes, if one is free; a migrating gang has one reserved (R382). -/
def State.resumption (s : State) (l : Launch) (g : Gang) : Option Run :=
  if g.status == .saved && l.placing then
    match g.reserved with
    | some r => if (s.resumeNeed l g).clusterOk r.index then some r else none
    | none => s.findRun l g.index (s.resumeNeed l g).ok (s.resumeNeed l g).clusterOk
  else none

/-- Every part of a save slot as (offset, length): the head, and each crew's part. -/
def Launch.slotParts (l : Launch) : List (Nat × Nat) :=
  (0, 2048) :: (List.range l.crewCount).map (fun c => (l.crewAt c, l.recordAt c l.coachCount - l.crewAt c))

/-- EXEC 0x0005 (R370). -/
def resumeTrap (addr reason : Nat) : Trap :=
  { cls := 7, code := 5, addr := BitVec.ofNat 64 addr, info := BitVec.ofNat 64 reason }

/-- The trap of a save slot that cannot be read (R384, R398). -/
def slotReadTrap (r : Breach × Nat) : Trap :=
  if r.1.cls = 6 then resumeTrap r.2 5
  else if r.1.cls = 11 ∧ r.1.code = 4 then { cls := 11, code := 6, addr := BitVec.ofNat 64 r.2 }
  else r.1.trap r.2

/-- Is some byte of a string from an offset on not 0? -/
def anySet (bs : List Byte) (off n : Nat) : Bool := ((bs.drop off).take n).any (· != 0)

/-- A reserved-zero bit of a slot's header, its first 2,048 bytes, is set (R63, R384; log 91). -/
def headReserved (head : List Byte) : Bool :=
  numAt head 0 8 / 16 != 0 || numAt head 24 8 / 64 != 0 || anySet head 32 224
    || (List.range 256).any (fun n => numAt head (256 + 4 * n) 4 / 2 ^ 11 != 0) || anySet head 1280 768

/-- The first of reasons 1-4 that a readable slot breaks, with the address (R384). -/
def Launch.slotReason (l : Launch) (g : Gang) (head : List Byte) (recs : List (Nat × List Byte)) :
    Option (Nat × Nat) :=
  let base := l.saveAt g.index
  let bad (p : List Byte → Bool) : Option Nat := (recs.find? (fun r => p r.2)).map (fun r => base + r.1)
  if numAt head 0 8 % 2 = 0 then some (base, 1)
  else if headReserved head then some (base, 2)
  else match bad headBad with
    | some a => some (a, 2)
    | none =>
      if numAt head 16 8 ≠ g.index then some (base + 16, 3)
      else if numAt head 24 8 % 64 ≠ g.step then some (base + 24, 3)
      else (bad (fun b => countBad b || tagBad b)).map (fun a => (a, 4))

/-- Undefined V register: an undefined value under an undefined tag (R114). -/
def freeV (fresh key w : Nat) : VReg :=
  let word (j : Nat) : Word := (Config.freeDWord fresh (key + j)).setWidth 32
  match Config.freeNat fresh key % 3 with
  | 0 => .u (word 0)
  | 1 => .a (word 0) (word 1)
  | _ => .g ((List.range w).map word)

/-- The source of a register of the entered image by the post's map: kind and index (R111, R114). -/
def Post.source (p : Post) (img kind n : Nat) : Option Nat :=
  (p.map.find? (fun e => e.1 == kind && (if img = 0 then e.2.1 else e.2.2) == n)).map
    (fun e => if img = 0 then e.2.2 else e.2.1)

/-- A register file of the entered image: mapped registers move, the others are undefined (R114). -/
def enterFile {α : Type} (n : Nat) (source : Nat → Option Nat) (old free : Nat → α) : List α :=
  (List.range n).map (fun i => match source i with
    | some j => old j
    | none => free i)

/-- A coach that enters the other image at a post (R114). Its RPC becomes none (log 85). -/
def Coach.enterImage (c : Coach) (l : Launch) (img fresh : Nat) (p : Post) : Coach :=
  let key (kind i : Nat) : Nat := (c.rank * 8 + kind) * 65536 + 128 * i
  let wide (kind i n : Nat) : Nat := (List.range n).foldl
    (fun acc j => acc + (Config.freeDWord fresh (key kind i + j)).toNat * 2 ^ (64 * j)) 0
  let c1 := { c with
    image := img
    pc := BitVec.ofNat 64 (l.imageBase img + p.pcOff img)
    v := enterFile (l.nV img) (p.source img 0) c.vr (fun i => freeV fresh (key 0 i) c.width)
    x := enterFile (l.nX img) (p.source img 1) c.xr (fun i => Config.freeDWord fresh (key 1 i))
    p := enterFile (l.nP img) (p.source img 2) c.pr (fun i => BitVec.ofNat 128 (wide 2 i 2))
    str := enterFile (l.nS img) (p.source img 3) c.sr (fun i => BitVec.ofNat 384 (wide 3 i 6))
    m := enterFile 8 (p.source img 4) c.mr (fun i => Config.freeDWord fresh (key 4 i) &&& c.lanes)
    mxs := 0, stack := [], depth := 0, rpc := noPc, lor := [none, none, none] }
  c1.setX (p.st img) 0

/-- A coach from its record in a save slot: the group slots, the depth and the origin records too (R84). -/
def Coach.fromSlot (c : Coach) (bs : List Byte) : Coach :=
  let lor (off : Nat) : Option Nat := if numAt bs off 1 = 255 then none else some (numAt bs off 1)
  { c.loadRecord bs with
    g := (List.range 4).map (fun s => BitVec.ofNat 9 (numAt bs 88 8 / 2 ^ (16 * s)))
    depth := numAt bs 98 4, lor := [lor 102, lor 103, lor 168] }

/-- The wait with which a coach comes back: that of a barrier stands, every other instruction issues again
(R62, R64). -/
def Wait.atResume (w : Wait) : Wait :=
  match w with
  | .barrier _ _ _ _ _ => w
  | _ => .ready

/-- The wait to which the handler of a resumed coach returns: that of full-empty bits forms again on the granules of the
new cores (R64, R378). -/
def Wait.suspendedAtResume (w : Wait) : Wait :=
  match w with
  | .fe _ _ => .ready
  | _ => w

/-- The post record that a resume re-arms (R366). -/
def Wait.armed (w : Wait) : Option (BitVec 16) :=
  match w with
  | .migrate n => some n
  | _ => none

/-- A coach resumed on a core (R64, R112, R114, R366, R376): a MIGRATE is armed again where its PC still lies on it. One that
enters the other image at no post, as a changed slot may have it, goes on anywhere in it (R384). -/
def CoachSide.resume (d : CoachSide) (l : Launch) (core : CoreId) (bs : List Byte) (fresh now : Nat) : Coach :=
  let c := d.coach.fromSlot bs
  let at_ := d.coach.postAt l
  let c1 := if imageFor core = c.image then c
    else match at_.bind l.post? with
      | some p => c.enterImage l (imageFor core) fresh p
      | none =>
        let off := Config.freeNat fresh (c.rank * 8 + 7)
        c.enterImage l (imageFor core) fresh ⟨0, 255, 255, off, off, []⟩
  { c1 with
    core := core, wdc := 0, answers := [], charg := none, yields := [], lastScalar := now, lastVector := now
    wait := d.coach.wait.atResume, suspended := d.coach.suspended.map (fun p => (p.1, p.2.suspendedAtResume))
    lpost := at_, lastPost := if imageFor core = c.image then d.coach.wait.armed else none }

/-- The pieces of a save slot that can be read, in order. -/
def State.slotBytes (s : State) (p : Party) (va n : Nat) : List Byte :=
  match s.ctxRead p va n with
  | .ok bs => bs
  | .error _ => []

/-- Restore a crew from its part of the slot: bindings, slots, the region and its full-empty bits. -/
def State.restoreCrew (s : State) (l : Launch) (g : Gang) (part slots : List Byte) (k : Crew) : State :=
  let cmds := (g.side.filter (fun d => d.coach.id.crew == k.crew)).flatMap (·.commands)
  let k1 := ({ k with stash := bindingsFrom l.scratch part } : Crew).loadSlots slots
  let k2 := { k1 with tl := (List.range k1.tl.length).map (fun i =>
    let t := k1.tl.getD i TlSlot.empty
    match cmds.find? (fun r => r.1 == i) with
    | some r => { t with command := r.2.1, trapped := r.2.2 }
    | none => t) }
  let s1 := (s.setCrew k2).storeWrite k.core k.base ((part.drop 256).take l.scratch)
  (List.range (l.scratch / 16)).foldl (fun s i =>
    s.setFull k.core (k.base / 16 + i) ((numAt part (256 + l.scratch + i / 8) 1).testBit (i % 8))) s1

/-- The parities of a save slot's groups. -/
def parityFrom (head : List Byte) : BitVec 256 :=
  BitVec.ofNat 256 ((List.range 256).foldl (fun acc n =>
    acc + b2n ((numAt head (256 + 4 * n) 4).testBit 10) * 2 ^ n) 0)

/-- The count of coaches that have arrived in a group's phase, in a slot's head (R63). -/
def arrivalCount (head : List Byte) (n : Nat) : Nat := numAt head (256 + 4 * n) 4 % 1024

/-- Where software has changed a group's count of arrivals in the slot, which of its members have arrived is undefined
(R384, R3). -/
def State.freeArrivals (s : State) (l : Launch) (g : Gang) (head : List Byte) : State :=
  (List.range l.ng).foldl (fun s n =>
    if g.image.any (fun r => r.1 == 0 && arrivalCount r.2 n != arrivalCount head n) then
      (s.members l.q g.index n).foldl (fun s m =>
        s.setCoach { m.1 with arr := m.1.arr.set m.2 (Config.freeBool g.placedAt (m.1.rank * 256 + n)) }) s
    else s) s

/-- The state with a saved gang resumed on a run (R64). -/
def State.resumeGang (s : State) (l : Launch) (g : Gang) (r : Run) (head : List Byte)
    (recs : List (CoachId × List Byte)) : State :=
  let p := l.scheduler
  let base := l.saveAt g.index
  let pts : BitVec 16 := BitVec.ofNat 16 (numAt head 8 8)
  let s1 := s.settleCrews l g.index r
  let ks := s1.crews.filter (fun k => k.q == l.q && k.gang == g.index)
  let slotsOf (crew : Nat) : List Byte :=
    match recs.find? (fun r => r.1.crew == crew && r.1.coach == 0) with
    | some (_, bs) => bs.drop (recordBodySize (l.nX (g.savedImage crew)) (l.nP (g.savedImage crew))
        (l.nS (g.savedImage crew)) l.width (recordTags bs (l.nV (g.savedImage crew))))
    | none => []
  let s2 := ks.foldl (fun t k => t.restoreCrew l g
    (g.slotBytes (l.crewAt k.crew)
      (s.slotBytes p (base + l.crewAt k.crew) (256 + l.scratch + (l.scratch + 127) / 128))) (slotsOf k.crew) k) s1
  let s3 := ks.foldl (fun t k => t.learn k.core pts) s2
  let s4 := g.side.foldl (fun t d =>
    match recs.find? (fun r => r.1 == d.coach.id) with
    | some (_, bs) => t.setCoach (d.resume l (r.core d.coach.id.crew) bs s.fresh s.cycles)
    | none => t) s3
  let s5 := (s4.freeArrivals l g head).setGang { g with
    run := r, placedAt := s.fresh, status := .resident, reserved := none, side := [], image := [], atPost := false
    parity := parityFrom head }
  (s5.mapLaunch l.q (fun l => { l with lastCluster := some r.index, claim := none })).offer l.q

/-- The coach that stands for a saved gang in a record (R370). -/
def Gang.sideCoach (g : Gang) : Option Coach := ((byRank (g.side.map (fun d => (d.coach, 0)))).head?).map (·.1)

/-- GANG_RESUME (R64, R384). -/
def execGangResume (q : BitVec 6) (gang : Nat) (s : State) : Host.Outcome State Fault Refusal :=
  match s.gang? q gang, s.launch? q with
  | some g, some l =>
    match s.resumption l g, g.sideCoach with
    | some r, some c =>
      let p := l.scheduler
      let base := l.saveAt gang
      match l.slotParts.findSome? (fun q => s.readFails p (base + q.1) q.2) with
      | some e => .next (s.gangTrap l c (slotReadTrap e))
      | none =>
        let head := s.slotBytes p base 2048
        let recs := g.side.map (fun d => (d.coach.id,
          s.slotBytes p (base + l.recordAt d.coach.id.crew d.coach.id.coach) l.crMax))
        match l.slotReason g head (recs.map (fun r => (l.recordAt r.1.crew r.1.coach, r.2))) with
        | some (a, n) => .next (s.gangTrap l c (resumeTrap a n))
        | none => .next (s.resumeGang l g r (g.slotBytes 0 head) (recs.map (fun r =>
            (r.1, g.slotBytes (l.recordAt r.1.crew r.1.coach) r.2))))
    | _, _ => .next s
  | _, _ => .next s

/-! ### PREEMPT_PRIORITY (R54) -/

/-- The gangs of a launch that wait for a run: saved ones, then the next to be placed. -/
def State.waiting (s : State) (l : Launch) : List Need :=
  ((s.gangs.filter (fun g => g.q == l.q && g.status == .saved && g.reserved.isNone)).map (s.resumeNeed l))
    ++ (if l.nextGang < l.gangCount then
        [{ gang := l.nextGang, since := l.waitSince, ok := anyCore, clusterOk := fun _ => true }] else [])

/-- Is the clearing of a cluster under way? -/
def State.clearingNow (s : State) (l : Launch) : Bool :=
  match l.claim with
  | none => false
  | some cl => s.gangs.any (fun g => g.run.index == cl && g.status == .stopping)

/-- The clearing that is due for a waiting gang (R54). -/
def State.priorityClearing (s : State) (l : Launch) (n : Need) : Option (Nat × List Gang) :=
  if (s.queue l.q).pre && l.placing && decide (n.since + Config.preemptWait ≤ s.time.toNat)
      && !s.clearingNow l && (s.findRun l n.gang n.ok n.clusterOk).isNone then
    s.clearing l n
  else none

/-- PREEMPT_PRIORITY (R54). -/
def execPreemptPriority (q : BitVec 6) (gang : Nat) (s : State) : Host.Outcome State Fault Refusal :=
  match s.launch? q with
  | none => .next s
  | some l =>
    match (s.waiting l).find? (fun n => n.gang == gang) with
    | none => .next s
    | some n =>
      match s.priorityClearing l n with
      | none => .next s
      | some (cl, gs) =>
        .next ((s.stopGangs (fun g => gs.any (fun h => h.q == g.q && h.index == g.index))).setLaunch
          { l with claim := some cl })

/-! ### MIGRATE_DECISION (R113, R382) -/

/-- The post IDs that a gang's coaches wait at; none: some coach that has not retired does not wait at a
MIGRATE, or its gang is stopping. -/
def State.migrating (s : State) (q : BitVec 6) (g : Nat) : Option (List (Coach × BitVec 16)) :=
  let cs := (s.coachesOf q g).filter (fun c => !c.retired)
  let ws := cs.filterMap (fun c => match c.wait with
    | .migrate n => some (c, n)
    | _ => none)
  if ws.length = cs.length ∧ ws ≠ [] then some ws else none

/-- Diverged, or in matrix mode (R113). -/
def Coach.notAtRest (c : Coach) : Bool := c.depth != 0 || c.live != c.notExited || c.mxm

/-- The run of the other type for a gang (R113): every crew changes its type (log 84). -/
def State.otherRun (s : State) (l : Launch) (g : Gang) : Option Run :=
  let image (w : Nat) : Nat :=
    ((s.coachesOf l.q g.index).find? (fun c => c.id.crew == w)).elim 0 (·.image)
  let es := (s.crews.filter (fun k => k.q == l.q && k.gang == g.index)).flatMap (·.stash)
  s.findRun l g.index (fun w k => imageFor k != image w) (s.bindingsFit l g.index es)

/-- The status of a decline, or the run of a grant (R113). -/
def State.migrateAnswer (s : State) (l : Launch) (g : Gang) (ws : List (Coach × BitVec 16)) : Except Nat Run :=
  if !l.twoImg then .error 2
  else if ws.any (fun w => ws.any (fun v => v.2 != w.2)) then .error 4
  else if ws.any (fun w => w.1.notAtRest) then .error 3
  else match s.otherRun l g with
    | none => .error 1
    | some r => .ok r

/-- MIGRATE_DECISION (R113). DEDUCED (log 25): a granted migration stops its own gang alone also in a step of a COR launch,
whose other gangs do not issue meanwhile (R42, R382). -/
def execMigrateDecision (q : BitVec 6) (gang : Nat) (s : State) : Host.Outcome State Fault Refusal :=
  match s.gang? q gang, s.launch? q, s.migrating q gang with
  | some g, some l, some ws =>
    if g.status != .resident || l.terminal.isSome then .next s
    else match s.migrateAnswer l g ws with
      | .ok r =>
        .next ((ws.foldl (fun s w => s.setCoach { w.1 with wdc := 0 }) s).setGang
          { g with status := .stopping, reserved := some r })
      | .error e =>
        .next (ws.foldl (fun s w =>
          let st := match l.post? w.2 with
            | some p => p.st w.1.image
            | none => 255
          s.setCoach (({ w.1.setX st (BitVec.ofNat 64 e) with wdc := 0 } : Coach).continueAfter 4)) s)
  | _, _, _ => .next s

/-! ### The watchdog (R375-R379) -/

/-- Does WDC advance: resident, not asleep, and not stopping (R376)? -/
def State.watched (s : State) (c : Coach) : Bool :=
  !c.retired
    && (match c.wait with
      | .sleep _ _ => false
      | _ => true)
    && (match s.gang? c.id.q c.id.gang, s.launch? c.id.q with
      | some g, some l => g.status == .resident && l.terminal.isNone
      | _, _ => false)

/-- Has WDC reached the limit at an instruction boundary of the coach (R376, R378)? A matrix instruction in flight is
followed by its end or a checkpoint, which is progress (R344). A CHRUN that waits under its prefix is not exempt: the pair
is interrupted at its CHARG (R364). -/
def State.watchdogDue (s : State) (c : Coach) : Bool :=
  s.wdogLive != 0 && decide (s.wdogLive.toNat ≤ c.wdc) && s.watched c && c.grid.isNone

/-- The address, as a record shows it, of the lowest granule that a load still waits on (R347, R377). -/
def State.feAddr (s : State) (l : Launch) (c : Coach) (f : Fields) : Nat :=
  let rs := located ((c.ldElems s f).map (fun e => (e, s.elemLoc (l.party (some c.core)) c e)))
  let waits := rs.filterMap (fun r => match r.2 with
    | .store k a => if s.isFull k (a / 16) then none else some (r.1.addr - r.1.addr % 16).toNat
    | _ => none)
  match waits with
  | [] => 0
  | a :: rest => rest.foldl min a

/-- The join of the full window that holds a dray line back, or its completion add (R59, R274, R279). -/
def State.drayJoin (s : State) (c : Coach) : Nat :=
  if Config.windowSize ≤ (s.sender (.drayNetwork c.core)).entries.length then 1 else 3

/-- INFO of a wait on a group's phase (R377). -/
def State.phaseInfo (s : State) (c : Coach) (slot : Nat) : Nat :=
  let g := c.groupOf slot
  slot % 4 + g * 4
    + ((s.members c.id.q c.id.gang g).filter (fun m => m.1.hasArrived m.2)).length % 1024 * 2 ^ 10
    + b2n (s.parity c slot) * 2 ^ 20 + b2n (c.arrOf slot) * 2 ^ 21

/-- Code, ADDR and INFO of a WATCHDOG trap (R377). -/
def State.watchdogTrap (s : State) (l : Launch) (c : Coach) : Trap :=
  let t (code : Nat) (info addr : Nat) : Trap :=
    { cls := 8, code := code, info := BitVec.ofNat 64 info, addr := BitVec.ofNat 64 addr }
  match c.wait with
  | .barrier slot _ _ _ _ => t 2 (s.phaseInfo c slot) 0
  | .gwait slot => t 2 (s.phaseInfo c slot) 0
  | .held => t 3 (s.phaseInfo c (c.stack.head?.elim 0 (·.slot))) 0
  | .fe f _ => t 4 0 (s.feAddr l c f)
  | .waitv f _ => t 5 0 (ptrBase (c.pr f.a.toNat))
  | .migrate n => t 6 n.toNat 0
  | .tlSlot slot owner => t 7 (slot % 16 + owner % 16 * 16) 0
  | .window join => t 8 join 0
  | .dray _ _ _ => t 8 (s.drayJoin c) 0
  | .engine _ => t 9 0 0
  | .swcall n => t 10 n.toNat 0
  | _ => t 1 0 0

/-- WATCHDOG_EXPIRY (R376, R377). -/
def execWatchdogExpiry (id : CoachId) (s : State) : Host.Outcome State Fault Refusal :=
  match s.coach? id with
  | none => .next s
  | some c =>
    match s.launch? id.q with
    | none => .next s
    | some l => .next (if s.watchdogDue c then s.gangTrap l c (s.watchdogTrap l c) else s)

end Sys2Proof.Machine
end

