-- ==== Sys2Proof/Machine/Platform.lean ====
section
/-! DEFINITION. The tick, the steward and the platform: time and leases (R5, R307-R309, R396), health (R353),
boot and attestation (R325, R326), failures of cores, dies, ports and links (R403-R410), soft errors (R397,
R398), and worlds (R324). -/

namespace Sys2Proof.Machine

open Sys2Proof

/-! ### TICK (R5, R307, R376, R396) -/

/-- A core after a tick: its time, re-based, and the leases that are not too far away (R307, R396). -/
def Core.tick (k : Core) (dt : BitVec 16) : Core :=
  let pts := rebase dt (k.pts + 1)
  { k with pts := pts, know := rebase pts k.know, copies := nearCopies pts k.copies }

/-- DT of a die takes in its cores' times; mts is re-based (R309). -/
def Die.tick (d : Die) (times : List (BitVec 16)) : Die :=
  let dt := times.foldl smax d.dt
  { d with dt := dt, mts := rebase dt d.mts, last := rebase dt d.last }

/-- Ticks within which the scrubber visits every line (R396). -/
def scrubPeriod : Nat := 4096

/-- The timestamps of the lines after a tick: the scrubber has visited every line by the end of its period (R396). -/
def scrubbed (now : Nat) (dt : BitVec 3 → BitVec 16) (ts : List LineStamp) : List LineStamp :=
  if now % scrubPeriod = 0 then ts.map (fun t => t.rebased (dt (homeDie (128 * t.line)))) else ts

/-- The dirty copies of other dies' lines that the L2s happen to replace in a tick (R7, R104). -/
def State.evictSome (s : State) : State :=
  (s.remote.filter (fun r => Config.freeBool s.fresh (2 ^ 42 + r.line))).foldl (fun s r => s.writeBack r.line) s

/-- A coach after a tick (R376). -/
def State.tickCoach (s : State) (c : Coach) : Coach := if s.watched c then { c with wdc := c.wdc + 1 } else c

/-- TICK (R5): 256 reference cycles have passed. -/
def execTick (s : State) : Host.Outcome State Fault Refusal :=
  let now := s.time + 1
  let dies := s.dies.map (fun d => d.tick (rebase d.dt (now.setWidth 16) ::
    ((s.cores.filter (fun k => k.id.die == d.id)).map (fun k => k.pts + 1))))
  let dt (d : BitVec 3) : BitVec 16 := ((dies.find? (fun k => k.id == d)).map (·.dt)).getD 0
  .next ({ s with
    time := now, cycle := 0, cycles := s.cycles + (Config.tickCycles - min s.cycle Config.tickCycles)
    wdogLive := s.wdog, dies := dies, stamps := scrubbed now.toNat dt s.stamps
    cores := s.idleSlots.cores.map (fun k => k.tick (dt k.id.die))
    coaches := s.coaches.map s.tickCoach } : State).evictSome

/-- SCRUBBER_VISIT (R309, R396). -/
def execScrubberVisit (die : BitVec 3) (line : Nat) (s : State) : Host.Outcome State Fault Refusal :=
  let t := s.stamp line
  s.ifUp (if homeDie (128 * line) = die ∧ t.rebased (s.die die).dt ≠ t then s.setStamp (t.rebased (s.die die).dt) else s)

/-! ### Health (R353) -/

/-- The steward finds a condition of its health word, of instance `i`: the bit is set, and REPLREQ is raised unless the
condition has been reported. -/
def State.report (s : State) (b i : Nat) : State :=
  if s.steward.reported.contains (b, i) then s
  else
    ({ s with steward := { s.steward with
      health := s.steward.health ||| bitAt b, reported := (b, i) :: s.steward.reported } } : State).raiseIrq 17

/-- MAILBOX replies lie at the start of the mailbox; vector 18 tells the host (R321). -/
def State.mailReply (s : State) (bs : List Byte) : State :=
  ({ s with window := { s.window with mailbox := putCells s.window.mailbox 0 bs } } : State).raiseIrq 18

/-- MAILBOX_HEALTH (R353). -/
def execMailboxHealth (s : State) : Host.Outcome State Fault Refusal :=
  s.ifUp (s.mailReply (natLe 8 s.steward.health.toNat))

/-- Bytes 0-127 of the attestation report (R326). -/
def State.report127 (s : State) (nonce : List Byte) : List Byte :=
  natLe 8 0x415453545844_4E5A ++ natLe 8 (2 + s.window.rev.toNat * 2 ^ 16)
    ++ (List.range 16).map Config.serialByte ++ padTo 32 (nonce.take 32)
    ++ sha256 s.steward.firmware ++ sha256 (Config.fuseMap (s.steward.fusedOff.map coreIndex))

/-- MAILBOX_ATTEST (R326): the report's last 384 bytes are its signature by the device attestation key (log 71). -/
def execMailboxAttest (nonce : List (BitVec 8)) (s : State) : Host.Outcome State Fault Refusal :=
  let r := s.report127 nonce
  s.ifUp (s.mailReply (r ++ rsaSign Config.attestModulus Config.attestExponent r))

/-! ### Power and boot (R325) -/

/-- What power takes away: everything but the fuses, what has left the package and what still arrives. -/
def State.afterPowerLoss (s : State) : State :=
  { State.reset with
    powered := false, steward := { Steward.reset with fusedOff := s.steward.fusedOff }
    inbox := s.inbox, outbox := s.outbox, fresh := s.fresh }

/-- Does the ROM accept a firmware image: the digest of the public key is the fused one, and the signature is good under
the key (R325)? -/
def firmwareOk (key image signature : List Byte) : Bool :=
  sha256 key == Config.fusedDigest && rsaOk (Config.keyModulus key) (Config.keyExponent key) image signature

/-- Bytes that the host has written into the mailbox or the aperture (R325). -/
def State.uploaded (s : State) (u : Upload) : List Byte :=
  if u.mailbox then (List.range u.size).map (fun i => (cellAt s.window.mailbox (u.start + i)).getD 0)
  else Memory.readBytes s.mem u.start u.size

/-- The image that the host has written into the mailbox and the aperture runs, if the ROM accepts it, and its steward may
set the watchdog limit (R375); otherwise status 1 is in the mailbox (R325). -/
def State.checkImage (s : State) (image signature : List Byte) : State :=
  if firmwareOk (Config.bootKey s.window.mailbox s.mem) image signature then
    { s with booted := true, steward := { s.steward with firmware := image }
             wdog := (Config.bootWdog image).getD s.wdog, wdogLive := (Config.bootWdog image).getD s.wdogLive }
  else { s with window := { s.window with mailbox := putCells s.window.mailbox 0 (natLe 8 1) } }

/-- Has power come on, so that the ROM waits for the host's image (R325)? -/
def State.awaitsImage (s : State) : Bool := s.powered && !s.booted && !s.ioDown

/-- COLD_BOOT (R325): power goes off and comes on, and what was held is gone; with power on and no image running, the ROM
checks the image that the host has written since (log 74). -/
def execColdBoot (image signature : Upload) (s : State) : Host.Outcome State Fault Refusal :=
  .next (if s.awaitsImage then s.checkImage (s.uploaded image) (s.uploaded signature) else { s.afterPowerLoss with powered := true })

/-- PACKAGE_POWER_OFF (R325). -/
def execPackagePowerOff (s : State) : Host.Outcome State Fault Refusal := .next s.afterPowerLoss

/-! ### Cores and dies (R353, R406, R409, R410) -/

/-- The launches with a crew of which `p` holds. -/
def State.hasCrew (s : State) (p : Crew → Bool) (l : Launch) : Bool := s.crews.any (fun k => k.q == l.q && p k)

/-- CORE_WITHDRAWN (R353): no further placement; a resident gang's launch ends with MACHINE. The manual gives
that event no code. -/
def execCoreWithdrawn (core : CoreId) (s : State) : Host.Outcome State Fault Refusal :=
  let s1 := { s with steward := { s.steward with
    withdrawn := if s.steward.withdrawn.contains core then s.steward.withdrawn else core :: s.steward.withdrawn } }
  let s2 := s1.endLaunches (s.hasCrew (fun k => k.core == core)) (Config.freeNat s.fresh 0)
  s.ifUp (s2.report 1 (coreIndex core))

/-- A byte that a lost L2 held newer is again as its home has it; the copies that others hold keep what they have. -/
def State.loseCell (s : State) (c : Host.Cell) : State :=
  { s.spread none c.1 1 with mem := Memory.write s.mem c.1 c.2 }

/-- The dirty copies of other dies' lines in a lost L2 are gone (R104, R406). -/
def State.loseRemote (s : State) (die : BitVec 3) : State :=
  let s1 := (s.remote.filter (fun r => r.die == die)).foldl (fun s r => r.behind.foldl State.loseCell s) s
  { s1 with remote := s1.remote.filter (fun r => r.die != die) }

/-- A die leaves the healthy set (R406). -/
def State.loseDie (s : State) (die : BitVec 3) : State :=
  let w := s.steward
  let s0 := s.loseRemote die
  let s1 : State := { s0 with
    steward := { w with
      healthyDies := w.healthyDies &&& ~~~(BitVec.ofNat 8 (2 ^ die.toNat))
      health := w.health ||| bitAt (8 + die.toNat) }
    dies := s.dies.map (fun (d : Die) => if d.id = die then { d with pendingFreq := none } else d)
    links := s.links.filter (fun (k : Link) => k.id != LinkId.die die) }
  (s1.report 2 die.toNat).endLaunches (fun l => l.dies.getLsbD die.toNat) 0x0101

/-- DIE_LOSS (R406). -/
def execDieLoss (die : BitVec 3) (s : State) : Host.Outcome State Fault Refusal :=
  s.ifUp (if s.dieLost die then s else s.loseDie die)

/-- Does a crew's region reach the upper part of its core's local store (R13, R410)? -/
def Crew.inUpper (k : Crew) : Bool := k.up && decide (coreKib k.core false * 1024 < k.base + k.scratch)

/-- End the launches of crews in the upper parts of a die, each in the name of a coach of such a crew
(R410). -/
def State.endUpper (s : State) (die : BitVec 3) : State :=
  s.crews.foldl (fun s k =>
    if k.core.die == die && k.inUpper then
      match s.coaches.find? (fun c => c.id.q == k.q && c.id.gang == k.gang && c.id.crew == k.crew),
        s.launch? k.q with
      | some c, some l => s.terminalTrap l c { cls := 11, code := 0x0103, addr := BitVec.ofNat 64 k.base }
          { pce := c.pc, resume := c.pc, act := 0, ilen := s.fetchLen l c }
      | _, _ => s
    else s) s

/-- Does no run of some dies, with every core idle, take a gang of a launch whose crew c may go on the cores of which
`ok c` holds? -/
def State.noRun (s : State) (l : Launch) (g : Nat) (ok : Nat → CoreId → Bool) (dies : Nat → Bool) : Bool :=
  (List.range 48).all (fun cl => !dies (cl / 6) || (s.idle.runIn l g ok cl).isNone)

/-- The dies on which the gangs of a later step may go: those of the launch, or any healthy ones where STEPMARK lets the die
set change (R43, R56). -/
def State.laterDies (s : State) (l : Launch) (d : Nat) : Bool :=
  if (List.range l.steps).any (fun n => decide (l.step < n) && l.stepMarked n) then s.healthy.contains d
  else l.dies.getLsbD d

/-- A running launch of which some gang, saved or still to be placed, fits no run any more, with every core idle; or whose
step with COR = 1 its die set cannot hold at once (R40, R55, R410). -/
def State.fitsNowhere (s : State) (l : Launch) : Bool :=
  let saved := s.gangs.filter (fun g => g.q == l.q && g.status == .saved && g.reserved.isNone)
  let more := decide (l.nextGang < l.gangCount)
  l.phase == .running && l.terminal.isNone
    && (saved.any (fun g => s.noRun l g.index (s.resumeNeed l g).ok (fun d => l.dies.getLsbD d))
      || (more && s.noRun l l.nextGang anyCore (fun d => l.dies.getLsbD d))
      || (decide (l.step + 1 < l.steps) && s.noRun l 0 anyCore (s.laterDies l))
      || (l.cor && (more || !saved.isEmpty)
        && decide (sumOf (s.dieHolds l gangFuel) ((List.range 8).filter (fun d => l.dies.getLsbD d)) < l.gangCount)))

/-- Reservations of runs that no longer take their gangs are given up (R382, R410). -/
def State.unreserve (s : State) : State :=
  { s with gangs := s.gangs.map (fun g => match g.reserved, s.launch? g.q with
    | some r, some l => if s.idle.runTakes l g.index anyCore r then g else { g with reserved := none }
    | _, _ => g) }

/-- SRAM_DIE_FAILURE (R410). -/
def execSramDieFailure (die : BitVec 3) (s : State) : Host.Outcome State Fault Refusal :=
  let s1 := s.endUpper die
  let s2 := { s1 with
    steward := { s1.steward with sramFailed := s1.steward.sramFailed ||| BitVec.ofNat 8 (2 ^ die.toNat) } }
  let s3 := s2.unreserve
  s.ifUp ((s3.endLaunches s3.fitsNowhere 0x0104).report 1 (1536 + die.toNat))

/-- IO_DIE_FAILURE (R409): every launch ends without a completion word; the host sees its link go down, or all ones in
every read; nothing runs, nor does the host write anything, until a cold boot. -/
def execIoDieFailure (s : State) : Host.Outcome State Fault Refusal :=
  .next (if s.powered then { s with
      booted := false, launches := [], gangs := [], crews := [], coaches := [], requests := [], senders := []
      steward := { s.steward with hostDown := true }
      outbox := if Config.freeBool s.fresh (2 ^ 44) then s.outbox ++ [.linkDown] else s.outbox }
    else s)

/-! ### Ports, planes and links (R403-R405) -/

/-- A port is down (R403). -/
def State.downPort (s : State) (port : BitVec 4) : State :=
  let s1 : State := { s with
    steward := { s.steward with portsDown := s.steward.portsDown ||| BitVec.ofNat 16 (2 ^ port.toNat) }
    links := s.links.filter (fun (k : Link) => k.id != LinkId.port port) }
  s1.report 4 port.toNat

/-- PORT_DOWN (R403). -/
def execPortDown (port : BitVec 4) (s : State) : Host.Outcome State Fault Refusal :=
  s.ifUp (if s.steward.portsDown.getLsbD port.toNat then s else s.downPort port)

/-- The next port of the same world that is up, in increasing order modulo 16 (R403). -/
def State.nextPort (s : State) (port : BitVec 4) : Option (BitVec 4) :=
  ((List.range 15).map (fun i => port + BitVec.ofNat 4 (i + 1))).find? (fun p =>
    !s.steward.portsDown.getLsbD p.toNat
      && s.steward.securePorts.getLsbD p.toNat == s.steward.securePorts.getLsbD port.toNat)

/-- Does a die still hold a packet of a plane in its window (R403)? -/
def State.planeBusy (s : State) (plane : BitVec 4) : Bool :=
  s.senders.any (fun k => k.packets.any (fun p => p.line.toNat % 16 == plane.toNat))

/-- PLANE_MOVE (R403): the plane of a port that is down moves, once the windows hold no packet of it; with no port up it
stays. -/
def execPlaneMove (plane : BitVec 4) (s : State) : Host.Outcome State Fault Refusal :=
  let port := s.portOf plane.toNat
  s.ifUp (match (if s.steward.portsDown.getLsbD port.toNat && !s.planeBusy plane then s.nextPort port else none) with
    | some p => { s with steward := { s.steward with planes := s.steward.planes.set plane.toNat p } }
    | none => s)

/-- A link; one that is not listed is at full width. -/
def State.link (s : State) (id : LinkId) : Link :=
  (s.links.find? (fun k => k.id == id)).getD { id := id, width := 0, retraining := false, failed := 0 }

def State.setLink (s : State) (k : Link) : State :=
  { s with links := upsert (fun j => j.id == k.id) k s.links }

/-- LINK_WIDTH_REQUEST (R404): the link retrains, one step narrower, unless it is the narrowest already. -/
def execLinkWidthRequest (link : LinkId) (s : State) : Host.Outcome State Fault Refusal :=
  let k := s.link link
  s.ifUp (if k.retraining || 2 ≤ k.width then s else s.setLink { k with retraining := true })

/-- Frequency changes that waited for a retraining (R405). -/
def State.applyFreq (s : State) (link : LinkId) : State :=
  match link with
  | .die d =>
    let k := s.die d
    match k.pendingFreq with
    | some n => s.setDie { k with freq := n, pendingFreq := none }
    | none => s
  | .port _ => s

/-- LINK_RETRAIN_END (R404): the new width, or one more failed retraining; the third takes the link down. -/
def execLinkRetrainEnd (link : LinkId) (trained : Bool) (s : State) : Host.Outcome State Fault Refusal :=
  let k := s.link link
  s.ifUp
    (if !k.retraining then s
     else if trained then
       (s.setLink { k with width := k.width + 1, retraining := false, failed := 0 }).applyFreq link
     else if k.failed < 2 then s.setLink { k with failed := k.failed + 1 }
     else match link with
       | .port p => s.downPort p
       | .die d => if s.dieLost d then s else s.loseDie d)

/-- FREQUENCY_CHANGE (R327, R405): between 11/32 and 32/32 of nominal; during a retraining it waits. -/
def execFrequencyChange (die : BitVec 3) (steps : BitVec 6) (s : State) : Host.Outcome State Fault Refusal :=
  let n := steps.toNat
  let k := s.die die
  s.ifUp (if n < 11 ∨ 32 < n ∨ s.dieLost die then s
    else if (s.link (.die die)).retraining then s.setDie { k with pendingFreq := some n }
    else s.setDie { k with freq := n })

/-! ### Soft errors and patrol (R397, R398) -/

/-- The stack of a Lunath line: that of its die, even or odd 256-byte blocks (R8, R94). -/
def lineStack (l : Nat) : Nat := 2 * (homeDie (128 * l)).toNat + l / 2 % 2

/-- The block in which an error is corrected, by kind and number: a core's registers, a local store, a Lunath stack, the
tags of a die's L2 (R353, R397). -/
def State.errorBlock (s : State) (p : ErrorPlace) : Nat × Nat :=
  match p with
  | .register c _ _ => (0, (s.coach? c).elim 0 (fun c => coreIndex c.core))
  | .localStore c _ => (1, coreIndex c)
  | .memoryLine l => (2, lineStack l)
  | .l2Tag d => (3, d.toNat)
  | _ => (4, 0)

/-- The ticks of the corrected errors of a block. -/
def State.correctionsOf (s : State) (b : Nat × Nat) : List Nat :=
  ((s.steward.corrections.find? (fun r => r.1 == b)).map (·.2)).getD []

/-- A corrected error is counted in its block; a rate above the threshold is reported (R353). -/
def State.countCorrection (s : State) (b : Nat × Nat) : State :=
  let ts := s.time.toNat :: s.correctionsOf b
  let s1 := { s with steward := { s.steward with
    corrections := upsert (fun r => r.1 == b) (b, ts) s.steward.corrections } }
  if Config.rateAbove ts then s1.report 0 (2048 * b.1 + b.2) else s1

/-- What an uncorrectable error poisons; none: the structure holds clean copies (R397). -/
def ErrorPlace.poison (p : ErrorPlace) : Option Poison :=
  match p with
  | .register c k i => some (.register c k i)
  | .localStore c g => some (.granule c g)
  | .memoryLine l => some (.line l)
  | .l2Tag d => some (.tags d)
  | _ => none

/-- A clean copy with a parity error is dropped (R397); of a latch entry, its origin is read (R72). -/
def State.dropCopyAt (s : State) (p : ErrorPlace) : State :=
  match p with
  | .dataCache core line =>
    let k := s.core core
    s.setCore { k with copies := k.copies.filter (fun c => c.line != line) }
  | .instructionCache core a =>
    let k := s.core core
    s.setCore { k with icache := k.icache.filter (fun e => e.1 != a) }
  | .translationCache ctx page =>
    { s with tlb := s.tlb.filter (fun t => !(t.ctx == ctx && t.page == page)) }
  | .latch core e =>
    let k := s.core core
    s.setCore { k with latch := k.latch.set e.toNat none }
  | _ => s

/-- SOFT_ERROR (R397). -/
def execSoftError (place : ErrorPlace) (double : Bool) (s : State) : Host.Outcome State Fault Refusal :=
  s.ifUp (match ErrorPlace.poison place, double with
    | none, _ => s.dropCopyAt place
    | some _, false => s.countCorrection (s.errorBlock place)
    | some p, true => if s.poison.contains p then s else { s with poison := p :: s.poison })

/-- Does a poisoned line lie in one of the sixteen stacks (R8, R94)? -/
def State.stackPoisoned (s : State) (stack : BitVec 4) : Bool :=
  s.poison.any (fun p => match p with
    | .line l => lineStack l == stack.toNat
    | _ => false)

/-- LUNATH_PATROL (R398). -/
def execLunathPatrol (stack : BitVec 4) (beyondSpare : Bool) (s : State) : Host.Outcome State Fault Refusal :=
  s.ifUp (if beyondSpare || s.stackPoisoned stack then s.report 3 stack.toNat else s)

/-! ### The steward's tables (R314, R324, R400) -/

/-- POD_TABLE_CHANGE (R321, R400). -/
def execPodTableChange (change : PodChange) (s : State) : Host.Outcome State Fault Refusal :=
  s.ifUp (match change with
    | .base v => { s with window := { s.window with podbase := v &&& 0x000FFFFFFFFFF000#64, podWritten := true } }
    | .entry n v =>
      s.lunathWrite none (bits s.window.podbase 51 12 * 4096 + 8 * n.toNat) (natLe 8 v.toNat)
    | .number n => { s with window := { s.window with pkgno := n } })

/-- Is a block idle (R324)? -/
def State.blockIdle (s : State) (b : WorldBlock) : Bool :=
  match b with
  | .core c => s.crews.all (fun k => k.core != c)
  | .queue q => (s.launch? q).isNone
  | .port p => s.requests.isEmpty && s.senders.all (fun k => k.packets.all (fun x => s.portOf (x.line.toNat % 16) != p))
  | .region _ => s.launches.isEmpty

/-- Set or clear bit n. -/
def setBit {w : Nat} (v : BitVec w) (n : Nat) (b : Bool) : BitVec w :=
  if b then v ||| BitVec.ofNat w (2 ^ n) else v &&& ~~~(BitVec.ofNat w (2 ^ n))

/-- WORLD_ASSIGNMENT_CHANGE (R324). -/
def execWorldAssignmentChange (block : WorldBlock) (secure : Bool) (s : State) :
    Host.Outcome State Fault Refusal :=
  let w := s.steward
  s.ifUp (if !s.blockIdle block then s else { s with
    queues := match block with
      | .queue q => s.queues.set q.toNat { s.queue q with qcfg := setBit (s.queue q).qcfg 7 secure }
      | _ => s.queues
    steward := match block with
      | .core c => { w with secureCores :=
          if secure then (if w.secureCores.contains c then w.secureCores else c :: w.secureCores)
          else w.secureCores.filter (· != c) }
      | .queue _ => w
      | .port p => { w with securePorts := setBit w.securePorts p.toNat secure }
      | .region r => { w with secureRegions := setBit w.secureRegions r.toNat secure } })

end Sys2Proof.Machine
end

