-- ==== Sys2Proof/Machine/Agenda.lean ====
section
/-! DEFINITION. What the device does next on its own, and which events come from outside it. -/

namespace Sys2Proof.Machine

open Sys2Proof

/-- The first event of a list that is due. -/
def firstDue : List (Option Instr) → Option Instr
  | [] => none
  | some e :: _ => some e
  | none :: rest => firstDue rest

/-- The event of the first element for which it is due. -/
def dueIf {α : Type} (due : α → Bool) (event : α → Instr) (xs : List α) : Option Instr :=
  (xs.find? due).map event

/-! ### Launches and gangs -/

/-- Ends of launches, and launches taken and started (R48, R51, R56, R350). -/
def State.launchEvent (s : State) : Option Instr :=
  firstDue
    [dueIf (fun (l : Launch) => l.terminal.isSome) (fun l => .launchDiscard l.q) s.launches,
      dueIf s.mayTake .takeWaybill ((List.range 64).map (BitVec.ofNat 6)),
      dueIf s.mayStart (fun l => .launchStart l.q) s.launches,
      dueIf s.stepOver (fun l => .stepRetire l.q) s.launches,
      dueIf s.wordDue (fun l => .completionWordWrite l.q) s.launches]

/-- Is a gang to be saved now (R62, R63)? -/
def State.saveDue (s : State) (g : Gang) : Bool :=
  g.status == .stopping && s.gangDrained g.q g.index && (s.gangCoach g.q g.index).isSome
    && (match s.launch? g.q with
      | some l => l.terminal.isNone
      | none => false)

/-- Queues of a level, from the one after the queue that was last offered a run (R53). -/
def State.levelQueues (s : State) (level : Nat) : List (BitVec 6) :=
  ((List.range 64).map (fun i => s.offered.getD level 63 + 1 + BitVec.ofNat 6 i)).filter
    (fun q => (s.queue q).level == level)

/-- A run for a saved or the next gang of a queue's launch (R55, R64). -/
def State.offerEvent (s : State) (q : BitVec 6) : Option Instr :=
  match s.launch? q with
  | none => none
  | some l =>
    firstDue
      [dueIf (fun (g : Gang) => g.q == q && (s.resumption l g).isSome && g.sideCoach.isSome)
          (fun g => .gangResume q g.index) s.gangs,
        if (s.placement l).isSome then some (.placeGang q l.nextGang) else none]

/-- Does some launch or saved gang wait for a run? -/
def State.runWanted (s : State) : Bool :=
  s.gangs.any (fun g => g.status == .saved)
    || s.launches.any (fun l => l.placing && decide (l.nextGang < l.gangCount))

/-- The next gang placed or resumed: the highest level first (R53). -/
def State.placeEvent (s : State) : Option Instr :=
  if s.runWanted then ([3, 2, 1, 0].flatMap s.levelQueues).findSome? s.offerEvent else none

/-- Gangs cleared for a waiting gang of a launch (R54). -/
def State.clearEvent (s : State) (l : Launch) : Option Instr :=
  ((s.waiting l).find? (fun n => (s.priorityClearing l n).isSome)).map (fun n => .preemptPriority l.q n.gang)

/-- Is the gang's migration to be decided (R113)? -/
def State.migrateDue (s : State) (g : Gang) : Bool :=
  g.status == .resident && (s.migrating g.q g.index).isSome
    && (match s.launch? g.q with
      | some l => l.terminal.isNone
      | none => false)

/-- Saves, placements, clearings, migrations and prefetches. -/
def State.gangEvent (s : State) : Option Instr :=
  firstDue
    [dueIf s.saveDue (fun g => .preemptSave g.q g.index) s.gangs,
      s.placeEvent,
      if s.runWanted then s.launches.findSome? s.clearEvent else none,
      dueIf s.migrateDue (fun g => .migrateDecision g.q g.index) s.gangs,
      dueIf s.prefetchDue (fun l => .kernelPrefetch l.q) s.launches]

/-! ### Coaches -/

/-- The completion of a phase of a gang's groups (R35). -/
def State.phaseEvent (s : State) (g : Gang) : Option Instr :=
  match s.launch? g.q with
  | none => none
  | some l =>
    if g.status == .saved || l.terminal.isSome then none
    else dueIf (fun n => phaseDue (s.members g.q g.index n) && !g.mixedWaits n (s.members g.q g.index n))
      (fun n => .groupPhaseComplete g.q g.index (BitVec.ofNat 8 n)) (List.range l.ng)

/-- Would a round of a waiting WAITV do anything: end the wait, trap, take an answer or send a request
(R288)? -/
def State.recheckDue (s : State) (c : Coach) (f : Fields) (start : Nat) : Bool :=
  s.running c
    && (match s.launch? c.id.q with
      | none => false
      | some l =>
        match waitvBody f (some start) s l { c with wait := .ready } with
        | .error (.wait _ s1) => !c.answers.isEmpty || s1.requests.length != s.requests.length
        | _ => true)

/-- The event that ends a coach's wait, which has come about (R102, R174, R288). -/
def State.waitEvent (s : State) (c : Coach) : Option Instr :=
  match c.wait with
  | .fe _ gs =>
    if s.running c && gs.all (fun g => s.isFull g.1 g.2) then some (.feWaitSatisfied c.id) else none
  | .waitv f start => if s.recheckDue c f start then some (.waitvRecheck c.id) else none
  | .sleep t _ => if s.running c && decide (t ≤ s.time.toNat) then some (.sleepExpiry c.id) else none
  | _ => none

/-- The next line of a coach's dray command, unless a window holds it back (R272). -/
def State.drayEvent (s : State) (c : Coach) : Option Instr :=
  match c.wait, s.served c with
  | .dray o f src, some l =>
    match s.drayLine l c (s.command c o f src) with
    | .error (.wait _ _) => none
    | _ => some (.drayLine c.id)
  | _, _ => none

/-- The next K-group of a coach's matrix instruction: one a cycle, while coaches issue (R260). -/
def State.gridEvent (s : State) (idle : Bool) (c : Coach) : Option Instr :=
  match c.grid, s.served c with
  | some w, some _ => if idle || decide (w.next ≤ s.cycles) then some (.matrixKgroup c.id) else none
  | _, _ => none

/-- The retirement of a gang whose coaches have all retired, once its accesses have been performed (R39; log 68). -/
def State.gangEnd (s : State) (g : Gang) : Option Instr :=
  match s.launch? g.q, s.gangCoach g.q g.index with
  | some l, some c =>
    if g.status != .saved && l.terminal.isNone && s.gangOver g.q g.index then some (.popRule c.id) else none
  | _, _ => none

/-- Pops, ends of gangs, requests, senders, waits, engines, and the watchdog of coaches that could issue (R29, R60, R173,
R376, R401). -/
noncomputable def State.coachEvent (s : State) : Option Instr :=
  firstDue
    [dueIf s.popDue (fun c => .popRule c.id) s.coaches,
      s.gangs.findSome? s.gangEnd,
      dueIf s.overdue (fun r => .fabricResponseTimeout r.tag) s.requests,
      dueIf s.backoffOver (fun k => .backoffExpiry k.id) s.senders,
      dueIf Sender.entryDue (fun k => .entryReceive k.id true) s.senders,
      dueIf (fun k => (s.exhausted k).isSome) (fun k => .replayLimitExhaustion k.id) s.senders,
      s.coaches.findSome? s.waitEvent,
      s.coaches.findSome? s.drayEvent,
      s.coaches.findSome? (s.gridEvent s.nextCoach.isNone),
      dueIf (fun (c : Coach) => c.yields.any (s.yieldOver c)) (fun c => .yieldExpiry c.id) s.coaches,
      dueIf (fun c => s.watchdogDue c && s.ready c) (fun c => .watchdogExpiry c.id) s.coaches]

/-- The end of a tick: before it passes, the watchdog of a coach that has waited through it for an event that
has not come (R376, R379). -/
def State.tickEvent (s : State) : Instr :=
  if s.booted then ((s.coaches.find? s.watchdogDue).map (fun c => Instr.watchdogExpiry c.id)).getD .tick
  else .tick

/-- The waits that end in the tick in which a watchdog limit would be reached: the event takes effect first (R379,
R394). -/
def State.lateEvent (s : State) : Option Instr :=
  firstDue
    [s.coaches.findSome? s.waitEvent, dueIf s.migrateDue (fun g => .migrateDecision g.q g.index) s.gangs]

/-- The device's next own event, if one is due; none: a coach may issue. A phase completes with the arrival that completes
it, before anything else (R35, R381). Only the tick passes before a firmware image has been accepted (R325). -/
noncomputable def State.agenda (s : State) : Option Instr :=
  if s.booted then
    firstDue
      [s.gangs.findSome? s.phaseEvent,
        if Config.tickCycles ≤ s.cycle then some (s.lateEvent.getD s.tickEvent)
        else firstDue [s.launchEvent, s.gangEvent, s.coachEvent]]
  else if Config.tickCycles ≤ s.cycle then some .tick
  else none

/-- An event of the outside world, of the steward, or of a unit outside the cores: it acts when it
arrives in the inbox. -/
def isOutside (i : Instr) : Bool :=
  match i with
  | .publish _ _ | .qcfgWrite _ _ | .qstatWrite _ _ | .configRegisterWrite _ _ | .irqstatWrite _
  | .preemptRequest _ | .entryReceive _ _ | .swcallReturn _ _ | .fabricReadRequest _
  | .fabricWrite _ | .fabricAtomic _ | .fabricReadData _ _ | .fabricAck _ _ | .fabricDrop _
  | .hostBar2Read _ _ | .hostBar2Write _ _ | .hostCompletion _ _ _ | .mailboxAttest _
  | .mailboxHealth | .coldBoot _ _ | .coreWithdrawn _ | .dieLoss _ | .sramDieFailure _
  | .ioDieFailure | .portDown _ | .planeMove _ | .linkWidthRequest _ | .linkRetrainEnd _ _
  | .frequencyChange _ _ | .scrubberVisit _ _ | .softError _ _ | .lunathPatrol _ _
  | .podTableChange _ | .worldAssignmentChange _ _ | .packagePowerOff => true
  | _ => false

/-! ### Placing an instruction where the next step fetches it -/

/-- The word of a waybill or header with a value in field [lo + ..]. -/
def wordAtBit (v lo : Nat) : DWord := BitVec.ofNat 64 (v * 2 ^ lo)

/-- The waybill of the stand-in launch: one gang of one crew of one coach on wain cores. -/
def standInWaybill : List DWord :=
  [0x40000000#64, 0x0001000100000001#64, 0x0000000001100000#64, 0x0000000800001000#64, 0, 0x40020000#64,
    0x40030000#64, 0x40040000#64, 0x0000500A00100000#64, 0x40050000#64, 0, 0] ++ List.replicate 20 0

/-- The kernel header of the stand-in launch: W = 64, one wain image of 64 KiB at offset 0x100, and every
register and slot declared. -/
def standInHeader : List DWord :=
  [0x000000100002DA3E#64, 0x0001000000000100#64, 0, 0, 0x021040FC#64, 0, 0, 0x001F000000000000#64,
    0x000000FFFFFFFFFF#64, 0, 0, 0, 0, 0, 0, 0x00020000#64]

/-- The core of the stand-in launch. -/
def standInCore : CoreId := { die := 0, cluster := 0, pos := 0 }

/-- The stand-in launch itself, running in context 0 whose tables start at 0x2_0000. -/
def standInLaunch : Launch :=
  { q := 0, waybill := standInWaybill, header := standInHeader, posts := [], groups := [1#512], ctx := 0
    sec := false, root := 0x20000, fctx := 0, part := 0, phase := .running, dies := 1#8, step := 0
    stepsDone := 0, nextGang := 1, waitSince := 0, lastCluster := some 0, terminal := none
    preempting := false, claim := none, nextReady := false, prefetched := false }

/-- The stand-in coach's identity. -/
def standInId : CoachId := { q := 0, gang := 0, crew := 0, coach := 0 }

/-- Its gang. -/
def standInGang : Gang :=
  { q := 0, index := 0, step := 0, run := { die := 0, cluster := 0, first := 0 }, placedAt := 0
    status := .resident, parity := 0, atPost := false, reserved := none, waitSince := 0, side := [], image := [] }

/-- The state with the stand-in launch resident and the bytes at its coach's PC: nothing else runs, and
nothing of what ran before is cached, outstanding, poisoned or lost (log 1). -/
def State.withProgram (s : State) (bytes : List Byte) : State :=
  let m1 := Memory.writeBytes s.mem 0x20000 (natLe 8 0x40001)
  let m2 := Memory.writeBytes m1 0x40008 (natLe 8 0x40000033)
  { s with
    powered := true, booted := true, cycle := 0, inbox := [], cur := none
    mem := Memory.writeBytes m2 0x40000100 bytes, window := Window.reset, steward := Steward.reset
    queues := List.replicate 64 Queue.reset, tlb := [], poison := [], prefetch := [], requests := [], senders := []
    stamps := [], remote := [], staleTags := [], refused := [], links := [], dies := State.reset.dies, cores := []
    launches := [standInLaunch], gangs := [standInGang]
    crews := [standInLaunch.newCrew 0 0 standInCore 0 true 0 0]
    coaches := [standInLaunch.newCoach standInId standInCore s.cycles] }

end Sys2Proof.Machine
end

