-- ==== Sys2Proof/Machine/Chain.lean ====
section
/-! DEFINITION. Chain slots and their micro-ops, opcodes 0x8B-0x8D (R138, R139, R213-R215). -/

namespace Sys2Proof.Machine

open Sys2Proof

/-! ### Micro-ops (R138, R139) -/

def uopCode (u : Word) : Nat := bits u 5 0
def uopDst (u : Word) : Nat := bits u 9 6
def uopSa (u : Word) : Nat := bits u 13 10
def uopSb (u : Word) : Nat := bits u 17 14
def uopSc (u : Word) : Nat := bits u 21 18
def uopRnd (u : Word) : Nat := bits u 24 22
def uopSat (u : Word) : Nat := bits u 26 25

/-- Micro-ops that read SB. -/
def uopReadsB (n : Nat) : Bool :=
  (1 ≤ n && n ≤ 6) || n == 0x12 || n == 0x13 || (0x14 ≤ n && n ≤ 0x1C)

/-- Micro-ops that read SC: FFMA and SEL. -/
def uopReadsC (n : Nat) : Bool := n == 4 || n == 0x13

/-- Micro-ops that read RND, as their vector instructions do. -/
def uopReadsRnd (n : Nat) : Bool :=
  (1 ≤ n && n ≤ 4) || (9 ≤ n && n ≤ 0x0B) || (0x1D ≤ n && n ≤ 0x1F)

/-- Micro-ops that read SAT. -/
def uopReadsSat (n : Nat) : Bool := (1 ≤ n && n ≤ 4) || (9 ≤ n && n ≤ 0x0B) || n == 0x1E

/-- A micro-op that R138 and R139 allow. -/
def uopOk (u : Word) : Bool :=
  let n := uopCode u
  bits u 31 27 == 0 && n < 0x20 && uopDst u < 10 && uopRnd u < 6 && uopSat u < 3
    && (uopReadsB n || uopSb u == 0) && (uopReadsC n || uopSc u == 0)
    && (uopReadsRnd n || uopRnd u == 0) && (uopReadsSat n || uopSat u == 0)

/-- The effect of a micro-op on its elements, with its rounding, saturation and the coach's subnormal
mode (R139). -/
def uopEffect (n r s sub : Nat) (a b c : Word) : Word :=
  let x := FloatFormat.b32.operand sub a.toNat
  let y := FloatFormat.b32.operand sub b.toNat
  let z := FloatFormat.b32.operand sub c.toNat
  let fl (v : Nat) : Word := BitVec.ofNat 32 v
  let special (g : Nat → Nat) : Word := fl (resVal .b32 1 2 sub (b32 (g (exactB32 x))))
  match n with
  | 0x00 => a
  | 0x01 => fl (sumRes .b32 r s sub [x, y])
  | 0x02 => fl (sumRes .b32 r s sub [x, y.neg])
  | 0x03 => fl (sumRes .b32 r s sub [x.mul y])
  | 0x04 => fl (sumRes .b32 r s sub [x.mul y, z])
  | 0x05 => fl (fminmax .b32 false sub a.toNat b.toNat)
  | 0x06 => fl (fminmax .b32 true sub a.toNat b.toNat)
  | 0x07 => a &&& 0x7FFFFFFF#32
  | 0x08 => a ^^^ 0x80000000#32
  | 0x09 => fl (rcpRes .b32 r s sub x)
  | 0x0A => fl (rsqRes .b32 r s sub x)
  | 0x0B => fl (sqrtRes .b32 r s sub x)
  | 0x0C => special fexp2
  | 0x0D => special flog2
  | 0x0E => special ftanh
  | 0x0F => special fsigm
  | 0x10 => special fsin
  | 0x11 => special fcos
  | 0x12 => if fcmpCond 2 x y then BitVec.allOnes 32 else 0
  | 0x13 => if c = 0 then b else a
  | 0x14 => a + b
  | 0x15 => a - b
  | 0x16 => a * b
  | 0x17 => a &&& b
  | 0x18 => a ||| b
  | 0x19 => a ^^^ b
  | 0x1A => fl (shlElem 32 a.toNat b.toNat)
  | 0x1B => fl (shrElem 32 a.toNat b.toNat)
  | 0x1C => fl (sarElem 32 a.toNat b.toNat)
  | 0x1D => cvtWord 0 3 r s sub a
  | 0x1E => cvtWord 3 0 r s sub a
  | _ => fl (froundRes .b32 r x)

/-- The cells of a chain's run on one lane: T0-T7, then O0 and O1. -/
def uopSource (cells ins ks : List Word) (n : Nat) : Word :=
  if n < 8 then cells.getD n 0 else if n < 12 then ins.getD (n - 8) 0 else ks.getD (n - 12) 0

/-- Run the micro-ops in slot order (R215). -/
def runChain (rnd sat sub : Nat) (ins ks : List Word) : List Word → List Word → List Word
  | [], cells => cells
  | u :: rest, cells =>
    let v := uopEffect (uopCode u) (if uopRnd u = 0 then rnd else uopRnd u)
      (if uopSat u = 0 then sat else uopSat u) sub (uopSource cells ins ks (uopSa u))
      (uopSource cells ins ks (uopSb u)) (uopSource cells ins ks (uopSc u))
    runChain rnd sat sub ins ks rest (cells.set (uopDst u) v)

/-! ### CHLD (R213) -/

/-- Words of a byte list. -/
def uopWords : List Nat → List Word
  | a :: b :: c :: d :: t => BitVec.ofNat 32 (a + 256 * b + 65536 * c + 16777216 * d) :: uopWords t
  | _ => []

/-- OPERAND 0x010A: the first micro-op that breaks R138 or R139. -/
def uopTrap (us : List Word) : Option Trap :=
  match us.findIdx? (fun u => !uopOk u) with
  | none => none
  | some i => some (operandTrap 0x010A (i + (us.getD i 0).toNat * 2 ^ 32))

/-- CHLD in either format. -/
def chldBody (f : Fields) : Body := fun s l c =>
  checked [fmtTrap l c f.a.toNat (fun n => n == 0 || n == 5 || n == 6)] (whenActive s c f
    (match readSlot s l c f (4 * (f.k 3 0 + 1)) 4 (c.bValue f).toInt with
     | .error e => .error e
     | .ok (bs, s1) =>
       checked [uopTrap (uopWords bs)]
         (match s1.crewOf c with
          | none => finish s1 c f
          | some k => finish (s1.setCrew { k with
              ch := k.ch.set f.d.toNat { loaded := true, ops := uopWords bs } }) c f)))

/-- CHLD (R213). -/
def execChld (w0 : W0) (w1 : W1) (s : State) : Host.Outcome State Fault Refusal :=
  issue .chld (.of64 w0 w1) (chldBody (.of64 w0 w1)) s

/-- CHLD with a literal offset (R213). -/
def execChldF96 (w0 : W0) (w1 : W1) (lit : BitVec 32) (s : State) : Host.Outcome State Fault Refusal :=
  issue .chld (.of96 w0 w1 lit) (chldBody (.of96 w0 w1 lit)) s

/-! ### CHARG and CHRUN (R214, R215) -/

/-- CHARG leaves a prefix for the next instruction (R214, R364). -/
def execCharg (w0 : W0) (w1 : W1) (lit : BitVec 32) (s : State) : Host.Outcome State Fault Refusal :=
  let f := Fields.of96 w0 w1 lit
  issue .charg f (fun s _ c =>
    finish s { c with charg := some { pc := c.pc, w0 := w0, w1 := w1, lit := lit } } f) s

/-- K0-K3 of a prefix. -/
def Coach.chainConstants (c : Coach) (p : Option ChargPrefix) : List Word :=
  match p with
  | none => []
  | some q => [c.xr q.w0.d.toNat, c.xr q.w0.a.toNat, c.xr q.w1.c.toNat, c.xr (bits q.lit 7 0)].map
      (fun x => x.setWidth 32)

/-- I3 and O1 of a prefix, as V operand values; 255 without one. -/
def chainI3 (p : Option ChargPrefix) : Nat := match p with
  | none => 255
  | some q => bits q.lit 15 8
def chainO1 (p : Option ChargPrefix) : Nat := match p with
  | none => 255
  | some q => bits q.lit 23 16

/-- Both outputs of a chain for one lane. -/
def chainLane (c : Coach) (ops ins ks : List Word) : Word × Word :=
  let cells := runChain (modeRnd c.mode) (modeSat c.mode) c.sub ins ks ops (List.replicate 10 0)
  (cells.getD 8 0, cells.getD 9 0)

/-- The two outputs of a chain as results (R199, R215). -/
def chainResults (c : Coach) (ops ks : List Word) (a b d i3 : VReg) : VReg × VReg :=
  match a, b, d, i3 with
  | .u x, .u y, .u z, .u t =>
    let r := chainLane c ops [x, y, z, t] ks
    (.u r.1, .u r.2)
  | _, _, _, _ =>
    let rs := (List.range c.width).map (fun j =>
      chainLane c ops [a.elem j, b.elem j, d.elem j, i3.elem j] ks)
    (.g (rs.map (·.1)), .g (rs.map (·.2)))

/-- OPERAND 0x0103 for the registers that the prefix names, an O1 in a latch entry where lanes of it are kept. -/
def Coach.prefixTrap (c : Coach) (p : Option ChargPrefix) (act : DWord) : Option Trap :=
  if c.mxm then
    match ([if chainO1 p < 252 || (c.notExited &&& ~~~act) != 0 then c.touched .v (chainO1 p) else none,
        c.touched .v (chainI3 p)].filterMap (fun r => r)).filter c.inBlock with
    | [] => none
    | r :: _ => some (operandTrap 0x0103 r)
  else none

/-- CHRUN in either format (R215). -/
def chrunBody (f : Fields) : Body := fun s l c =>
  let slot := match s.crewOf c with
    | some k => k.ch.getD (f.k 3 0) { loaded := false, ops := [] }
    | none => { loaded := false, ops := [] }
  checked [c.blockTrap .chrun f, c.prefixTrap c.charg (c.act f), s.streamTraps l c .chrun f 0x0106,
      operandIf (!slot.loaded) 0x0108 (f.k 3 0 + 16)]
    (checked (s.vectorChecks l c .chrun f)
      (match s.sources l c .chrun f with
       | .error e => .error e
       | .ok (src, s1, c1) =>
         let i3 := s1.readV c1 (chainI3 c.charg)
         let c2 := c1.noteLost i3.lost
         let r := chainResults c2 slot.ops (c2.chainConstants c.charg) src.a.value src.b src.c i3.value
         let (s2, c3) := s1.holdA c2 f src.a
         let (s3, c4) := s2.writeV c3 f.d.toNat (c.act f) { value := r.1 }
         let (s4, c5) := s3.writeV c4 (chainO1 c.charg) (c.act f) { value := r.2 }
         finish s4 c5 f))

/-- CHRUN (R215). -/
def execChrun (w0 : W0) (s : State) : Host.Outcome State Fault Refusal :=
  issue .chrun (.of32 w0) (chrunBody (.of32 w0)) s

/-- CHRUN in F64 (R215). -/
def execChrunF64 (w0 : W0) (w1 : W1) (s : State) : Host.Outcome State Fault Refusal :=
  issue .chrun (.of64 w0 w1) (chrunBody (.of64 w0 w1)) s

end Sys2Proof.Machine
end

