-- ==== Sys2Proof/Machine/System.lean ====
section
/-! DEFINITION. Device-side launch, traps and world calls, system registers and invalidations, opcodes 0xE8
and 0xF0-0xFB but for SAVEC and RESTC (R289-R293, R295, R348, R367), and the return of a service. -/

namespace Sys2Proof.Machine

open Sys2Proof

/-! ### LAUNCH (R289) -/

/-- The MACHINE trap of the reeve's access at a Lunath address: ADDR is the offset of a stash's granule, else 0 (R398, R407;
log 90). -/
def State.reeveTrap (s : State) (a code : Nat) : Trap :=
  { cls := 11, code := code, addr := BitVec.ofNat 64 ((s.lunathPlace a code).getD 0) }

/-- The reeve's action against the publish word, and x[d] (R289, R412); or the trap of a publish word that cannot be
read or of a ring on a lost die (R398, R407). -/
def State.publish (s : State) (sec : Bool) (by_ : Option CoreId) (q : BitVec 6) (waybill : List Byte) :
    Except Trap (State × Nat) :=
  let qu := s.queue q
  let k := s.read8 qu.qpub.toNat
  let a := qu.qbase.toNat + 256 * (k % qu.size)
  if sec && !qu.secure then .ok (s, 2 ^ 64 - 3)
  else if !qu.enabled || qu.err || s.queueAddrBad qu then .ok (s, 2 ^ 64 - 2)
  else match s.readHazard (.lunath qu.qpub.toNat) 8 with
  | some code => .error (s.reeveTrap qu.qpub.toNat code)
  | none =>
    if qu.qcons.toNat + qu.size ≤ k then .ok (s.recall (qu.qpub.toNat / 128) true, 2 ^ 64 - 1)
    else match s.writeHazard (.lunath a) with
    | some code => .error (s.reeveTrap a code)
    | none =>
      let s1 := (s.lunathWrite by_ a (waybill.take 128)).lunathWrite by_ (a + 128) (waybill.drop 128)
      .ok (s1.lunathWrite by_ qu.qpub.toNat (natLe 8 (k + 1)), k)

/-- The two lines of a waybill at a pointer register: 256 bytes, 256-byte aligned. -/
def waybillElems (c : Coach) (ptr : Nat) : List Elem :=
  let e : Elem := { lane := 0, ptr := ptr, p := c.pr ptr, off := 0, size := 128, align := 256 }
  [e, { e with off := 128, align := 128 }]

/-- LAUNCH (R289, R411). -/
def execLaunch (w0 : W0) (w1 : W1) (s : State) : Host.Outcome State Fault Refusal :=
  let f := Fields.of64 w0 w1
  issue .launch f (fun s l c =>
    whenActive s c f
      (let q : BitVec 6 := (c.xr f.b.toNat).setWidth 6
      match s.loadElems l c f { lanes := false, worldBad := !l.sec && (s.queue q).secure } 0 false
        (waybillElems c f.a.toNat) with
      | .error e => .error e
      | .ok (vs, s1) =>
        s1.drained c (s1.entering c 2 (fun s2 =>
          match s2.publish l.sec (some c.core) q (vs.flatMap (natLe 128)) with
          | .error t => .error (.trap t)
          | .ok (s3, r) => finish s3 (c.setX f.d.toNat (BitVec.ofNat 64 r)) f)))) s

/-! ### Traps and world calls (R290) -/

/-- TRAP (R290, R344). -/
def execTrap (w0 : W0) (s : State) : Host.Outcome State Fault Refusal :=
  let f := Fields.of32 w0
  issue .trap f (fun s _ c =>
    whenActive s c f (.error (.trap { cls := 1, code := f.id16.toNat }))) s

/-- BRK (R290, R344). -/
def execBrk (w0 : W0) (s : State) : Host.Outcome State Fault Refusal :=
  let f := Fields.of32 w0
  issue .brk f (fun s _ c =>
    whenActive s c f (.error (.trap { cls := 2, code := f.id16.toNat }))) s

/-- HALTC (R290): terminal, with x[a][15:0] as its code. -/
def execHaltc (w0 : W0) (s : State) : Host.Outcome State Fault Refusal :=
  let f := Fields.of32 w0
  issue .haltc f (fun s _ c =>
    whenActive s c f (.error (.trap { cls := 12, code := bits (c.xr f.a.toNat) 15 0 }))) s

/-- RFT (R348, R270, R378): the coach leaves its handler by its record slot, whose read sees the coach's own earlier stores,
those under way through the fabric to its own package included (R234). -/
def execRft (w0 : W0) (s : State) : Host.Outcome State Fault Refusal :=
  let f := Fields.of32 w0
  issue .rft f (fun s l c => whenActive s c f <|
    let slot := l.slot c.id
    let p := l.party (some c.core)
    if s.ownWaits c then .error (.wait .remote s)
    else match s.ctxReadWith p slot 128 with
    | .error b => .error (.trap { b.trap slot with fatal := true })
    | .ok (bs, s0) =>
      let w (i : Nat) : Nat := leNat ((bs.drop i).take 8)
      if !rftOk l c (w 16) (w 24) (w 96) then .error (.trap { cls := 4, code := 0x010F, info := c.rpc })
      else match s0.ctxWrite p (slot + 16) (natLe 8 (w 16 - 2 ^ 17)) with
        | .error b => .error (.trap { b.trap slot with fatal := true })
        | .ok s1 =>
          let resume := BitVec.ofNat 64 (w 24)
          .ok ((s1.abandon c (some resume)).comeBack
            (c.returnFromTrap resume (BitVec.ofNat 64 (w 32)) (BitVec.ofNat 64 (w 40))))) s

/-- SWCALL (R290): a release, then a request to the steward; the coach waits for its return. -/
def execSwcall (w0 : W0) (s : State) : Host.Outcome State Fault Refusal :=
  let f := Fields.of32 w0
  issue .swcall f (fun s _ c =>
    whenActive s c f (s.drained c
      (.error (.wait (.swcall f.id16)
        { s with outbox := s.outbox ++ [.service c.id f.id16 ((List.range 8).map c.xr)] })))) s

/-- X registers that a service returns: an unknown one writes X0 alone (R290). -/
def serviceWrites (r : Option ServiceResult) : List (Nat × DWord) :=
  match r with
  | some v => [(0, v.x0), (1, v.x1), (2, v.x2), (3, v.x3)]
  | none => [(0, BitVec.allOnes 64)]

/-- SWCALL_RETURN (R290): the results are written and the coach acquires at package scope; in a WATCHDOG
handler, its RFT passes over the SWCALL (R378). -/
def execSwcallReturn (id : CoachId) (service : Option ServiceResult) (s : State) :
    Host.Outcome State Fault Refusal :=
  match s.coach? id with
  | none => .next s
  | some c =>
    match c.wait, c.suspended with
    | .swcall _, _ =>
      .next ((s.acquirePackage c.core).setCoach
        (({ c.setXs (serviceWrites service) with wait := .ready, lastPost := none } : Coach).advance 4))
    | _, some (pc, .swcall _) =>
      .next ((s.acquirePackage c.core).setCoach
        { c with suspended := some (pc, .ended 4 (serviceWrites service) none) })
    | _, _ => .next s

/-! ### System registers (R291, R367) -/

/-- OPERAND 0x0111 of SSR and SSW. -/
def ssrTrap (n : Nat) : Trap := operandTrap 0x0111 (n + 256)

/-- A system register of the SSR space (R291). -/
def State.secureReg (s : State) (l : Launch) (c : Coach) (n : Nat) : Option DWord :=
  match n with
  | 0x00 => some (s.core c.core).backoff
  | 0x01 => some (if l.sec then 1 else 0)
  | 0x02 => some (s.wdog.setWidth 64)
  | _ => none

/-- SSR (R291, R367). -/
def execSsr (w0 : W0) (s : State) : Host.Outcome State Fault Refusal :=
  let f := Fields.of32 w0
  issue .ssr f (fun s l c =>
    match s.secureReg l c f.a.toNat with
    | none => .error (.trap (ssrTrap f.a.toNat))
    | some v => whenActive s c f (finish s (c.setX f.d.toNat v) f)) s

/-- A value of BACKOFF without reserved-zero bits (R60). -/
def backoffOk (v : DWord) : Bool := bits v 63 32 == 0 && bits v 11 10 == 0

/-- The state after a write of a register of the SSR space; none: forbidden (R367). -/
def State.writeSecureReg (s : State) (l : Launch) (c : Coach) (n : Nat) (v : DWord) : Option State :=
  match n with
  | 0x00 => if backoffOk v then some (s.setCore { s.core c.core with backoff := v }) else none
  | 0x02 => if l.sec && bits v 63 32 == 0 then some { s with wdog := v.setWidth 32 } else none
  | _ => none

/-- SSW (R291, R367). -/
def execSsw (w0 : W0) (s : State) : Host.Outcome State Fault Refusal :=
  let f := Fields.of32 w0
  issue .ssw f (fun s l c =>
    match s.writeSecureReg l c f.d.toNat (c.xr f.a.toNat) with
    | none => .error (.trap (ssrTrap f.d.toNat))
    | some s1 => whenActive s c f (finish s1 c f)) s

/-! ### Invalidations (R292, R293) -/

/-- Does TLBI of a kind drop a cached translation? -/
def tlbiDrops (kind : Nat) (ctx : BitVec 8) (va : Nat) (t : Tlb) : Bool :=
  match kind with
  | 0 => t.ctx == ctx && t.page == va / levelSize t.level
  | 1 => t.ctx == ctx
  | _ => true

/-- Does a request that may have used a dropped translation still lack its response: one of host space, whose pages are
translated, of a coach of the context, or of any for `tlbi.all` (R90, R292)? -/
def State.tlbiWaits (s : State) (kind : Nat) (ctx : BitVec 8) : Bool :=
  s.requests.any (fun r => r.limit.isNone && (2 ≤ kind || s.ctxOf r.coach.q == some ctx))

/-- TLBI (R292, R358 0x0112). -/
def execTlbi (w0 : W0) (s : State) : Host.Outcome State Fault Refusal :=
  let f := Fields.of32 w0
  issue .tlbi f (fun s l c =>
    let kind := f.k 1 0
    let users := if kind = 2 then none else some l.ctx
    let kept := s.tlb.filter (fun t => !tlbiDrops kind l.ctx (bits (c.xr f.a.toNat) 56 0) t)
    checked [operandIf (kind == 2 && !l.sec) 0x0112 0]
      (whenActive s c f (s.drained c
        (if s.tlbiWaits kind l.ctx then .error (.wait .remote s)
         else if s.productsBusy users then .error (.wait (.products users) s)
         else finish { s with tlb := kept } c f)))) s

/-- The leaves that map an address, in the tables and in the translation cache (R92, R95): words may have been fetched, and
may be fetched next, through either. -/
def State.leaves (s : State) (p : Party) (va : Nat) : List (Nat × DWord) :=
  (match walk s p.sec va walkLevels p.root with
   | .ok r => [r]
   | .error _ => []) ++ ((s.cached p.ctx va).map (fun t => (t.level, t.entry))).toList

/-- Does a cached instruction word lie in a line that meets a range of a context's addresses, by the tables as they now are
or by the translations that ICINV drops with it (R293)? -/
def State.wordInRange (s : State) (p : Party) (base len key : Nat) : Bool :=
  (pagesOf base len).any (fun q => (s.leaves p (q.1 % 2 ^ 57)).any (fun r =>
    let k := fetchKey (leafLoc r.1 r.2 (q.1 % 2 ^ 57))
    key % 2 == k % 2 && decide (k / 2 / 128 ≤ key / 2 / 128)
      && decide (key / 2 / 128 ≤ (k / 2 + q.2 - 1) / 128)))

/-- Does a cached translation of the context meet a range? -/
def tlbInRange (ctx : BitVec 8) (base len : Nat) (t : Tlb) : Bool :=
  t.ctx == ctx && decide (t.page * levelSize t.level < base + len)
    && decide (base < (t.page + 1) * levelSize t.level)

/-- Drop instruction words and translations of a range, or all (R293). -/
def State.invalidateCode (s : State) (p : Party) (all : Bool) (base len : Nat) : State :=
  { s with
    cores := s.cores.map (fun k => { k with
      icache := if all then [] else k.icache.filter (fun e => !s.wordInRange p base len e.1) })
    prefetch := if all then [] else s.prefetch.map (fun q => { q with
      words := q.words.filter (fun e => !s.wordInRange p base len e.1) })
    tlb := if all then [] else s.tlb.filter (fun t => !(decide (0 < len) && tlbInRange p.ctx base len t)) }

/-- The crews whose stashes serve a coach's stores: those of its context in its cluster (R99). -/
def State.servingCrews (s : State) (c : Coach) : List Crew :=
  s.crews.filter (fun k => sameCluster k.core c.core && s.ctxOf k.q == s.ctxOf c.id.q)

/-- Every earlier store of a coach is performed at its home L2: the dirty lines that its cluster's stashes and its die's
L2 hold are written back (R99, R104, R293). -/
def State.storesHome (s : State) (c : Coach) : State :=
  let s1 := (s.servingCrews c).foldl (fun s k => s.cleanLines k k.lines) s
  (s1.remote.filter (fun r => r.die == c.core.die)).foldl (fun s r => s.writeBack r.line) s1

/-- ICINV in either format. -/
def icinvBody (f : Fields) : Body := fun s l c =>
  whenActive s c f (s.drained c
    (checked [(s.servingCrews c).findSome? (fun k => s.writeBackTrap k k.lines)]
      (finish ((s.storesHome c).invalidateCode (l.party (some c.core)) (f.k 0 0 == 1) (c.xr f.a.toNat).toNat
        (c.xr f.b.toNat).toNat) c f)))

/-- ICINV (R293). -/
def execIcinv (w0 : W0) (s : State) : Host.Outcome State Fault Refusal :=
  issue .icinv (.of32 w0) (icinvBody (.of32 w0)) s

/-- ICINV of a range, or with a predicate (R293). -/
def execIcinvF64 (w0 : W0) (w1 : W1) (s : State) : Host.Outcome State Fault Refusal :=
  issue .icinv (.of64 w0 w1) (icinvBody (.of64 w0 w1)) s

/-! ### Status (R295) -/

/-- CSTATRC (R295). -/
def execCstatrc (w0 : W0) (s : State) : Host.Outcome State Fault Refusal :=
  let f := Fields.of32 w0
  issue .cstatrc f (fun s _ c =>
    whenActive s c f (s.drained c
      (finish s { c.setX f.d.toNat c.cstat with cstat := clearCstat (f.k 2 0) c.cstat } f))) s

/-! ### Words that are no instruction, and fetches that fail (R122, R356) -/

/-- The second word at the selected coach's PC, where it can be fetched. -/
def State.secondWord (s : State) : Word :=
  match s.current with
  | none => 0
  | some c => match s.launch? c.id.q with
    | none => 0
    | some l => match s.fetchWord l c (c.pc.toNat + 4) with
      | .error _ => 0
      | .ok w => w

/-- WORD_NOT_AN_INSTRUCTION (R356): LEN 0b11 is ENCODING 0x0001, an unassigned OPC ENCODING 0x0002. -/
def execWordNotAnInstruction (word : BitVec 32) (s : State) : Host.Outcome State Fault Refusal :=
  if lenField word = 3 then raiseEncoding 1 0 word 0 s
  else if (Op.ofCode (opcField word)).isNone then
    raiseEncoding 2 (4 * (lenField word + 1)) word (if lenField word = 0 then 0 else s.secondWord) s
  else .next s

/-- Where a failed fetch is raised: when its first word is a CHRUN, at the CHARG that it completes (R347, R356, R364). The
act of a MACHINE trap is 0. -/
def State.fetchSite (s : State) (l : Launch) (c : Coach) (t : Trap) : TrapSite :=
  let site := match s.fetchWord l c c.pc.toNat with
    | .ok w => c.wordSite w s.secondWord (s.fetchLen l c)
    | .error _ => { pce := c.pc, resume := c.pc, act := c.live, ilen := 0 }
  if t.cls = 11 then { site with act := 0 } else site

/-- INSTRUCTION_FETCH_FAULT (R356): the trap of the word whose fetch fails. An unconsumed CHARG prefix is
dropped (R364). -/
def execInstructionFetchFault (s : State) : Host.Outcome State Fault Refusal :=
  match s.current with
  | none => .fault .noCoachSelected
  | some c =>
    match s.launch? c.id.q with
    | none => .fault .noCoachSelected
    | some l =>
      match s.fetch l c with
      | .ok _ => .next s
      | .error t =>
        .next (s.trapAfterGrid c { c with charg := none } t (s.fetchSite l c t))

end Sys2Proof.Machine
end

