-- ==== Sys2Proof/Machine/Dispatch.lean ====
section
/-! DEFINITION. The meaning of each instruction and event: one arm a constructor. -/

namespace Sys2Proof.Machine

open Sys2Proof

/-- What an instruction or an event does to the state. -/
def exec (i : Instr) (s : State) : Host.Outcome State Fault Refusal :=
  match i with
  | .publish q value => Sys2Proof.Machine.execPublish q value s
  | .qcfgWrite q value => Sys2Proof.Machine.execQcfgWrite q value s
  | .qstatWrite q value => Sys2Proof.Machine.execQstatWrite q value s
  | .configRegisterWrite off value => Sys2Proof.Machine.execConfigRegisterWrite off value s
  | .irqstatWrite value => Sys2Proof.Machine.execIrqstatWrite value s
  | .preemptRequest value => Sys2Proof.Machine.execPreemptRequest value s
  | .takeWaybill q => Sys2Proof.Machine.execTakeWaybill q s
  | .launchStart q => Sys2Proof.Machine.execLaunchStart q s
  | .placeGang q gang => Sys2Proof.Machine.execPlaceGang q gang s
  | .kernelPrefetch q => Sys2Proof.Machine.execKernelPrefetch q s
  | .preemptPriority q gang => Sys2Proof.Machine.execPreemptPriority q gang s
  | .preemptSave q gang => Sys2Proof.Machine.execPreemptSave q gang s
  | .gangResume q gang => Sys2Proof.Machine.execGangResume q gang s
  | .migrateDecision q gang => Sys2Proof.Machine.execMigrateDecision q gang s
  | .popRule c => Sys2Proof.Machine.execPopRule c s
  | .stepRetire q => Sys2Proof.Machine.execStepRetire q s
  | .completionWordWrite q => Sys2Proof.Machine.execCompletionWordWrite q s
  | .entryReceive sender accepted => Sys2Proof.Machine.execEntryReceive sender accepted s
  | .backoffExpiry sender => Sys2Proof.Machine.execBackoffExpiry sender s
  | .matrixKgroup c => Sys2Proof.Machine.execMatrixKgroup c s
  | .drayLine c => Sys2Proof.Machine.execDrayLine c s
  | .groupPhaseComplete q gang group => Sys2Proof.Machine.execGroupPhaseComplete q gang group s
  | .feWaitSatisfied c => Sys2Proof.Machine.execFeWaitSatisfied c s
  | .waitvRecheck c => Sys2Proof.Machine.execWaitvRecheck c s
  | .sleepExpiry c => Sys2Proof.Machine.execSleepExpiry c s
  | .yieldExpiry c => Sys2Proof.Machine.execYieldExpiry c s
  | .watchdogExpiry c => Sys2Proof.Machine.execWatchdogExpiry c s
  | .swcallReturn c service => Sys2Proof.Machine.execSwcallReturn c service s
  | .launchDiscard q => Sys2Proof.Machine.execLaunchDiscard q s
  | .fabricReadRequest packet => Sys2Proof.Machine.execFabricReadRequest packet s
  | .fabricWrite packet => Sys2Proof.Machine.execFabricWrite packet s
  | .fabricAtomic packet => Sys2Proof.Machine.execFabricAtomic packet s
  | .fabricReadData tag data => Sys2Proof.Machine.execFabricReadData tag data s
  | .fabricAck tag old => Sys2Proof.Machine.execFabricAck tag old s
  | .fabricDrop tag => Sys2Proof.Machine.execFabricDrop tag s
  | .fabricResponseTimeout tag => Sys2Proof.Machine.execFabricResponseTimeout tag s
  | .hostBar2Read addr count => Sys2Proof.Machine.execHostBar2Read addr count s
  | .hostBar2Write addr data => Sys2Proof.Machine.execHostBar2Write addr data s
  | .hostCompletion tag ok data => Sys2Proof.Machine.execHostCompletion tag ok data s
  | .mailboxAttest nonce => Sys2Proof.Machine.execMailboxAttest nonce s
  | .mailboxHealth => Sys2Proof.Machine.execMailboxHealth s
  | .coldBoot image signature => Sys2Proof.Machine.execColdBoot image signature s
  | .coreWithdrawn core => Sys2Proof.Machine.execCoreWithdrawn core s
  | .dieLoss die => Sys2Proof.Machine.execDieLoss die s
  | .sramDieFailure die => Sys2Proof.Machine.execSramDieFailure die s
  | .ioDieFailure => Sys2Proof.Machine.execIoDieFailure s
  | .portDown port => Sys2Proof.Machine.execPortDown port s
  | .planeMove plane => Sys2Proof.Machine.execPlaneMove plane s
  | .linkWidthRequest link => Sys2Proof.Machine.execLinkWidthRequest link s
  | .linkRetrainEnd link trained => Sys2Proof.Machine.execLinkRetrainEnd link trained s
  | .frequencyChange die steps => Sys2Proof.Machine.execFrequencyChange die steps s
  | .scrubberVisit die line => Sys2Proof.Machine.execScrubberVisit die line s
  | .nop w0 => Sys2Proof.Machine.execNop w0 s
  | .movx w0 => Sys2Proof.Machine.execMovx w0 s
  | .movi w0 w1 lit => Sys2Proof.Machine.execMovi w0 w1 lit s
  | .addx w0 w1 => Sys2Proof.Machine.execAddx w0 w1 s
  | .addxF96 w0 w1 lit => Sys2Proof.Machine.execAddxF96 w0 w1 lit s
  | .subx w0 w1 => Sys2Proof.Machine.execSubx w0 w1 s
  | .subxF96 w0 w1 lit => Sys2Proof.Machine.execSubxF96 w0 w1 lit s
  | .mulx w0 w1 => Sys2Proof.Machine.execMulx w0 w1 s
  | .mulxF96 w0 w1 lit => Sys2Proof.Machine.execMulxF96 w0 w1 lit s
  | .mulhx w0 w1 => Sys2Proof.Machine.execMulhx w0 w1 s
  | .mulhxF96 w0 w1 lit => Sys2Proof.Machine.execMulhxF96 w0 w1 lit s
  | .divx w0 w1 => Sys2Proof.Machine.execDivx w0 w1 s
  | .divxF96 w0 w1 lit => Sys2Proof.Machine.execDivxF96 w0 w1 lit s
  | .remx w0 w1 => Sys2Proof.Machine.execRemx w0 w1 s
  | .remxF96 w0 w1 lit => Sys2Proof.Machine.execRemxF96 w0 w1 lit s
  | .andx w0 w1 => Sys2Proof.Machine.execAndx w0 w1 s
  | .andxF96 w0 w1 lit => Sys2Proof.Machine.execAndxF96 w0 w1 lit s
  | .orx w0 w1 => Sys2Proof.Machine.execOrx w0 w1 s
  | .orxF96 w0 w1 lit => Sys2Proof.Machine.execOrxF96 w0 w1 lit s
  | .xorx w0 w1 => Sys2Proof.Machine.execXorx w0 w1 s
  | .xorxF96 w0 w1 lit => Sys2Proof.Machine.execXorxF96 w0 w1 lit s
  | .shlx w0 w1 => Sys2Proof.Machine.execShlx w0 w1 s
  | .shlxF96 w0 w1 lit => Sys2Proof.Machine.execShlxF96 w0 w1 lit s
  | .shrx w0 w1 => Sys2Proof.Machine.execShrx w0 w1 s
  | .shrxF96 w0 w1 lit => Sys2Proof.Machine.execShrxF96 w0 w1 lit s
  | .sarx w0 w1 => Sys2Proof.Machine.execSarx w0 w1 s
  | .sarxF96 w0 w1 lit => Sys2Proof.Machine.execSarxF96 w0 w1 lit s
  | .rotx w0 w1 => Sys2Proof.Machine.execRotx w0 w1 s
  | .rotxF96 w0 w1 lit => Sys2Proof.Machine.execRotxF96 w0 w1 lit s
  | .minx w0 w1 => Sys2Proof.Machine.execMinx w0 w1 s
  | .minxF96 w0 w1 lit => Sys2Proof.Machine.execMinxF96 w0 w1 lit s
  | .maxx w0 w1 => Sys2Proof.Machine.execMaxx w0 w1 s
  | .maxxF96 w0 w1 lit => Sys2Proof.Machine.execMaxxF96 w0 w1 lit s
  | .cmpx w0 w1 => Sys2Proof.Machine.execCmpx w0 w1 s
  | .cmpxF96 w0 w1 lit => Sys2Proof.Machine.execCmpxF96 w0 w1 lit s
  | .selx w0 w1 => Sys2Proof.Machine.execSelx w0 w1 s
  | .selxF96 w0 w1 lit => Sys2Proof.Machine.execSelxF96 w0 w1 lit s
  | .clzx w0 => Sys2Proof.Machine.execClzx w0 s
  | .popx w0 => Sys2Proof.Machine.execPopx w0 s
  | .bfex w0 w1 => Sys2Proof.Machine.execBfex w0 w1 s
  | .bfexF96 w0 w1 lit => Sys2Proof.Machine.execBfexF96 w0 w1 lit s
  | .bfix w0 w1 => Sys2Proof.Machine.execBfix w0 w1 s
  | .bfixF96 w0 w1 lit => Sys2Proof.Machine.execBfixF96 w0 w1 lit s
  | .madx w0 w1 => Sys2Proof.Machine.execMadx w0 w1 s
  | .madxF96 w0 w1 lit => Sys2Proof.Machine.execMadxF96 w0 w1 lit s
  | .leax w0 w1 => Sys2Proof.Machine.execLeax w0 w1 s
  | .leaxF96 w0 w1 lit => Sys2Proof.Machine.execLeaxF96 w0 w1 lit s
  | .srr w0 => Sys2Proof.Machine.execSrr w0 s
  | .srw w0 => Sys2Proof.Machine.execSrw w0 s
  | .vtox w0 w1 => Sys2Proof.Machine.execVtox w0 w1 s
  | .vtoxF96 w0 w1 lit => Sys2Proof.Machine.execVtoxF96 w0 w1 lit s
  | .xtov w0 => Sys2Proof.Machine.execXtov w0 s
  | .xtovF64 w0 w1 => Sys2Proof.Machine.execXtovF64 w0 w1 s
  | .mtox w0 => Sys2Proof.Machine.execMtox w0 s
  | .xtom w0 => Sys2Proof.Machine.execXtom w0 s
  | .bra w0 => Sys2Proof.Machine.execBra w0 s
  | .brc w0 w1 lit => Sys2Proof.Machine.execBrc w0 w1 lit s
  | .call w0 w1 lit => Sys2Proof.Machine.execCall w0 w1 lit s
  | .ret w0 => Sys2Proof.Machine.execRet w0 s
  | .jmpx w0 => Sys2Proof.Machine.execJmpx w0 s
  | .ifM w0 w1 lit => Sys2Proof.Machine.execIfM w0 w1 lit s
  | .elseM w0 => Sys2Proof.Machine.execElseM w0 s
  | .endif w0 => Sys2Proof.Machine.execEndif w0 s
  | .loop w0 w1 lit => Sys2Proof.Machine.execLoop w0 w1 lit s
  | .breakM w0 w1 lit => Sys2Proof.Machine.execBreakM w0 w1 lit s
  | .cont w0 w1 lit => Sys2Proof.Machine.execCont w0 w1 lit s
  | .endloop w0 w1 lit => Sys2Proof.Machine.execEndloop w0 w1 lit s
  | .brdiv w0 w1 lit => Sys2Proof.Machine.execBrdiv w0 w1 lit s
  | .reconv w0 => Sys2Proof.Machine.execReconv w0 s
  | .exit w0 => Sys2Proof.Machine.execExit w0 s
  | .exitF64 w0 w1 => Sys2Proof.Machine.execExitF64 w0 w1 s
  | .yield w0 => Sys2Proof.Machine.execYield w0 s
  | .sleep w0 => Sys2Proof.Machine.execSleep w0 s
  | .sleepF64 w0 w1 => Sys2Proof.Machine.execSleepF64 w0 w1 s
  | .sleepF96 w0 w1 lit => Sys2Proof.Machine.execSleepF96 w0 w1 lit s
  | .anym w0 => Sys2Proof.Machine.execAnym w0 s
  | .allm w0 => Sys2Proof.Machine.execAllm w0 s
  | .vadd w0 => Sys2Proof.Machine.execVadd w0 s
  | .vaddF64 w0 w1 => Sys2Proof.Machine.execVaddF64 w0 w1 s
  | .vaddF96 w0 w1 lit => Sys2Proof.Machine.execVaddF96 w0 w1 lit s
  | .vsub w0 => Sys2Proof.Machine.execVsub w0 s
  | .vsubF64 w0 w1 => Sys2Proof.Machine.execVsubF64 w0 w1 s
  | .vsubF96 w0 w1 lit => Sys2Proof.Machine.execVsubF96 w0 w1 lit s
  | .vmul w0 => Sys2Proof.Machine.execVmul w0 s
  | .vmulF64 w0 w1 => Sys2Proof.Machine.execVmulF64 w0 w1 s
  | .vmulF96 w0 w1 lit => Sys2Proof.Machine.execVmulF96 w0 w1 lit s
  | .vmulh w0 => Sys2Proof.Machine.execVmulh w0 s
  | .vmulhF64 w0 w1 => Sys2Proof.Machine.execVmulhF64 w0 w1 s
  | .vmulhF96 w0 w1 lit => Sys2Proof.Machine.execVmulhF96 w0 w1 lit s
  | .vmad w0 => Sys2Proof.Machine.execVmad w0 s
  | .vmadF64 w0 w1 => Sys2Proof.Machine.execVmadF64 w0 w1 s
  | .vmadF96 w0 w1 lit => Sys2Proof.Machine.execVmadF96 w0 w1 lit s
  | .vmin w0 => Sys2Proof.Machine.execVmin w0 s
  | .vminF64 w0 w1 => Sys2Proof.Machine.execVminF64 w0 w1 s
  | .vminF96 w0 w1 lit => Sys2Proof.Machine.execVminF96 w0 w1 lit s
  | .vmax w0 => Sys2Proof.Machine.execVmax w0 s
  | .vmaxF64 w0 w1 => Sys2Proof.Machine.execVmaxF64 w0 w1 s
  | .vmaxF96 w0 w1 lit => Sys2Proof.Machine.execVmaxF96 w0 w1 lit s
  | .vabs w0 => Sys2Proof.Machine.execVabs w0 s
  | .vabsF64 w0 w1 => Sys2Proof.Machine.execVabsF64 w0 w1 s
  | .vneg w0 => Sys2Proof.Machine.execVneg w0 s
  | .vnegF64 w0 w1 => Sys2Proof.Machine.execVnegF64 w0 w1 s
  | .vand w0 => Sys2Proof.Machine.execVand w0 s
  | .vandF64 w0 w1 => Sys2Proof.Machine.execVandF64 w0 w1 s
  | .vandF96 w0 w1 lit => Sys2Proof.Machine.execVandF96 w0 w1 lit s
  | .vor w0 => Sys2Proof.Machine.execVor w0 s
  | .vorF64 w0 w1 => Sys2Proof.Machine.execVorF64 w0 w1 s
  | .vorF96 w0 w1 lit => Sys2Proof.Machine.execVorF96 w0 w1 lit s
  | .vxor w0 => Sys2Proof.Machine.execVxor w0 s
  | .vxorF64 w0 w1 => Sys2Proof.Machine.execVxorF64 w0 w1 s
  | .vxorF96 w0 w1 lit => Sys2Proof.Machine.execVxorF96 w0 w1 lit s
  | .vnot w0 => Sys2Proof.Machine.execVnot w0 s
  | .vnotF64 w0 w1 => Sys2Proof.Machine.execVnotF64 w0 w1 s
  | .vshl w0 => Sys2Proof.Machine.execVshl w0 s
  | .vshlF64 w0 w1 => Sys2Proof.Machine.execVshlF64 w0 w1 s
  | .vshlF96 w0 w1 lit => Sys2Proof.Machine.execVshlF96 w0 w1 lit s
  | .vshr w0 => Sys2Proof.Machine.execVshr w0 s
  | .vshrF64 w0 w1 => Sys2Proof.Machine.execVshrF64 w0 w1 s
  | .vshrF96 w0 w1 lit => Sys2Proof.Machine.execVshrF96 w0 w1 lit s
  | .vsar w0 => Sys2Proof.Machine.execVsar w0 s
  | .vsarF64 w0 w1 => Sys2Proof.Machine.execVsarF64 w0 w1 s
  | .vsarF96 w0 w1 lit => Sys2Proof.Machine.execVsarF96 w0 w1 lit s
  | .vbfe w0 => Sys2Proof.Machine.execVbfe w0 s
  | .vbfeF64 w0 w1 => Sys2Proof.Machine.execVbfeF64 w0 w1 s
  | .vbfeF96 w0 w1 lit => Sys2Proof.Machine.execVbfeF96 w0 w1 lit s
  | .vbfi w0 => Sys2Proof.Machine.execVbfi w0 s
  | .vbfiF64 w0 w1 => Sys2Proof.Machine.execVbfiF64 w0 w1 s
  | .vbfiF96 w0 w1 lit => Sys2Proof.Machine.execVbfiF96 w0 w1 lit s
  | .vpop w0 => Sys2Proof.Machine.execVpop w0 s
  | .vpopF64 w0 w1 => Sys2Proof.Machine.execVpopF64 w0 w1 s
  | .vclz w0 => Sys2Proof.Machine.execVclz w0 s
  | .vclzF64 w0 w1 => Sys2Proof.Machine.execVclzF64 w0 w1 s
  | .vsel w0 w1 => Sys2Proof.Machine.execVsel w0 w1 s
  | .vselF96 w0 w1 lit => Sys2Proof.Machine.execVselF96 w0 w1 lit s
  | .vcmp w0 => Sys2Proof.Machine.execVcmp w0 s
  | .vcmpF64 w0 w1 => Sys2Proof.Machine.execVcmpF64 w0 w1 s
  | .vcmpF96 w0 w1 lit => Sys2Proof.Machine.execVcmpF96 w0 w1 lit s
  | .vmov w0 => Sys2Proof.Machine.execVmov w0 s
  | .vmovF64 w0 w1 => Sys2Proof.Machine.execVmovF64 w0 w1 s
  | .vlane w0 => Sys2Proof.Machine.execVlane w0 s
  | .vlaneF64 w0 w1 => Sys2Proof.Machine.execVlaneF64 w0 w1 s
  | .vdot4 w0 => Sys2Proof.Machine.execVdot4 w0 s
  | .vdot4F64 w0 w1 => Sys2Proof.Machine.execVdot4F64 w0 w1 s
  | .vdot4F96 w0 w1 lit => Sys2Proof.Machine.execVdot4F96 w0 w1 lit s
  | .fadd w0 => Sys2Proof.Machine.execFadd w0 s
  | .faddF64 w0 w1 => Sys2Proof.Machine.execFaddF64 w0 w1 s
  | .faddF96 w0 w1 lit => Sys2Proof.Machine.execFaddF96 w0 w1 lit s
  | .fsub w0 => Sys2Proof.Machine.execFsub w0 s
  | .fsubF64 w0 w1 => Sys2Proof.Machine.execFsubF64 w0 w1 s
  | .fsubF96 w0 w1 lit => Sys2Proof.Machine.execFsubF96 w0 w1 lit s
  | .fmul w0 => Sys2Proof.Machine.execFmul w0 s
  | .fmulF64 w0 w1 => Sys2Proof.Machine.execFmulF64 w0 w1 s
  | .fmulF96 w0 w1 lit => Sys2Proof.Machine.execFmulF96 w0 w1 lit s
  | .ffma w0 => Sys2Proof.Machine.execFfma w0 s
  | .ffmaF64 w0 w1 => Sys2Proof.Machine.execFfmaF64 w0 w1 s
  | .ffmaF96 w0 w1 lit => Sys2Proof.Machine.execFfmaF96 w0 w1 lit s
  | .fmin w0 => Sys2Proof.Machine.execFmin w0 s
  | .fminF64 w0 w1 => Sys2Proof.Machine.execFminF64 w0 w1 s
  | .fminF96 w0 w1 lit => Sys2Proof.Machine.execFminF96 w0 w1 lit s
  | .fmax w0 => Sys2Proof.Machine.execFmax w0 s
  | .fmaxF64 w0 w1 => Sys2Proof.Machine.execFmaxF64 w0 w1 s
  | .fmaxF96 w0 w1 lit => Sys2Proof.Machine.execFmaxF96 w0 w1 lit s
  | .fabs w0 => Sys2Proof.Machine.execFabs w0 s
  | .fabsF64 w0 w1 => Sys2Proof.Machine.execFabsF64 w0 w1 s
  | .fneg w0 => Sys2Proof.Machine.execFneg w0 s
  | .fnegF64 w0 w1 => Sys2Proof.Machine.execFnegF64 w0 w1 s
  | .fcmp w0 => Sys2Proof.Machine.execFcmp w0 s
  | .fcmpF64 w0 w1 => Sys2Proof.Machine.execFcmpF64 w0 w1 s
  | .fcmpF96 w0 w1 lit => Sys2Proof.Machine.execFcmpF96 w0 w1 lit s
  | .frcp w0 => Sys2Proof.Machine.execFrcp w0 s
  | .frcpF64 w0 w1 => Sys2Proof.Machine.execFrcpF64 w0 w1 s
  | .frsq w0 => Sys2Proof.Machine.execFrsq w0 s
  | .frsqF64 w0 w1 => Sys2Proof.Machine.execFrsqF64 w0 w1 s
  | .fsqrt w0 => Sys2Proof.Machine.execFsqrt w0 s
  | .fsqrtF64 w0 w1 => Sys2Proof.Machine.execFsqrtF64 w0 w1 s
  | .fexp2 w0 => Sys2Proof.Machine.execFexp2 w0 s
  | .fexp2F64 w0 w1 => Sys2Proof.Machine.execFexp2F64 w0 w1 s
  | .flog2 w0 => Sys2Proof.Machine.execFlog2 w0 s
  | .flog2F64 w0 w1 => Sys2Proof.Machine.execFlog2F64 w0 w1 s
  | .fsin w0 => Sys2Proof.Machine.execFsin w0 s
  | .fsinF64 w0 w1 => Sys2Proof.Machine.execFsinF64 w0 w1 s
  | .fcos w0 => Sys2Proof.Machine.execFcos w0 s
  | .fcosF64 w0 w1 => Sys2Proof.Machine.execFcosF64 w0 w1 s
  | .ftanh w0 => Sys2Proof.Machine.execFtanh w0 s
  | .ftanhF64 w0 w1 => Sys2Proof.Machine.execFtanhF64 w0 w1 s
  | .fsigm w0 => Sys2Proof.Machine.execFsigm w0 s
  | .fsigmF64 w0 w1 => Sys2Proof.Machine.execFsigmF64 w0 w1 s
  | .fclass w0 => Sys2Proof.Machine.execFclass w0 s
  | .fclassF64 w0 w1 => Sys2Proof.Machine.execFclassF64 w0 w1 s
  | .fround w0 => Sys2Proof.Machine.execFround w0 s
  | .froundF64 w0 w1 => Sys2Proof.Machine.execFroundF64 w0 w1 s
  | .fdot2 w0 => Sys2Proof.Machine.execFdot2 w0 s
  | .fdot2F64 w0 w1 => Sys2Proof.Machine.execFdot2F64 w0 w1 s
  | .fdot2F96 w0 w1 lit => Sys2Proof.Machine.execFdot2F96 w0 w1 lit s
  | .fscale w0 => Sys2Proof.Machine.execFscale w0 s
  | .fscaleF64 w0 w1 => Sys2Proof.Machine.execFscaleF64 w0 w1 s
  | .fscaleF96 w0 w1 lit => Sys2Proof.Machine.execFscaleF96 w0 w1 lit s
  | .cvt w0 => Sys2Proof.Machine.execCvt w0 s
  | .cvtF64 w0 w1 => Sys2Proof.Machine.execCvtF64 w0 w1 s
  | .pack w0 => Sys2Proof.Machine.execPack w0 s
  | .packF64 w0 w1 => Sys2Proof.Machine.execPackF64 w0 w1 s
  | .packF96 w0 w1 lit => Sys2Proof.Machine.execPackF96 w0 w1 lit s
  | .unpk w0 => Sys2Proof.Machine.execUnpk w0 s
  | .unpkF64 w0 w1 => Sys2Proof.Machine.execUnpkF64 w0 w1 s
  | .qamax w0 => Sys2Proof.Machine.execQamax w0 s
  | .qamaxF64 w0 w1 => Sys2Proof.Machine.execQamaxF64 w0 w1 s
  | .qexp w0 => Sys2Proof.Machine.execQexp w0 s
  | .qexpF64 w0 w1 => Sys2Proof.Machine.execQexpF64 w0 w1 s
  | .qcvt w0 w1 => Sys2Proof.Machine.execQcvt w0 w1 s
  | .dqcvt w0 w1 => Sys2Proof.Machine.execDqcvt w0 w1 s
  | .qtag w0 => Sys2Proof.Machine.execQtag w0 s
  | .qtagF64 w0 w1 => Sys2Proof.Machine.execQtagF64 w0 w1 s
  | .cbld w0 w1 => Sys2Proof.Machine.execCbld w0 w1 s
  | .cbldF96 w0 w1 lit => Sys2Proof.Machine.execCbldF96 w0 w1 lit s
  | .cblut w0 w1 => Sys2Proof.Machine.execCblut w0 w1 s
  | .cbenc w0 w1 => Sys2Proof.Machine.execCbenc w0 w1 s
  | .chld w0 w1 => Sys2Proof.Machine.execChld w0 w1 s
  | .chldF96 w0 w1 lit => Sys2Proof.Machine.execChldF96 w0 w1 lit s
  | .chrun w0 => Sys2Proof.Machine.execChrun w0 s
  | .chrunF64 w0 w1 => Sys2Proof.Machine.execChrunF64 w0 w1 s
  | .charg w0 w1 lit => Sys2Proof.Machine.execCharg w0 w1 lit s
  | .shfl w0 w1 => Sys2Proof.Machine.execShfl w0 w1 s
  | .shflF96 w0 w1 lit => Sys2Proof.Machine.execShflF96 w0 w1 lit s
  | .shflup w0 w1 => Sys2Proof.Machine.execShflup w0 w1 s
  | .shflupF96 w0 w1 lit => Sys2Proof.Machine.execShflupF96 w0 w1 lit s
  | .shfldn w0 w1 => Sys2Proof.Machine.execShfldn w0 w1 s
  | .shfldnF96 w0 w1 lit => Sys2Proof.Machine.execShfldnF96 w0 w1 lit s
  | .shflx w0 w1 => Sys2Proof.Machine.execShflx w0 w1 s
  | .shflxF96 w0 w1 lit => Sys2Proof.Machine.execShflxF96 w0 w1 lit s
  | .vote w0 => Sys2Proof.Machine.execVote w0 s
  | .voteF64 w0 w1 => Sys2Proof.Machine.execVoteF64 w0 w1 s
  | .reduce w0 => Sys2Proof.Machine.execReduce w0 s
  | .reduceF64 w0 w1 => Sys2Proof.Machine.execReduceF64 w0 w1 s
  | .scan w0 => Sys2Proof.Machine.execScan w0 s
  | .scanF64 w0 w1 => Sys2Proof.Machine.execScanF64 w0 w1 s
  | .elect w0 => Sys2Proof.Machine.execElect w0 s
  | .electF64 w0 w1 => Sys2Proof.Machine.execElectF64 w0 w1 s
  | .matchL w0 => Sys2Proof.Machine.execMatchL w0 s
  | .matchLF64 w0 w1 => Sys2Proof.Machine.execMatchLF64 w0 w1 s
  | .compress w0 => Sys2Proof.Machine.execCompress w0 s
  | .compressF64 w0 w1 => Sys2Proof.Machine.execCompressF64 w0 w1 s
  | .expand w0 => Sys2Proof.Machine.execExpand w0 s
  | .expandF64 w0 w1 => Sys2Proof.Machine.execExpandF64 w0 w1 s
  | .mmode w0 => Sys2Proof.Machine.execMmode w0 s
  | .mxmul w0 w1 => Sys2Proof.Machine.execMxmul w0 w1 s
  | .mxmulg w0 w1 => Sys2Proof.Machine.execMxmulg w0 w1 s
  | .mxzero w0 => Sys2Proof.Machine.execMxzero w0 s
  | .mxscl w0 w1 => Sys2Proof.Machine.execMxscl w0 w1 s
  | .mxout w0 w1 => Sys2Proof.Machine.execMxout w0 w1 s
  | .mxamax w0 => Sys2Proof.Machine.execMxamax w0 s
  | .mxamaxF64 w0 w1 => Sys2Proof.Machine.execMxamaxF64 w0 w1 s
  | .ld w0 => Sys2Proof.Machine.execLd w0 s
  | .ldF64 w0 w1 => Sys2Proof.Machine.execLdF64 w0 w1 s
  | .ldF96 w0 w1 lit => Sys2Proof.Machine.execLdF96 w0 w1 lit s
  | .st w0 => Sys2Proof.Machine.execSt w0 s
  | .stF64 w0 w1 => Sys2Proof.Machine.execStF64 w0 w1 s
  | .stF96 w0 w1 lit => Sys2Proof.Machine.execStF96 w0 w1 lit s
  | .atom w0 w1 => Sys2Proof.Machine.execAtom w0 w1 s
  | .atomF96 w0 w1 lit => Sys2Proof.Machine.execAtomF96 w0 w1 lit s
  | .cas w0 w1 => Sys2Proof.Machine.execCas w0 w1 s
  | .casF96 w0 w1 lit => Sys2Proof.Machine.execCasF96 w0 w1 lit s
  | .pmake w0 w1 => Sys2Proof.Machine.execPmake w0 w1 s
  | .pmakeF96 w0 w1 lit => Sys2Proof.Machine.execPmakeF96 w0 w1 lit s
  | .pderiv w0 w1 => Sys2Proof.Machine.execPderiv w0 w1 s
  | .pscope w0 => Sys2Proof.Machine.execPscope w0 s
  | .pget w0 => Sys2Proof.Machine.execPget w0 s
  | .padd w0 w1 => Sys2Proof.Machine.execPadd w0 w1 s
  | .paddF96 w0 w1 lit => Sys2Proof.Machine.execPaddF96 w0 w1 lit s
  | .sdef w0 w1 => Sys2Proof.Machine.execSdef w0 w1 s
  | .spos w0 => Sys2Proof.Machine.execSpos w0 s
  | .sposF64 w0 w1 => Sys2Proof.Machine.execSposF64 w0 w1 s
  | .sposF96 w0 w1 lit => Sys2Proof.Machine.execSposF96 w0 w1 lit s
  | .pref w0 w1 => Sys2Proof.Machine.execPref w0 w1 s
  | .prefF96 w0 w1 lit => Sys2Proof.Machine.execPrefF96 w0 w1 lit s
  | .stbind w0 w1 => Sys2Proof.Machine.execStbind w0 w1 s
  | .stunb w0 => Sys2Proof.Machine.execStunb w0 s
  | .drld w0 w1 => Sys2Proof.Machine.execDrld w0 w1 s
  | .drst w0 w1 => Sys2Proof.Machine.execDrst w0 w1 s
  | .drcp w0 w1 => Sys2Proof.Machine.execDrcp w0 w1 s
  | .tlrset w0 => Sys2Proof.Machine.execTlrset w0 s
  | .feset w0 w1 => Sys2Proof.Machine.execFeset w0 w1 s
  | .fesetF96 w0 w1 lit => Sys2Proof.Machine.execFesetF96 w0 w1 lit s
  | .gbar w0 => Sys2Proof.Machine.execGbar w0 s
  | .gbarF64 w0 w1 => Sys2Proof.Machine.execGbarF64 w0 w1 s
  | .garv w0 => Sys2Proof.Machine.execGarv w0 s
  | .garvF64 w0 w1 => Sys2Proof.Machine.execGarvF64 w0 w1 s
  | .gwait w0 => Sys2Proof.Machine.execGwait w0 s
  | .gqry w0 => Sys2Proof.Machine.execGqry w0 s
  | .post w0 => Sys2Proof.Machine.execPost w0 s
  | .migrate w0 => Sys2Proof.Machine.execMigrate w0 s
  | .waitv w0 w1 => Sys2Proof.Machine.execWaitv w0 w1 s
  | .waitvF96 w0 w1 lit => Sys2Proof.Machine.execWaitvF96 w0 w1 lit s
  | .gred w0 w1 => Sys2Proof.Machine.execGred w0 w1 s
  | .launch w0 w1 => Sys2Proof.Machine.execLaunch w0 w1 s
  | .trap w0 => Sys2Proof.Machine.execTrap w0 s
  | .rft w0 => Sys2Proof.Machine.execRft w0 s
  | .brk w0 => Sys2Proof.Machine.execBrk w0 s
  | .ssr w0 => Sys2Proof.Machine.execSsr w0 s
  | .ssw w0 => Sys2Proof.Machine.execSsw w0 s
  | .tlbi w0 => Sys2Proof.Machine.execTlbi w0 s
  | .icinv w0 => Sys2Proof.Machine.execIcinv w0 s
  | .icinvF64 w0 w1 => Sys2Proof.Machine.execIcinvF64 w0 w1 s
  | .savec w0 => Sys2Proof.Machine.execSavec w0 s
  | .restc w0 => Sys2Proof.Machine.execRestc w0 s
  | .cstatrc w0 => Sys2Proof.Machine.execCstatrc w0 s
  | .swcall w0 => Sys2Proof.Machine.execSwcall w0 s
  | .haltc w0 => Sys2Proof.Machine.execHaltc w0 s
  | .tick => Sys2Proof.Machine.execTick s
  | .replayLimitExhaustion sender => Sys2Proof.Machine.execReplayLimitExhaustion sender s
  | .softError place double => Sys2Proof.Machine.execSoftError place double s
  | .lunathPatrol stack beyondSpare => Sys2Proof.Machine.execLunathPatrol stack beyondSpare s
  | .podTableChange change => Sys2Proof.Machine.execPodTableChange change s
  | .worldAssignmentChange block secure => Sys2Proof.Machine.execWorldAssignmentChange block secure s
  | .packagePowerOff => Sys2Proof.Machine.execPackagePowerOff s
  | .wordNotAnInstruction word => Sys2Proof.Machine.execWordNotAnInstruction word s
  | .instructionFetchFault => Sys2Proof.Machine.execInstructionFetchFault s
  | .vabsF96 w0 w1 lit => Sys2Proof.Machine.execVabsF96 w0 w1 lit s
  | .vnegF96 w0 w1 lit => Sys2Proof.Machine.execVnegF96 w0 w1 lit s
  | .vnotF96 w0 w1 lit => Sys2Proof.Machine.execVnotF96 w0 w1 lit s
  | .vpopF96 w0 w1 lit => Sys2Proof.Machine.execVpopF96 w0 w1 lit s
  | .vclzF96 w0 w1 lit => Sys2Proof.Machine.execVclzF96 w0 w1 lit s
  | .vmovF96 w0 w1 lit => Sys2Proof.Machine.execVmovF96 w0 w1 lit s
  | .fabsF96 w0 w1 lit => Sys2Proof.Machine.execFabsF96 w0 w1 lit s
  | .fnegF96 w0 w1 lit => Sys2Proof.Machine.execFnegF96 w0 w1 lit s
  | .frcpF96 w0 w1 lit => Sys2Proof.Machine.execFrcpF96 w0 w1 lit s
  | .frsqF96 w0 w1 lit => Sys2Proof.Machine.execFrsqF96 w0 w1 lit s
  | .fsqrtF96 w0 w1 lit => Sys2Proof.Machine.execFsqrtF96 w0 w1 lit s
  | .fexp2F96 w0 w1 lit => Sys2Proof.Machine.execFexp2F96 w0 w1 lit s
  | .flog2F96 w0 w1 lit => Sys2Proof.Machine.execFlog2F96 w0 w1 lit s
  | .fsinF96 w0 w1 lit => Sys2Proof.Machine.execFsinF96 w0 w1 lit s
  | .fcosF96 w0 w1 lit => Sys2Proof.Machine.execFcosF96 w0 w1 lit s
  | .ftanhF96 w0 w1 lit => Sys2Proof.Machine.execFtanhF96 w0 w1 lit s
  | .fsigmF96 w0 w1 lit => Sys2Proof.Machine.execFsigmF96 w0 w1 lit s
  | .fclassF96 w0 w1 lit => Sys2Proof.Machine.execFclassF96 w0 w1 lit s
  | .froundF96 w0 w1 lit => Sys2Proof.Machine.execFroundF96 w0 w1 lit s

end Sys2Proof.Machine
end

