-- ==== Sys2Proof/Machine/Step.lean ====
section
/-! DEFINITION. One step of the package: the next event that has arrived from outside, else the next event
of the device itself, else the issue of one instruction, else the passing of a tick. -/

namespace Sys2Proof.Machine

open Sys2Proof

/-- What the fetched words give the selected coach: an instruction, or the ENCODING trap of words that
are none (R356, R357). -/
noncomputable def runWords (s : State) (ws : List Word) : Host.Outcome State Fault Refusal :=
  match decode ws with
  | .ok i => exec i s
  | .error .format => raiseEncoding 3 (4 * ws.length) (ws.getD 0 0) (ws.getD 1 0) s
  | .error .vselF32 => raiseEncoding (vselCode (ws.getD 0 0)) 4 (ws.getD 0 0) 0 s
  | .error _ => exec (.wordNotAnInstruction (ws.getD 0 0)) s

/-- The issue of the selected coach: fetch, decode, execute (R354). -/
noncomputable def issueStep (s : State) (c : Coach) : Host.Outcome State Fault Refusal :=
  match s.launch? c.id.q with
  | none => exec .instructionFetchFault s
  | some l =>
    match s.fetch l c with
    | .error _ => exec .instructionFetchFault s
    | .ok ws => runWords (s.noteWords l c ws.length c.pc.toNat) ws

/-- One step. -/
noncomputable def step (s : State) : Host.Outcome State Fault Refusal :=
  match s.inbox with
  | e :: rest =>
    if isOutside e then exec e { s with inbox := rest, fresh := s.fresh + 1 }
    else .next { s with inbox := rest }
  | [] =>
    if !s.powered then .next s
    else
      match s.agenda with
      | some e => exec e { s with fresh := s.fresh + 1 }
      | none =>
        match (if s.booted then s.nextCoach else none) with
        | some c => issueStep (s.select c) c
        | none => exec s.tickEvent s

/-- The state with an instruction stored where the next step fetches it, its bits numbered as the opcode
table numbers them; the bits above `nbits` are 0. -/
def State.withFetchWord (s : State) (nbits w : Nat) : State :=
  s.withProgram (natLe 12 (w % 2 ^ nbits))

end Sys2Proof.Machine
end

