-- ==== Sys2Proof/Safety.lean ====
section
/-! DEFINITION. What counts as a safe outcome of a step, and the terms in which the statements speak of an
instruction: when a coach issues it, what every completed issue leaves behind, and what it leaves alone. -/

namespace Sys2Proof

open Sys2Proof.Machine

/-- The step goes on: no fault and no refusal. -/
def goesOn (s : Machine.State) : Prop := ∃ t, Machine.step s = .next t

namespace Claims

/-- Coach `c` of launch `l` is selected and issues `o` with the fields `f`: no other CHARG prefix waits (R364),
the words break no ENCODING check (R357), no source register is poisoned (R398), and the instruction need not
follow the end of a matrix instruction of its own coach (R81, R255). -/
structure Issues (s : State) (c : Coach) (l : Launch) (o : Op) (f : Fields) : Prop where
  selected : s.current = some c
  launched : s.launch? c.id.q = some l
  noPrefix : o = .chrun ∨ c.charg = none
  words : encodingBreach o f = none
  counts : countBreach l c o f = false
  masks : maskBreach l o f = false
  clean : s.readsPoison c o f = false
  free : c.gridHolds o f = false

/-- The coach as its instruction finds it: it waits no more. -/
def awake (c : Coach) : Coach := { c with wait := .ready }

/-- The coach that goes on to the following instruction. -/
def onward (f : Fields) (d : Coach) : Coach :=
  { d with wait := .ready, pc := d.pc + BitVec.ofNat 64 f.len }

/-- What every completed issue leaves on its coach: answers are used up, save those that an RFT brings back and those for a
CHRUN whose CHARG comes first (R214, R378),
the slot's age is the present cycle (R58), the post record is that of the last instruction (R366), a CHARG prefix is
consumed (R364), a matrix instruction of the coach that still runs has been passed (R255), and a matrix or dray
instruction that has ended is progress (R376). -/
def issued (s : State) (o : Op) (f : Fields) (d : Coach) : Coach :=
  { d with
    answers := if o = .rft ∨ o = .charg then d.answers else []
    lastScalar := if o.isVector then d.lastScalar else s.cycles
    lastVector := if o.isVector then s.cycles else d.lastVector
    lastPost := if o = .rft then d.lastPost else if o = .post then some f.id16 else none
    charg := if o = .charg then d.charg else none
    grid := if o.startsGrid then d.grid else d.grid.map (fun w => { w with moved := true })
    wdc := if Op.isEngine o && !o.startsGrid then 0 else d.wdc }

/-- From `s` to `t` nothing changes but the coach `c` and the bookkeeping of an issue: on its core the slot's
affinity, the count of issues, and latch entries that are used up (R58, R71); and poison of registers. No byte of Lunath
and no byte of a local store changes. -/
structure Only (s t : State) (c : Coach) (o : Op) : Prop where
  rest : t = { s with coaches := t.coaches, cores := t.cores, poison := t.poison }
  coaches : ∀ id, id ≠ c.id → t.coach? id = s.coach? id
  cores : ∀ k, k ≠ c.core → t.core k = s.core k
  core : t.core c.core = { s.core c.core with
    latch := (t.core c.core).latch, lastVector := (t.core c.core).lastVector, prev := (t.core c.core).prev
    run := (t.core c.core).run, issued := (s.core c.core).issued + (if o.isVector then 0 else 1)
    issuedVector := (s.core c.core).issuedVector + (if o.isVector then 1 else 0) }
  slot : o.isVector = false → (t.core c.core).latch = (s.core c.core).latch
    ∧ (t.core c.core).lastVector = (s.core c.core).lastVector ∧ (t.core c.core).prev = (s.core c.core).prev
    ∧ (t.core c.core).run = (s.core c.core).run
  latch : ∀ e x, (t.core c.core).latch.getD e none = some x →
    ∃ y, (s.core c.core).latch.getD e none = some y ∧ y.value = x.value ∧ y.owner = x.owner
  memory : ∀ a, Memory.read t.mem a = Memory.read s.mem a
  store : ∀ k a, t.storeByte k a = s.storeByte k a

/-- The issue of `i` by `c` in state `s` completes: the accesses of the instruction have brought the state to
`s1`, the coach has become `d`, exactly the registers that it overwrites are free of poison (R397), and nothing else
changes. -/
def Ends (i : Instr) (s s1 : State) (c d : Coach) (o : Op) (f : Fields) : Prop :=
  ∃ t, exec i s = .next t ∧ t.coach? c.id = some (issued s1 o f d) ∧ Only s1 t c o
    ∧ t.poison = s1.poison.filter (fun p => !overwrites c o f p)

/-- Where the accesses of an instruction lie (R90). -/
def places (s : State) (l : Launch) (c : Coach) (es : List Elem) : List (Elem × Loc) :=
  located (es.map (fun e => (e, s.elemLoc (l.party (some c.core)) c e)))

/-- An access that passes the checks of R388 in turn: its pointer is well formed (R87) and may be used so (R90), it lies
in the scratch or the crew that a local pointer names, in the range of LEN, and aligned; it translates (R387), its scope
lies in its domain (R91), another package accepts it (R399), and no lost die or poison is met (R398, R407). -/
structure Passes (s : State) (l : Launch) (c : Coach) (e : Elem) : Prop where
  formed : ptrWellFormed l.scopeMax e.p = true
  writable : e.write = true → ptrCls e.p ≠ 1 ∧ ptrSpace e.p ≠ 5
  crews : ptrSpace e.p = 2 → 0 ≤ e.addr ∧ e.addr < 2 ^ 25 ∧ e.addr / 2 ^ 20 < (l.crewCount : Int)
  scratch : ptrSpace e.p = 1 ∨ ptrSpace e.p = 2 → 0 ≤ e.local_ ∧ e.local_ + (e.size : Int) ≤ (l.scratch : Int)
  range : 0 ≤ e.off ∧ e.off + (e.size : Int) ≤ (ptrLen e.p : Int)
  aligned : e.addr % (e.align : Int) = 0 ∧ e.off % (e.offMul : Int) = 0
  placed : ∃ loc, s.elemLoc (l.party (some c.core)) c e = .ok loc ∧ scopeBreach c e loc = false
    ∧ (loc.isPeer = true → s.peerBreach l e = none)
    ∧ s.accessHazard (l.party (some c.core)) (ptrSpace e.p) e.va (ptrWide? e.p e.atomic) (e.write && !e.atomic) loc
        e.size = none

/-- The state with an entry in a sender's window, where the window has room (R59). -/
def admitted (s : State) (c : Coach) (join : Nat) : State :=
  (s.enterQueue (joinSender c.core join) (c.id, c.pc)).getD s

/-- A sender's window has room (R59). -/
def roomy (s : State) (c : Coach) (join : Nat) : Prop :=
  (s.sender (joinSender c.core join)).entries.length < Config.windowSize

/-- The gang of a coach is on its cores, and its launch `l` has not ended: its engines work (R61, R350). -/
def engaged (s : State) (c : Coach) (l : Launch) : Prop :=
  s.launch? c.id.q = some l ∧ l.terminal = none ∧ ∃ g, s.gang? c.id.q c.id.gang = some g ∧ g.status ≠ .saved

end Claims

end Sys2Proof
end

