-- ==== Sys2Proof/Certificates/Slice0/Obligations.lean ====
section
/-! DEFINITION. The statements about the Zwidon, in the order of the manual's files: reset and the step,
encodings, the scalar, control and vector instructions, memory, the engines, groups, traps, the scheduler
and the events of the package. The parts come first, then the statements put together from them. -/

namespace Sys2Proof.Claims

open Sys2Proof Sys2Proof.Machine

/-! ### Scalar instructions (R157-R164) -/

/-- The instruction gives X[D] the value `v` of its coach; X255 discards it; with act 0 it is skipped (R157).
In each case it completes. -/
def WritesX (i : Instr) (o : Op) (f : Fields) (v : Coach → DWord) : Prop :=
  ∀ s c l, Issues s c l o f →
    Ends i s s c (onward f (if c.act f = 0 then c else c.setX f.d.toNat (v c))) o f

/-- The instruction takes the trap `t` at its own address: after a matrix instruction of its coach that is still in
flight has ended, until when the coach waits (R344, R361). -/
def Traps (i : Instr) (s : State) (c : Coach) (o : Op) (f : Fields) (t : Trap) : Prop :=
  (c.grid = none → exec i s = .next (s.takeTrap c t (c.site o f t)))
  ∧ (c.grid ≠ none → exec i s = .next (s.setCoach { c with wait := .ownGrid }))

/-- The 128-bit product of two 64-bit values, signed or not. -/
def product (signed : Bool) (a b : DWord) : BitVec 128 :=
  if signed then a.signExtend 128 * b.signExtend 128 else a.setWidth 128 * b.setWidth 128

/-- Quotient and remainder as integers, rounded toward zero (R159). -/
def quotient (signed : Bool) (a b : DWord) : DWord :=
  if b = 0 then BitVec.allOnes 64
  else if signed then BitVec.ofInt 64 (a.toInt.tdiv b.toInt) else BitVec.ofNat 64 (a.toNat / b.toNat)

def remainderOf (signed : Bool) (a b : DWord) : DWord :=
  if b = 0 then a
  else if signed then BitVec.ofInt 64 (a.toInt - b.toInt * a.toInt.tdiv b.toInt)
  else BitVec.ofNat 64 (a.toNat % b.toNat)

/-- The arithmetic of R159: the value from the operands a, b and c. -/
def arithmetic (o : Op) (f : Fields) (a b c : DWord) : Option DWord :=
  match o with
  | .movx => some a
  | .addx => some (BitVec.ofNat 64 (a.toNat + b.toNat))
  | .subx => some (BitVec.ofInt 64 ((a.toNat : Int) - b.toNat))
  | .mulx => some ((product false a b).extractLsb' 0 64)
  | .mulhx => some ((product (f.k6.getLsbD 0) a b).extractLsb' 64 64)
  | .divx => some (quotient (f.k6.getLsbD 0) a b)
  | .remx => some (remainderOf (f.k6.getLsbD 0) a b)
  | .madx => some (BitVec.ofNat 64 (a.toNat * b.toNat + c.toNat))
  | .leax =>
    let b' := if f.k6.getLsbD 3 then b.toNat % 2 ^ 32 else b.toNat
    some (BitVec.ofNat 64 (a.toNat + b' * 2 ^ (f.k6.toNat % 8)))
  | _ => none

/-- The shifts, the bit operations and the counts of R159, and field extract, from a and b. -/
def bitwise (o : Op) (f : Fields) (a b : DWord) : Option DWord :=
  let pos := b.toNat % 64
  let w := min (b.toNat / 256 % 128) (64 - pos)
  let field := a.toNat / 2 ^ pos % 2 ^ w
  match o with
  | .andx => some (a &&& b)
  | .orx => some (a ||| b)
  | .xorx => some (a ^^^ b)
  | .shlx => some (if 64 ≤ b.toNat then 0 else BitVec.ofNat 64 (a.toNat * 2 ^ b.toNat))
  | .shrx => some (if 64 ≤ b.toNat then 0 else BitVec.ofNat 64 (a.toNat / 2 ^ b.toNat))
  | .sarx => some (if 64 ≤ b.toNat then (if a.msb then BitVec.allOnes 64 else 0)
                   else BitVec.ofInt 64 (a.toInt / 2 ^ b.toNat))
  | .rotx => some (a <<< (b.toNat % 64) ||| a >>> (64 - b.toNat % 64))
  | .clzx => some (BitVec.ofNat 64 (((List.range 64).takeWhile (fun n => !a.getLsbD (63 - n))).length))
  | .popx => some (BitVec.ofNat 64 (((List.range 64).filter (fun n => a.getLsbD n)).length))
  | .bfex => some (if f.k6.getLsbD 0 ∧ 0 < w ∧ 2 ^ (w - 1) ≤ field
                   then BitVec.ofInt 64 ((field : Int) - 2 ^ w) else BitVec.ofNat 64 field)
  | _ => none

/-- Field insert (R159): the old D, with the low bits of a at pos under the mask of w' bits. -/
def inserted (old a b : DWord) : DWord :=
  let pos := b.toNat % 64
  let w := min (b.toNat / 256 % 128) (64 - pos)
  let mk := BitVec.ofNat 64 ((2 ^ w - 1) * 2 ^ pos)
  (old &&& ~~~mk) ||| (BitVec.ofNat 64 (a.toNat * 2 ^ pos) &&& mk)

/-- "Less than", as signed values or not. -/
def less (signed : Bool) (a b : DWord) : Prop :=
  if signed then a.toInt < b.toInt else a.toNat < b.toNat

/-- A comparison code of CMPX (R159). -/
def comparesX (signed : Bool) (cc : Nat) (a b : DWord) : Prop :=
  (cc = 0 ∧ a = b) ∨ (cc = 1 ∧ a ≠ b) ∨ (cc = 2 ∧ less signed a b) ∨ (cc = 3 ∧ ¬ less signed b a)
    ∨ (cc = 4 ∧ less signed b a) ∨ (cc = 5 ∧ ¬ less signed a b)

/-- The largest K6 of the instructions of R159. -/
def largestK6 (o : Op) : Option Nat :=
  match o with
  | .mulhx | .divx | .remx | .minx | .maxx | .bfex => some 1
  | .cmpx | .leax => some 15
  | .nop | .movx | .addx | .subx | .mulx | .andx | .orx | .xorx | .shlx | .shrx | .sarx | .rotx | .selx | .clzx | .popx
  | .bfix | .madx => some 0
  | _ => none

/-- The registers that SRR reads, with their values (R291). -/
def systemRegisters (s : State) (l : Launch) (c : Coach) : List (Nat × DWord) :=
  [(0x00, c.mode), (0x01, c.cstat), (0x02, c.mxs), (0x03, s.lscap c), (0x04, BitVec.ofNat 64 c.width),
    (0x05, BitVec.ofNat 64 l.step), (0x06, BitVec.ofNat 64 (c.id.gang % l.gridX)),
    (0x07, BitVec.ofNat 64 (c.id.gang / l.gridX % l.gridY)),
    (0x08, BitVec.ofNat 64 (c.id.gang / (l.gridX * l.gridY))), (0x09, BitVec.ofNat 64 c.id.crew),
    (0x0A, BitVec.ofNat 64 (if c.cmp16 then 2 * c.id.coach else c.id.coach)),
    (0x0B, match c.lpost with | none => 0xFFFF | some n => n.setWidth 64),
    (0x0C, BitVec.ofNat 64 c.image), (0x0D, s.time)]

/-- The coach that waits for `w`, its slot's age the present cycle (R40, R58). -/
def waiting (s : State) (d : Coach) (w : Wait) (o : Op) : Coach :=
  { d with
    wait := w
    lastScalar := if o.isVector then d.lastScalar else s.cycles
    lastVector := if o.isVector then s.cycles else d.lastVector
    grid := if o.startsGrid then d.grid else d.grid.map (fun g => { g with moved := true }) }

/-- The issue of an instruction whose coach is not ready: the PC stays, and the coach waits for `w` (R40, R58). -/
def Waits (i : Instr) (s s1 : State) (c d : Coach) (w : Wait) (o : Op) : Prop :=
  ∃ t, exec i s = .next t ∧ t.coach? c.id = some (waiting s1 d w o) ∧ Only s1 t c o ∧ t.poison = s1.poison

/-- A value that SRW may write to MODE: RND 1-5, SUB 0-2, SAT 1-2 and no reserved bit (R76, R367). -/
def legalMode (v : DWord) : Prop :=
  1 ≤ v.toNat % 8 ∧ v.toNat % 8 ≤ 5 ∧ v.toNat / 8 % 4 ≤ 2
    ∧ (v.toNat / 32 % 4 = 1 ∨ v.toNat / 32 % 4 = 2) ∧ v.toNat < 128

/-- The mask that XTOM writes before bits beyond W are dropped (R164). -/
def movedMask (k : Nat) (m x : DWord) : DWord :=
  match k with
  | 0 => x
  | 1 => m &&& x
  | 2 => m ||| x
  | _ => m &&& ~~~x

/-- Elements of a V operand of a scalar-slot instruction: V0-V251, or the constant 0 of 255 (R66, R67). -/
def element (c : Coach) (n j : Nat) : Word := if n = 255 then 0 else (c.vr n).elem j

end Sys2Proof.Claims

open Sys2Proof Sys2Proof.Machine Sys2Proof.Claims

/-- MOVX, ADDX, SUBX, MULX, MULHX, DIVX, REMX, MADX and LEAX in their F32, F64 and F96 forms complete with the
result of R159 in X[D], and change nothing else. -/
def Sys2Proof.Claims.ScalarArithmetic : Prop :=
  ∀ i o f, view i = some (o, f) → ∀ g : DWord → DWord → DWord → DWord,
    (∀ a b c, arithmetic o f a b c = some (g a b c)) →
      WritesX i o f (fun c => g (c.xr f.a.toNat) (c.bValue f) (c.xr f.c.toNat))

/-- ANDX, ORX, XORX, SHLX, SHRX, SARX, ROTX, CLZX, POPX, BFEX and BFIX in every form complete with the result
of R159 in X[D], and change nothing else. -/
def Sys2Proof.Claims.ScalarBits : Prop :=
  (∀ i o f, view i = some (o, f) → ∀ g : DWord → DWord → DWord,
    (∀ a b, bitwise o f a b = some (g a b)) → WritesX i o f (fun c => g (c.xr f.a.toNat) (c.bValue f)))
  ∧ ∀ i f, view i = some (.bfix, f) →
      WritesX i .bfix f (fun c => inserted (c.xr f.d.toNat) (c.xr f.a.toNat) (c.bValue f))

/-- CMPX gives 1 or 0, MINX and MAXX the smaller or larger operand, SELX a or b by c, in every form (R159). -/
def Sys2Proof.Claims.ScalarCompareSelect : Prop :=
  ∀ i f, open Classical in
    (view i = some (.cmpx, f) → WritesX i .cmpx f (fun c =>
      if comparesX (f.k6.getLsbD 3) (f.k6.toNat % 8) (c.xr f.a.toNat) (c.bValue f) then 1 else 0))
    ∧ (view i = some (.minx, f) → WritesX i .minx f (fun c =>
      if less (f.k6.getLsbD 0) (c.bValue f) (c.xr f.a.toNat) then c.bValue f else c.xr f.a.toNat))
    ∧ (view i = some (.maxx, f) → WritesX i .maxx f (fun c =>
      if less (f.k6.getLsbD 0) (c.xr f.a.toNat) (c.bValue f) then c.bValue f else c.xr f.a.toNat))
    ∧ (view i = some (.selx, f) → WritesX i .selx f (fun c =>
      if c.xr f.c.toNat = 0 then c.bValue f else c.xr f.a.toNat))

/-- A K6 beyond the bits of R159's table, and CC 6 and 7 of CMPX, are not accepted (R159). -/
def Sys2Proof.Claims.ScalarCodes : Prop :=
  ∀ i o f n, view i = some (o, f) → largestK6 o = some n →
    (n < f.k6.toNat → encodingBreach o f ≠ none) ∧ (o = .cmpx → 6 ≤ f.k6.toNat % 8 → encodingBreach o f ≠ none)

/-- MOVI has only an F96 form, sets X[D] by K6[1:0] to LIT32 sign-extended, zero-extended, or in the high half
with the low half unchanged, and its code 3 is reserved (R160). -/
def Obligations.MoviForms : Prop :=
  (∀ i f, view i = some (.movi, f) → f.form = .f96 ∧ (f.k6.toNat % 4 = 3 → encodingBreach .movi f ≠ none)
    ∧ WritesX i .movi f (fun c =>
        if f.k6.toNat % 4 = 0 then BitVec.ofInt 64 f.lit.toInt
        else if f.k6.toNat % 4 = 1 then BitVec.ofNat 64 f.lit.toNat
        else BitVec.ofNat 64 (f.lit.toNat * 2 ^ 32 + (c.xr f.d.toNat).toNat % 2 ^ 32)))

/-- NOP changes no state apart from the PC and the bookkeeping of an issue. -/
def Sys2Proof.Claims.NopAdvances : Prop :=
  ∀ w0 s c l, Issues s c l .nop (.of32 w0) → Ends (.nop w0) s s c (onward (.of32 w0) c) .nop (.of32 w0)

/-- SRR gives X[D] the value of each register of R291's map and traps with OPERAND 0x0111 on another number; that of
CSTAT, which an access still under way may set, waits for the coach's earlier accesses. SRW writes MODE with a legal
value and traps with OPERAND 0x0111 otherwise (R161, R319, R367, R401). -/
def Sys2Proof.Claims.SystemRegisters : Prop :=
  ∀ w0 s c l,
    (Issues s c l .srr (.of32 w0) →
      (∀ r ∈ systemRegisters s l c, w0.a.toNat = r.1 → (w0.a = 1 → ∀ q ∈ s.requests, q.coach ≠ c.id) →
        Ends (.srr w0) s s c (onward (.of32 w0) (if c.live = 0 then c else c.setX w0.d.toNat r.2)) .srr
          (.of32 w0))
      ∧ (w0.a = 1 → c.live ≠ 0 → (∃ q ∈ s.requests, q.coach = c.id) →
        Waits (.srr w0) s s c (awake c) .remote .srr)
      ∧ (14 ≤ w0.a.toNat → Traps (.srr w0) s c .srr (.of32 w0) (operandTrap 0x0111 w0.a.toNat)))
    ∧ (Issues s c l .srw (.of32 w0) →
      (w0.d = 0 → legalMode (c.xr w0.a.toNat) →
        Ends (.srw w0) s s c (onward (.of32 w0) (if c.live = 0 then c else { c with mode := c.xr w0.a.toNat })) .srw
          (.of32 w0))
      ∧ (w0.d ≠ 0 ∨ ¬ legalMode (c.xr w0.a.toNat) →
        Traps (.srw w0) s c .srw (.of32 w0) (operandTrap 0x0111 w0.d.toNat)))

/-- VTOX copies element b mod W of Va, sign- or zero-extended, and XTOV writes the lanes of act with tag U, or
with tag A and a stride; both trap with OPERAND 0x0103 on a register of the block while MXM = 1
(R162, R163, R361). -/
def Sys2Proof.Claims.LaneTransfers : Prop :=
  (∀ i f, view i = some (.vtox, f) → ∀ s c l, Issues s c l .vtox f →
    let e := element c f.a.toNat ((c.bValue f).toNat % c.width)
    (c.blockTrap .vtox f = none →
      Ends i s s c (onward f (if c.act f = 0 then c else c.setX f.d.toNat
        (if f.k6.getLsbD 0 then BitVec.ofInt 64 e.toInt else BitVec.ofNat 64 e.toNat))) .vtox f)
    ∧ ∀ t, c.blockTrap .vtox f = some t → Traps i s c .vtox f t)
  ∧ ∀ i f, view i = some (.xtov, f) → ∀ s c l, Issues s c l .xtov f →
    let base := (c.xr f.a.toNat).setWidth 32
    let v := if f.form = .f32 then VReg.u base else VReg.a base ((c.xr f.b.toNat).setWidth 32)
    let q := if c.act f = 0 then (s, c) else s.writeV c f.d.toNat (c.act f) { value := v }
    (c.blockTrap .xtov f = none → Ends i s q.1 c (onward f q.2) .xtov f)
    ∧ ∀ t, c.blockTrap .xtov f = some t → Traps i s c .xtov f t

/-- MTOX copies a mask, cm or ex to X[D]; XTOM writes, ands, ors or and-nots X[A] into the mask M[D]. Bits beyond
W of the mask become 0, and K6 value 3 of MTOX is reserved (R24, R164). -/
def Sys2Proof.Claims.MaskMoves : Prop :=
  ∀ w0 : W0,
    WritesX (.mtox w0) .mtox (.of32 w0) (fun c =>
      if w0.k6 = 0 then c.mr w0.a.toNat else if w0.k6 = 1 then c.cm else c.ex)
    ∧ (w0.k6 = 3 → encodingBreach .mtox (.of32 w0) ≠ none)
    ∧ ∀ s c l, Issues s c l .xtom (.of32 w0) →
      let v := movedMask w0.k6.toNat (c.mr w0.d.toNat) (c.xr w0.a.toNat)
      Ends (.xtom w0) s s c
        (onward (.of32 w0) (if c.live = 0 then c else
          { c with m := c.m.set w0.d.toNat (v &&& lowMask c.width) })) .xtom (.of32 w0)

/-- X255 reads 0 and discards what is written; a write of one X register leaves every other as it was, and a
register reads back what was written to it (R128). -/
def Sys2Proof.Claims.ScalarRegisterFile : Prop :=
  ∀ (c : Coach) (n k : Nat) (v : DWord),
    c.xr 255 = 0 ∧ c.setX 255 v = c
    ∧ (n < c.x.length → n ≠ 255 → (c.setX n v).xr n = v)
    ∧ (k ≠ n → (c.setX n v).xr k = c.xr k)
    ∧ c.setX n v = { c with x := (c.setX n v).x }

namespace Sys2Proof.Claims

open Sys2Proof Sys2Proof.Machine

/-! ### Control instructions (R28-R32, R165-R175) -/

/-- A control target of the executing image: a multiple of 4 inside it (R165). -/
abbrev inImage (l : Launch) (c : Coach) (a : DWord) : Prop :=
  4 ∣ a.toNat ∧ l.imageBase c.image ≤ a.toNat ∧ a.toNat < l.imageBase c.image + l.imageLen c.image

/-- OPERAND 0x010E on a control target (R365). -/
def targetBreach (a : DWord) : Trap := { operandTrap 0x010E 0 with addr := a }

/-- The instruction sets pc to `target` and leaves its coach as `d` otherwise, or traps on a bad target. -/
def GoesTo (i : Instr) (s : State) (c : Coach) (l : Launch) (o : Op) (f : Fields) (d : Coach)
    (target : DWord) : Prop :=
  (inImage l c target → Ends i s s c { d with wait := .ready, pc := target } o f)
  ∧ (¬ inImage l c target → Traps i s c o f (targetBreach target))

/-- `pc + 4 × sext(offset, 16)` of a half of LIT32. -/
def wordOffset (c : Coach) (off : BitVec 16) : DWord := c.pc + BitVec.ofInt 64 (4 * off.toInt)

/-- `pc + sext(LIT32, 32)`. -/
def byteOffset (c : Coach) (lit : BitVec 32) : DWord := c.pc + BitVec.ofInt 64 lit.toInt

/-- The address of the following instruction. -/
def following (c : Coach) (f : Fields) : DWord := c.pc + BitVec.ofNat 64 f.len

/-- The condition of BRC (R166). -/
def brcHolds (cc : Nat) (a : DWord) : Prop :=
  (cc = 0 ∧ a = 0) ∨ (cc = 1 ∧ a ≠ 0) ∨ (cc = 2 ∧ a.toInt < 0) ∨ (cc = 3 ∧ 0 ≤ a.toInt)

/-- The condition mask of an instruction that takes NEG (R168). -/
def condition (c : Coach) (f : Fields) : DWord :=
  if f.k6.getLsbD 0 then ~~~c.mr f.a.toNat else c.mr f.a.toNat

/-- A divergent branch with targets tpc and npc and reconvergence point rp, all of the image (R28). -/
def Diverges (i : Instr) (s : State) (c : Coach) (l : Launch) (o : Op) (f : Fields)
    (tpc npc rp : DWord) : Prop :=
  let a := c.cm &&& ~~~c.ex
  let t := a &&& condition c f
  let n := a &&& ~~~condition c f
  let below : Entry := { kind := 0, pc := rp, mask := c.cm, rpc := c.rpc, ph := false, slot := 0 }
  let deferred : Entry := { kind := 1, pc := npc, mask := n, rpc := rp, ph := false, slot := 0 }
  (n = 0 → Ends i s s c { awake c with pc := tpc } o f)
  ∧ (n ≠ 0 → t = 0 → Ends i s s c { awake c with pc := npc } o f)
  ∧ (n ≠ 0 → t ≠ 0 →
      (∀ s1 c1 s2 c2, s.push l (awake c) below = .ok (s1, c1) → s1.push l c1 deferred = .ok (s2, c2) →
        Ends i s s2 c { c2 with pc := tpc, cm := t, rpc := rp } o f)
      ∧ (∀ u, s.push l (awake c) below = .error (.trap u) → Traps i s c o f u)
      ∧ ∀ s1 c1 u, s.push l (awake c) below = .ok (s1, c1) → s1.push l c1 deferred = .error (.trap u) →
        Traps i s c o f u)

/-- A control instruction whose targets `as` must lie in the image: the first that does not traps with OPERAND
0x010E, and otherwise `P` holds of it (R365). -/
def WithTargets (i : Instr) (s : State) (c : Coach) (l : Launch) (o : Op) (f : Fields) (as : List DWord)
    (P : Prop) : Prop :=
  (∀ a, as.find? (fun a => !decide (inImage l c a)) = some a → Traps i s c o f (targetBreach a))
  ∧ ((∀ a ∈ as, inImage l c a) → P)

/-- The lanes that a live lane of a condition leaves (R170, R171). -/
def without (c : Coach) (cond : DWord) : Coach := { c with cm := c.cm &&& ~~~((c.cm &&& ~~~c.ex) &&& cond) }

/-- An OPERAND 0x010F trap of a coach (R365). -/
def reconvergenceBreach (c : Coach) : Trap := { cls := 4, code := 0x010F, info := c.rpc }

/-- The value v and the lanes that ANYM and ALLM test (R175). -/
def tested (c : Coach) (f : Fields) : DWord × DWord :=
  let src := f.k6.toNat / 2 % 4
  let named := if src = 0 then c.mr f.a.toNat else if src = 1 then c.cm else c.ex
  (if f.k6.getLsbD 0 then ~~~named else named, if src = 0 then c.cm &&& ~~~c.ex else lowMask c.width)

/-- Where a trap of a coach between two of its instructions is raised: at the next one, or at the CHARG that waits for it,
whose length counts with that of a CHRUN (R347, R364). -/
def betweenInstructions (s : State) (l : Launch) (c : Coach) : TrapSite :=
  match c.charg with
  | none => { pce := c.pc, resume := c.pc, act := 0, ilen := s.fetchLen l c }
  | some p => { pce := p.pc, resume := p.pc, act := 0, ilen := 12 + if s.nextIsChrun l c = true then s.fetchLen l c else 0 }

/-- The 32 bytes of a divergence-stack entry as a number (R27). -/
def entryNumber (e : Entry) : Nat :=
  e.pc.toNat + e.mask.toNat * 2 ^ 64 + e.rpc.toNat * 2 ^ 128 + e.kind * 2 ^ 193 + e.slot * 2 ^ 195
    + (if e.ph then 1 else 0) * 2 ^ 197

/-- The state with an entry of the coach's divergence stack, by its number from the bottom, free of poison (R397). -/
def cleanEntry (s : State) (c : Coach) (n : Nat) : State :=
  { s with poison := s.poison.filter (fun p => p ≠ .register c.id .stack n) }

/-- The coach that has popped an entry of kind 0 or 1 (R29). -/
def popped (c : Coach) (e : Entry) : Coach :=
  { c with stack := c.stack.tail, depth := c.depth - 1, pc := e.pc, cm := e.mask &&& lowMask c.width, rpc := e.rpc }

/-- The coach `d` that `c` becomes as it takes a held entry whose phase is complete: with the result of the GRED that held
this path, where it was one (R29, R286). Each held path has its own, known by the number of its entry from the bottom. -/
def takesHeld (c d : Coach) (e : Entry) : Prop :=
  d.x = (match c.gred.find? (fun g => g.entry == c.depth - 1) with
    | none => c.x
    | some g => match g.result with
      | none => c.x
      | some v => (c.setX g.xd v).x)
  ∧ d.gred = c.gred.filter (fun g => g.entry != c.depth - 1)
  ∧ d = { popped c e with x := d.x, gred := d.gred }

/-- The pop rule applies. -/
def mustReconverge (c : Coach) : Prop := c.pc = c.rpc ∨ c.cm &&& ~~~c.ex = 0

end Sys2Proof.Claims

open Sys2Proof Sys2Proof.Machine Sys2Proof.Claims

/-- BRA goes to pc plus four times the 22-bit field of word 0 bits [31:10]; BRC goes to pc plus LIT32 when its
condition holds and to pc plus 12 otherwise. Neither changes cm, rpc or the stack (R166). -/
def Obligations.UniformBranches : Prop :=
  (∀ w0 s c l, Issues s c l .bra (.of32 w0) →
    GoesTo (.bra w0) s c l .bra (.of32 w0) c
      (c.pc + BitVec.ofInt 64 (4 * (w0.k6 ++ w0.a ++ w0.d : BitVec 22).toInt)))
  ∧ ∀ w0 w1 lit s c l, Issues s c l .brc (.of96 w0 w1 lit) →
    (brcHolds (w0.k6.toNat % 4) (c.xr w0.a.toNat) →
      GoesTo (.brc w0 w1 lit) s c l .brc (.of96 w0 w1 lit) c (byteOffset c lit))
    ∧ (¬ brcHolds (w0.k6.toNat % 4) (c.xr w0.a.toNat) →
      Ends (.brc w0 w1 lit) s s c { awake c with pc := c.pc + 12 } .brc (.of96 w0 w1 lit))

/-- CALL leaves pc + 12 in X[D] and goes to pc plus LIT32; RET and JMPX go to X[A]. The stack, cm and rpc are
unchanged (R167, R365). -/
def Sys2Proof.Claims.CallReturnJump : Prop :=
  (∀ w0 w1 lit s c l, Issues s c l .call (.of96 w0 w1 lit) →
    GoesTo (.call w0 w1 lit) s c l .call (.of96 w0 w1 lit) (c.setX w0.d.toNat (c.pc + 12)) (byteOffset c lit))
  ∧ ∀ w0 s c l,
    (Issues s c l .ret (.of32 w0) → GoesTo (.ret w0) s c l .ret (.of32 w0) c (c.xr w0.a.toNat))
    ∧ (Issues s c l .jmpx (.of32 w0) → GoesTo (.jmpx w0) s c l .jmpx (.of32 w0) c (c.xr w0.a.toNat))

/-- IF and BRDIV apply the divergent branch of R28 with the targets of R168 and R171, and trap with OPERAND
0x010E when one of them lies outside the image (R365). -/
def Sys2Proof.Claims.DivergentBranches : Prop :=
  ∀ w0 w1 lit s c l,
    let f := Fields.of96 w0 w1 lit
    let near := wordOffset c (lit.extractLsb' 0 16)
    let rp := wordOffset c (lit.extractLsb' 16 16)
    (Issues s c l .ifM f → WithTargets (.ifM w0 w1 lit) s c l .ifM f [following c f, near, rp]
      (Diverges (.ifM w0 w1 lit) s c l .ifM f (following c f) near rp))
    ∧ (Issues s c l .brdiv f → WithTargets (.brdiv w0 w1 lit) s c l .brdiv f [near, following c f, rp]
      (Diverges (.brdiv w0 w1 lit) s c l .brdiv f near (following c f) rp))

/-- ELSE goes to rpc, and traps with OPERAND 0x010F when there is none; ENDIF has no effect; RECONV and BREAK take the
live lanes of their condition out of cm, BREAK only when rpc is the named exit (R168, R170, R171). That ELSE goes to any
rpc, without the target check of R365, is the model's reading (log 88). -/
def Sys2Proof.Claims.PathEnds : Prop :=
  ∀ w0 w1 lit s c l,
    let f := Fields.of96 w0 w1 lit
    (Issues s c l .elseM (.of32 w0) →
      (c.rpc ≠ BitVec.allOnes 64 → Ends (.elseM w0) s s c { awake c with pc := c.rpc } .elseM (.of32 w0))
      ∧ (c.rpc = BitVec.allOnes 64 → Traps (.elseM w0) s c .elseM (.of32 w0) (reconvergenceBreach c)))
    ∧ (Issues s c l .endif (.of32 w0) → Ends (.endif w0) s s c (onward (.of32 w0) c) .endif (.of32 w0))
    ∧ (Issues s c l .reconv (.of32 w0) →
        Ends (.reconv w0) s s c (onward (.of32 w0) (without c (condition c (.of32 w0)))) .reconv (.of32 w0))
    ∧ (Issues s c l .breakM f →
      (c.rpc = wordOffset c (lit.extractLsb' 0 16) →
        Ends (.breakM w0 w1 lit) s s c (onward f (without c (condition c f))) .breakM f)
      ∧ (c.rpc ≠ wordOffset c (lit.extractLsb' 0 16) →
        Traps (.breakM w0 w1 lit) s c .breakM f (reconvergenceBreach c)))

/-- LOOP pushes its exit and makes it rpc; ENDLOOP goes back to the body with the live lanes of its condition, or
on when there are none; CONT splits at the ENDLOOP it names, when rpc is that address plus 12 (R169, R170). -/
def Sys2Proof.Claims.Loops : Prop :=
  ∀ w0 w1 lit s c l,
    let f := Fields.of96 w0 w1 lit
    let target := wordOffset c (lit.extractLsb' 0 16)
    let t := (c.cm &&& ~~~c.ex) &&& condition c f
    let outer : Entry := { kind := 0, pc := target, mask := c.cm, rpc := c.rpc, ph := false, slot := 0 }
    (Issues s c l .loop f → WithTargets (.loop w0 w1 lit) s c l .loop f [target, following c f]
      ((∀ s1 c1, s.push l (awake c) outer = .ok (s1, c1) →
          Ends (.loop w0 w1 lit) s s1 c { c1 with rpc := target, pc := following c f } .loop f)
        ∧ ∀ u, s.push l (awake c) outer = .error (.trap u) → Traps (.loop w0 w1 lit) s c .loop f u))
    ∧ (Issues s c l .endloop f → WithTargets (.endloop w0 w1 lit) s c l .endloop f [following c f, target]
        (Ends (.endloop w0 w1 lit) s s c
          (if t = 0 then onward f c else { awake c with cm := t, pc := target }) .endloop f))
    ∧ (Issues s c l .cont f → WithTargets (.cont w0 w1 lit) s c l .cont f [target, following c f]
        ((c.rpc = target + 12 → Diverges (.cont w0 w1 lit) s c l .cont f target (following c f) target)
        ∧ (c.rpc ≠ target + 12 → Traps (.cont w0 w1 lit) s c .cont f (reconvergenceBreach c))))

/-- A push keeps the 16 newest entries on chip: at depth d ≥ 16 the oldest of them is first written to the
coach's spill area at byte offset 32 × (d − 16), in the layout of R27, and at depth 16 plus the capacity it is
EXEC 1; a poisoned entry is not delivered, and an entry that is written is free of poison (R27, R31, R373, R397). -/
def Obligations.StackPush : Prop :=
  ∀ (s : State) (l : Launch) (c : Coach) (e : Entry),
    (c.depth = 16 + l.spillCap →
      s.push l c e = .error (.trap { cls := 7, code := 1, info := BitVec.ofNat 64 c.depth }))
    ∧ (c.depth < 16 → s.push l c e = .ok (cleanEntry s c c.depth, { c with stack := e :: c.stack, depth := c.depth + 1 }))
    ∧ (16 ≤ c.depth → c.depth ≠ 16 + l.spillCap → ∀ old rest, c.stack = rest ++ [old] →
      (.register c.id .stack (c.depth - 16) ∈ s.poison →
        s.push l c e = .error (.trap { cls := 11, code := 2 }))
      ∧ (.register c.id .stack (c.depth - 16) ∉ s.poison → ∀ s1, old.kind < 4 → old.slot < 4 →
        s.ctxWrite (l.party (some c.core)) (l.spill + 32 * l.spillCap * l.lc c.id + 32 * (c.depth - 16))
            (natLe 32 (entryNumber old)) = .ok s1 →
          s.push l c e = .ok (cleanEntry s1 c c.depth,
            { c with stack := e :: rest, depth := c.depth + 1, spilled := old :: c.spilled })))

/-- The pop rule of R29: a ready coach at its reconvergence point, or without a live lane, takes pc, cm and rpc
from the top entry; on a held entry whose phase is not complete it waits, and one whose phase is complete it takes, with
the result of the GRED that held the path (R286). A pop that leaves 16 entries or more reads the oldest of the 16 newest
back from the spill area, at byte offset 32 × (depth − 16), or is EXEC 2 where that cannot be read (R31, R373). A poisoned
entry is MACHINE 2 (R397). With an empty stack, no matrix instruction of its own in flight and no access outstanding, the
coach retires with every lane exited; with an access outstanding it waits for this first, since its exits are a release
(R298, R301). A trap names the instruction that the coach would issue, with its length (R347). The last coach of a gang,
whose retirement ends the gang, and several pops in a row are left out. -/
def Obligations.PopRule : Prop :=
  ∀ s c l, s.coach? c.id = some c → s.launch? c.id.q = some l → s.ready c = true → mustReconverge c →
    (∀ e rest, c.stack = e :: rest → .register c.id .stack (c.depth - 1) ∉ s.poison →
      (e.kind ≠ 2 → c.depth ≤ 16 → ¬ mustReconverge (popped c e) →
        ∃ t, exec (.popRule c.id) s = .next t ∧ t.coach? c.id = some (popped c e))
      ∧ (e.kind = 2 → s.phaseDone c e = false →
        ∃ t, exec (.popRule c.id) s = .next t ∧ t.coach? c.id = some { c with wait := .held })
      ∧ (e.kind = 2 → s.phaseDone c e = true → c.depth ≤ 16 → ¬ mustReconverge (popped c e) →
        ∃ t d, exec (.popRule c.id) s = .next t ∧ t.coach? c.id = some d ∧ takesHeld c d e)
      ∧ (e.kind ≠ 2 → 16 < c.depth → ¬ mustReconverge (popped c e) →
        let p := l.party (some c.core)
        let addr := l.spill + 32 * l.spillCap * l.lc c.id + 32 * (c.depth - 17)
        (∀ bs s1 old more, s.ctxReadWith p addr 32 = .ok (bs, s1) → c.spilled = old :: more → old.kind < 4 → old.slot < 4 →
          natLe 32 (entryNumber old) = bs →
          ∃ t, exec (.popRule c.id) s = .next t
            ∧ t.coach? c.id = some { popped c e with stack := rest ++ [old], spilled := more })
        ∧ ∀ b, s.ctxReadWith p addr 32 = .error b → b.cls = 6 → c.grid = none →
          exec (.popRule c.id) s = .next (s.takeTrap c { cls := 7, code := 2, addr := BitVec.ofNat 64 addr, info := 1 }
            { pce := c.pc, resume := c.pc, act := 0, ilen := s.fetchLen l c })))
    ∧ (∀ e rest, c.stack = e :: rest → .register c.id .stack (c.depth - 1) ∈ s.poison → c.grid = none →
      exec (.popRule c.id) s
        = .next (s.takeTrap c { cls := 11, code := 2 } { pce := c.pc, resume := c.pc, act := 0, ilen := s.fetchLen l c }))
    ∧ (c.stack = [] → c.grid = none → s.outstanding c = false →
      (∃ d ∈ s.coachesOf c.id.q c.id.gang, d.id ≠ c.id ∧ d.retired = false) →
      ∃ t d, exec (.popRule c.id) s = .next t ∧ t.coach? c.id = some d ∧ d.retired = true
        ∧ d.ex = lowMask c.width)
    ∧ (c.stack = [] → c.grid = none → s.outstanding c = true →
      exec (.popRule c.id) s = .next (s.setCoach { c with wait := .remote }))

/-- EXIT adds the lanes of its act to ex, in both formats, which can complete arrivals (R30, R36, R172); these are a
release, so that it waits for every earlier access of its coach (R298). -/
def Sys2Proof.Claims.ExitLanes : Prop :=
  ∀ i f, view i = some (.exit, f) → ∀ s c l, Issues s c l .exit f →
    (c.act f = 0 → Ends i s s c (onward f c) .exit f)
    ∧ (c.act f ≠ 0 → s.outstanding c = true → Waits i s s c (awake c) .remote .exit)
    ∧ (c.act f ≠ 0 → s.outstanding c = false →
        Ends i s s c (onward f ({ c with ex := c.ex ||| c.act f, wdc := 0 } : Coach).arriveAll) .exit f)

/-- What a YIELD leaves for each slot of its core, scalar and vector: how many instructions have issued there, its own
among them, and its cycle (R173). -/
def Sys2Proof.Claims.yields (s : State) (c : Coach) : List Yielded :=
  [{ vector := false, issued := (s.core c.core).issued + 1, cycle := s.cycles },
    { vector := true, issued := (s.core c.core).issuedVector, cycle := s.cycles }]

/-- YIELD completes and leaves its coach not ready in both slots; SLEEP waits min(a + b, 2^24) ticks from its issue with
the PC on it, in every form, and with 0 ticks acts as YIELD (R173, R174). -/
def Sys2Proof.Claims.YieldAndSleep : Prop :=
  (∀ w0 s c l, Issues s c l .yield (.of32 w0) →
    Ends (.yield w0) s s c { onward (.of32 w0) c with yields := yields s c } .yield (.of32 w0))
  ∧ ∀ i f, view i = some (.sleep, f) → ∀ s c l, Issues s c l .sleep f →
    let b : Nat := if f.form = .f96 then f.lit.toNat else (c.xr f.b.toNat).toNat
    let n := min (((c.xr f.a.toNat).toNat + b) % 2 ^ 64) (2 ^ 24)
    (n = 0 → Ends i s s c { onward f c with yields := yields s c } .sleep f)
    ∧ (n ≠ 0 → Waits i s s c (awake c) (.sleep (s.time.toNat + n) f.len) .sleep)

/-- ANYM and ALLM give 1 or 0 by the mask, cm or ex that they test, inverted or not, over the live lanes or over
all W lanes; SRC 3 is reserved (R175). -/
def Sys2Proof.Claims.MaskTests : Prop :=
  ∀ w0 s c l,
    let v := tested c (.of32 w0)
    (w0.k6.toNat / 2 % 4 = 3 →
      encodingBreach .anym (.of32 w0) ≠ none ∧ encodingBreach .allm (.of32 w0) ≠ none)
    ∧ (Issues s c l .anym (.of32 w0) →
      Ends (.anym w0) s s c (onward (.of32 w0) (c.setX w0.d.toNat (if v.1 &&& v.2 = 0 then 0 else 1))) .anym
        (.of32 w0))
    ∧ (Issues s c l .allm (.of32 w0) →
      Ends (.allm w0) s s c (onward (.of32 w0) (c.setX w0.d.toNat (if v.1 &&& v.2 = v.2 then 1 else 0))) .allm
        (.of32 w0))

namespace Sys2Proof.Claims

open Sys2Proof Sys2Proof.Machine

/-! ### Vector instructions (R66-R75, R130-R132, R179-R195) -/

/-- The operand checks pass and the sources can be read: A, B and C as delivered, the state after their stream
accesses, and the coach with its stream positions advanced and a lost latch noted (R69-R75). -/
def Reads (s : State) (c : Coach) (l : Launch) (o : Op) (f : Fields) (src : Sources) (s1 : State) (c1 : Coach) :
    Prop :=
  firstTrap ((s.beginIssue c o).vectorChecks l (awake c) o f) = none
    ∧ (s.beginIssue c o).sources l (awake c) o f = .ok (src, s1, c1)

/-- The instruction holds operand A where HOLD says so, writes the result `r` to its vector destination under
act, and completes. -/
def EndsWritten (i : Instr) (s s1 : State) (c c1 : Coach) (o : Op) (f : Fields) (src : Sources) (r : Result) :
    Prop :=
  let p := s1.holdA c1 f src.a
  let q := p.1.writeV p.2 f.d.toNat (c.act f) r
  Ends i s q.1 c (onward f q.2) o f

/-- A vector instruction in its register form completes with a result of which `good` holds; a failed operand
check, or a source that cannot be read, is its trap. -/
def Computes (i : Instr) (o : Op) (f : Fields) (good : Coach → Sources → Result → Prop) : Prop :=
  ∀ s c l, Issues s c l o f → isSweep o f = false →
    (∀ src s1 c1, Reads s c l o f src s1 c1 →
      ∃ r, good c src r ∧ EndsWritten i s s1 c c1 o f src r)
    ∧ (∀ t, firstTrap ((s.beginIssue c o).vectorChecks l (awake c) o f) = some t → Traps i s c o f t)
    ∧ ∀ t, firstTrap ((s.beginIssue c o).vectorChecks l (awake c) o f) = none →
      (s.beginIssue c o).sources l (awake c) o f = .error (.trap t) → Traps i s c o f t

/-- Sub-element t of width w of a word (R130). -/
def sub (w t : Nat) (a : Word) : Nat := a.toNat / 2 ^ (w * t) % 2 ^ w

/-- Each lane of the result is `g` of the lane's words. -/
def LaneWords (c : Coach) (src : Sources) (r : Result) (g : Word → Word → Word → Word) : Prop :=
  ∀ j, j < c.width → r.value.elem j = g (src.a.value.elem j) (src.b.elem j) (src.c.elem j)

/-- Each sub-element of width w of each lane is `g` of the sub-elements of the lane's words. -/
def LaneElements (c : Coach) (src : Sources) (r : Result) (w : Nat) (g : Nat → Nat → Nat → Nat) : Prop :=
  ∀ j t, j < c.width → t < 32 / w →
    sub w t (r.value.elem j) = g (sub w t (src.a.value.elem j)) (sub w t (src.b.elem j)) (sub w t (src.c.elem j))

/-- The shape tag of a register: 0 U, 1 A, 2 G (R67). -/
def tagOf (v : VReg) : Nat :=
  match v with
  | .u _ => 0
  | .a _ _ => 1
  | .g _ => 2

/-- Operands of tags for which R179 gives an A result, for an integer form on whole words that does not
saturate, from the tags of A, B and C and the base of B. -/
def affineForm (o : Op) (sat a b c : Nat) (count : Word) : Prop :=
  match o with
  | .vadd | .vsub => sat ≠ 1 ∧ a ≤ 1 ∧ b ≤ 1
  | .vmul => sat ≠ 1 ∧ a + b ≤ 1
  | .vmad => sat ≠ 1 ∧ a + b ≤ 1 ∧ c ≤ 1
  | .vshl => a = 1 ∧ b = 0 ∧ count.toNat < 32
  | .vneg => sat ≠ 1 ∧ a = 1
  | _ => False

/-- The natural tag of a lane-by-lane result (R179): U from U sources, A in the forms above, otherwise G. -/
def NaturalTag (c : Coach) (o : Op) (f : Fields) (src : Sources) (r : Result) : Prop :=
  let a := tagOf src.a.value
  let b := tagOf src.b
  let d := tagOf src.c
  r.keepExited = false
    ∧ (a = 0 ∧ b = 0 ∧ d = 0 → tagOf r.value = 0)
    ∧ (¬ (a = 0 ∧ b = 0 ∧ d = 0) → f.k6.toNat % 4 = 0 → affineForm o (c.sat f) a b d (src.b.elem 0) →
        tagOf r.value = 1)
    ∧ (¬ (a = 0 ∧ b = 0 ∧ d = 0) → ¬ (f.k6.toNat % 4 = 0 ∧ affineForm o (c.sat f) a b d (src.b.elem 0)) →
        tagOf r.value = 2)

/-- An element read as a signed or unsigned integer. -/
def readAs (signed : Bool) (w x : Nat) : Int :=
  if signed ∧ 2 ^ (w - 1) ≤ x then (x : Int) - 2 ^ w else x

/-- An exact result saturated to the element's range, or wrapped (R181). -/
def delivered (sat : Nat) (signed : Bool) (w : Nat) (z : Int) : Nat :=
  let low : Int := if signed then -(2 ^ (w - 1)) else 0
  let high : Int := if signed then 2 ^ (w - 1) - 1 else 2 ^ w - 1
  let v := if sat = 1 then (if z < low then low else if high < z then high else z) else z
  (v % 2 ^ w).toNat

/-- Set bits, and leading zero bits, of an element of width w. -/
def ones (w x : Nat) : Nat := ((List.range w).filter (fun n => x.testBit n)).length
def zeros (w x : Nat) : Nat := ((List.range w).takeWhile (fun n => !x.testBit (w - 1 - n))).length

/-- The effect per element of the integer instructions of R181. -/
def integerElement (o : Op) (signed : Bool) (w sat x y z : Nat) : Option Nat :=
  let a := readAs signed w x
  let b := readAs signed w y
  let c := readAs signed w z
  match o with
  | .vadd => some (delivered sat signed w (a + b))
  | .vsub => some (delivered sat signed w (a - b))
  | .vmul => some (delivered sat signed w (a * b))
  | .vmulh => some ((a * b % 2 ^ (2 * w)).toNat / 2 ^ w)
  | .vmad => some (delivered sat signed w (a * b + c))
  | .vmin => some (if b < a then y else x)
  | .vmax => some (if a < b then y else x)
  | .vabs => some (delivered sat true w (readAs true w x).natAbs)
  | .vneg => some (delivered sat true w (-readAs true w x))
  | .vshl => some (if w ≤ y then 0 else x * 2 ^ y % 2 ^ w)
  | .vshr => some (if w ≤ y then 0 else x / 2 ^ y)
  | .vsar => some (if w ≤ y then (if x < 2 ^ (w - 1) then 0 else 2 ^ w - 1)
                   else (readAs true w x / 2 ^ y % 2 ^ w).toNat)
  | .vpop => some (ones w x)
  | .vclz => some (zeros w x)
  | _ => none

/-- Position and width of VBFE and VBFI (R182). -/
def fieldPlace (b : Word) : Nat × Nat :=
  let pos := b.toNat % 32
  (pos, min (min (b.toNat / 256 % 64) 32) (32 - pos))

/-- VBFI of a word (R182). -/
def insertedWord (old a b : Word) : Word :=
  let mk := BitVec.ofNat 32 ((2 ^ (fieldPlace b).2 - 1) * 2 ^ (fieldPlace b).1)
  (old &&& ~~~mk) ||| (BitVec.ofNat 32 (a.toNat * 2 ^ (fieldPlace b).1) &&& mk)

/-- The effect per word of the integer instructions that take the word whole (R181, R182). -/
def integerWord (o : Op) (signed : Bool) (sat : Nat) (a b c : Word) : Option Word :=
  match o with
  | .vand => some (a &&& b)
  | .vor => some (a ||| b)
  | .vxor => some (a ^^^ b)
  | .vnot => some (~~~a)
  | .vbfe =>
    let w := (fieldPlace b).2
    let x := a.toNat / 2 ^ (fieldPlace b).1 % 2 ^ w
    some (BitVec.ofInt 32 (readAs (signed && 0 < w) w x))
  | .vdot4 =>
    let product (t : Nat) : Int := readAs signed 8 (sub 8 t a) * readAs signed 8 (sub 8 t b)
    some (BitVec.ofNat 32 (delivered sat signed 32
      (readAs signed 32 c.toNat + product 0 + product 1 + product 2 + product 3)))
  | _ => none

/-- A comparison of two words by VCMP (R183). -/
def comparesW (signed : Bool) (cc : Nat) (a b : Word) : Prop :=
  let x := readAs signed 32 a.toNat
  let y := readAs signed 32 b.toNat
  (cc = 0 ∧ x = y) ∨ (cc = 1 ∧ x ≠ y) ∨ (cc = 2 ∧ x < y) ∨ (cc = 3 ∧ x ≤ y) ∨ (cc = 4 ∧ y < x) ∨ (cc = 5 ∧ y ≤ x)

/-- A comparison that writes the mask M[D] in the lanes of act: bit j is the comparison of the lane, other bits
stay; it completes whenever its sources can be read. -/
def WritesMask (i : Instr) (o : Op) (f : Fields) (holds : Coach → Word → Word → Prop) : Prop :=
  ∀ s c l, Issues s c l o f → ∀ src s1 c1, Reads s c l o f src s1 c1 →
    ∃ m : DWord, (∀ j, j < 64 → (m.getLsbD j = true ↔
        if (c.act f).getLsbD j ∧ j < c.width then holds c (src.a.value.elem j) (src.b.elem j)
        else (c.mr f.d.toNat).getLsbD j = true ∧ ¬ (c.act f).getLsbD j))
      ∧ let p := s1.holdA (c1.setM f.d.toNat m) f src.a
        Ends i s p.1 c (onward f p.2) o f

/-- Element format of a float form: TY (R184). -/
def formatOf (f : Fields) : FloatFormat :=
  if f.k6.toNat % 4 = 0 then .b32 else if f.k6.toNat % 4 = 1 then .b16 else .bf16

/-- The effect per element of the float instructions of R185, on the exact values of the elements. -/
def floatElement (o : Op) (ty : FloatFormat) (rnd sat sb x y z : Nat) : Option Nat :=
  let a := ty.operand sb x
  let b := ty.operand sb y
  let c := ty.operand sb z
  let w := ty.width
  match o with
  | .fadd => some (sumRes ty rnd sat sb [a, b])
  | .fsub => some (sumRes ty rnd sat sb [a, b.neg])
  | .fmul => some (sumRes ty rnd sat sb [a.mul b])
  | .ffma => some (sumRes ty rnd sat sb [a.mul b, c])
  | .fmin => some (fminmax ty false sb x y)
  | .fmax => some (fminmax ty true sb x y)
  | .fabs => some (x % 2 ^ (w - 1))
  | .fneg => some ((x + 2 ^ (w - 1)) % 2 ^ w)
  | .frcp => some (rcpRes ty rnd sat sb a)
  | .frsq => some (rsqRes ty rnd sat sb a)
  | .fsqrt => some (sqrtRes ty rnd sat sb a)
  | .fround => some (froundRes ty rnd a)
  | .fscale => some (resVal ty rnd sat sb (a.scale (max (-1000) (min 1000 (readAs true w y)))))
  | _ => none

/-- The special functions on binary32 patterns (R190-R194). -/
def specialFunction (o : Op) : Option (Nat → Nat) :=
  match o with
  | .fexp2 => some Machine.fexp2
  | .flog2 => some Machine.flog2
  | .fsin => some Machine.fsin
  | .fcos => some Machine.fcos
  | .ftanh => some Machine.ftanh
  | .fsigm => some Machine.fsigm
  | _ => none

/-- A special function on an element: widened exactly to binary32, run, and delivered to the format by RNE (R188, R195).
-/
def specialResult (f : Fields) (sb : Nat) (g : Nat → Nat) (x : Nat) : Nat :=
  resVal (formatOf f) 1 2 sb (FloatFormat.b32.decode (g (exactB32 ((formatOf f).operand sb x)))) % 2 ^ (formatOf f).width

/-- FDOT2 of a lane: the exact sum of two products and a binary32 addend, delivered once (R187). -/
def dotResult (c : Coach) (f : Fields) (a b d : Word) : Word :=
  let el (w : Word) (t : Nat) : FVal := (formatOf f).operand c.sub (sub 16 t w)
  BitVec.ofNat 32 (sumRes .b32 (c.rnd f) (c.sat f) c.sub
    [(el a 0).mul (el b 0), (el a 1).mul (el b 1), FloatFormat.b32.operand c.sub d.toNat])

end Sys2Proof.Claims

open Sys2Proof Sys2Proof.Machine Sys2Proof.Claims

/-- VADD, VSUB, VMUL, VMULH, VMAD, VMIN, VMAX, VABS, VNEG, VSHL, VSHR, VSAR, VPOP and VCLZ in their register
forms of every format compute each sub-element as R181 says, with the natural tag of R179. That VMAD's affine factor may
stand on either side of its uniform one for the tag A is the model's reading (log 88). -/
def Sys2Proof.Claims.VectorIntegerElements : Prop :=
  ∀ i o f, view i = some (o, f) →
    (integerElement o false 32 2 0 0 0 ≠ none) →
    Computes i o f (fun c src r =>
      let w := 32 / 2 ^ (f.k6.toNat % 4)
      NaturalTag c o f src r
        ∧ LaneElements c src r w (fun x y z =>
            (integerElement o (f.k6.getLsbD 2) w (c.sat f) x y z).getD 0))

/-- VAND, VOR, VXOR, VNOT, VBFE and VDOT4 in their register forms of every format compute each word as R181 and
R182 say, with the natural tag of R179. -/
def Sys2Proof.Claims.VectorIntegerWords : Prop :=
  ∀ i o f, view i = some (o, f) → ∀ g : Coach → Word → Word → Word → Word,
    (∀ c a b d, integerWord o (f.k6.getLsbD 2) (Coach.sat c f) a b d = some (g c a b d)) →
    Computes i o f (fun c src r => NaturalTag c o f src r ∧ LaneWords c src r (g c))

/-- VBFI inserts a field into the old destination; VSEL takes A where the mask C is 1 and B elsewhere, with tag U
when A and B are U with equal bases; VMOV copies A with its tag; VLANE writes the lane index with base 0 and
stride 1 (R179, R182, R183). -/
def Sys2Proof.Claims.VectorMoves : Prop :=
  ∀ i f,
    (view i = some (.vbfi, f) → Computes i .vbfi f (fun c src r => ∀ j, j < c.width →
      r.value.elem j = insertedWord ((c.vr f.d.toNat).elem j) (src.a.value.elem j) (src.b.elem j)))
    ∧ (view i = some (.vsel, f) → Computes i .vsel f (fun c src r =>
      (tagOf r.value = 0 ↔ ∃ x, src.a.value = .u x ∧ src.b = .u x) ∧ ∀ j, j < c.width → r.value.elem j =
        if (c.mr f.c.toNat).getLsbD j then src.a.value.elem j else src.b.elem j))
    ∧ (view i = some (.vmov, f) → Computes i .vmov f (fun c src r =>
      tagOf r.value = tagOf src.a.value ∧ ∀ j, j < c.width → r.value.elem j = src.a.value.elem j))
    ∧ (view i = some (.vlane, f) → Computes i .vlane f (fun _ _ r => r.value = .a 0 1))

/-- VCMP and FCMP write the mask bits of the lanes of act and leave the others (R183, R186). -/
def Sys2Proof.Claims.VectorCompares : Prop :=
  ∀ i f,
    (view i = some (.vcmp, f) → WritesMask i .vcmp f (fun _ a b =>
      comparesW (f.k6.getLsbD 2) (f.k6.toNat / 8) a b))
    ∧ (view i = some (.fcmp, f) → WritesMask i .fcmp f (fun c a b =>
      fcmpCond (f.k6.toNat / 4) (FloatFormat.b32.operand c.sub a.toNat) (FloatFormat.b32.operand c.sub b.toNat)
        = true))

/-- FADD, FSUB, FMUL, FFMA, FMIN, FMAX, FABS, FNEG, FRCP, FRSQ, FSQRT, FROUND and FSCALE in their register forms of
every format deliver each element's exact result by the resolved rounding, saturation and subnormal modes, with
the natural tag U or G (R179, R184, R185). -/
def Sys2Proof.Claims.VectorFloatElements : Prop :=
  ∀ i o f, view i = some (o, f) → floatElement o .b32 1 2 0 0 0 0 ≠ none →
    Computes i o f (fun c src r => NaturalTag c o f src r
      ∧ LaneElements c src r (formatOf f).width (fun x y z =>
          (floatElement o (formatOf f) (c.rnd f) (c.sat f) c.sub x y z).getD 0 % 2 ^ (formatOf f).width))

/-- FEXP2, FLOG2, FSIN, FCOS, FTANH and FSIGM widen each element exactly to binary32, run the fixed sequence, and
deliver its result to the element format by RNE; FCLASS gives the class bits; FDOT2 delivers the exact sum of two
products and a binary32 addend once (R186-R195). -/
def Sys2Proof.Claims.VectorFloatFunctions : Prop :=
  ∀ i o f, view i = some (o, f) →
    (∀ g, specialFunction o = some g → Computes i o f (fun c src r => NaturalTag c o f src r
      ∧ LaneElements c src r (formatOf f).width (fun x _ _ => specialResult f c.sub g x)))
    ∧ (o = .fclass → Computes i o f (fun c src r => NaturalTag c o f src r
      ∧ LaneWords c src r (fun a _ _ => BitVec.ofNat 32 (fclass a.toNat))))
    ∧ (o = .fdot2 → Computes i o f (fun c src r => NaturalTag c o f src r
      ∧ LaneWords c src r (dotResult c f)))

/-- A finite value that a float format holds is delivered as itself, in every rounding and saturation mode, with
subnormals kept (R145, R147). -/
def Obligations.FloatDeliversExact : Prop :=
  ∀ (ty : FloatFormat) (n rnd sat : Nat) (neg : Bool) (m : Nat) (e : Int),
    n < 2 ^ ty.width → ty.decode n = .fin neg m e → 1 ≤ rnd → rnd ≤ 5 → resVal ty rnd sat 0 (.fin neg m e) = n

/-- A vector result written under act to V0-V251 gives each lane of act its new element and each other lane that
has not exited its old one, and with all lanes that have not exited in act the register takes the result's own
tag; a latch destination becomes valid for the coach with two uses after this issue and no origin; 255 discards;
and an entry whose origin is the written register is no longer valid (R66, R68, R70, R71). -/
def Sys2Proof.Claims.VectorWrite : Prop :=
  ∀ (s : State) (c : Coach) (n : Nat) (act : DWord) (r : Result), c.width ≤ 64 →
    (n < 252 → n < c.v.length →
      (∀ j, j < c.width →
        (act.getLsbD j = true → ((s.writeV c n act r).2.vr n).elem j = r.value.elem j)
        ∧ (act.getLsbD j = false → c.ex.getLsbD j = false →
            ((s.writeV c n act r).2.vr n).elem j = (c.vr n).elem j))
      ∧ ((∀ j, j < c.width → c.ex.getLsbD j = false → act.getLsbD j = true) → r.keepExited = false →
          tagOf ((s.writeV c n act r).2.vr n) = tagOf r.value)
      ∧ (¬ (∀ j, j < c.width → c.ex.getLsbD j = false → act.getLsbD j = true) →
          tagOf ((s.writeV c n act r).2.vr n) = 2)
      ∧ (∀ k, k ≠ n → (s.writeV c n act r).2.vr k = c.vr k)
      ∧ ∀ e x, ((s.writeV c n act r).1.core c.core).latch.getD e none = some x → x.owner = c.id →
          c.lor.getD e none ≠ some n)
    ∧ (252 ≤ n → n ≤ 254 → (s.core c.core).latch.length = 3 → c.lor.length = 3 →
      ∃ v, ((s.writeV c n act r).1.core c.core).latch.getD (n - 252) none = some { value := v, owner := c.id, uses := 3 }
        ∧ (s.writeV c n act r).2.lor.getD (n - 252) none = none
        ∧ (s.writeV c n act r).2.v = c.v
        ∧ ∀ j, j < c.width → act.getLsbD j = true → v.elem j = r.value.elem j)
    ∧ (n = 255 → s.writeV c n act r = (s, c))

/-- A V operand of 0-251 delivers its register with its origin; 255 is the constant 0; a latch value delivers the
coach's valid entry, else a copy of the register that it records as origin, with tag G, else 0 with CSTAT.LLOST. HOLD
copies operand A into its entry (R70-R72, R179). -/
def Sys2Proof.Claims.LatchOperands : Prop :=
  ∀ (s : State) (c : Coach) (n : Nat),
    (n < 252 → s.readV c n = { value := c.vr n, origin := some n, lost := false })
    ∧ (n = 255 → s.readV c n = { value := .u 0, origin := none, lost := false })
    ∧ (252 ≤ n → n ≤ 254 →
      (∀ x, (s.core c.core).latch.getD (n - 252) none = some x → x.owner = c.id →
        (s.readV c n).value = x.value ∧ (s.readV c n).origin = c.lor.getD (n - 252) none
          ∧ (s.readV c n).lost = false)
      ∧ ((∀ x, (s.core c.core).latch.getD (n - 252) none = some x → x.owner ≠ c.id) →
        (∀ k, c.lor.getD (n - 252) none = some k →
          (∀ j, j < 64 → (s.readV c n).value.elem j = (c.vr k).elem j) ∧ tagOf (s.readV c n).value = 2
            ∧ (s.readV c n).lost = false)
        ∧ (c.lor.getD (n - 252) none = none →
          (∀ j, (s.readV c n).value.elem j = 0) ∧ (s.readV c n).lost = true)))
    ∧ ∀ (f : Fields) (a : Delivered), f.hold ≠ 0 → (s.core c.core).latch.length = 3 → c.lor.length = 3 →
        (s.holdA c f a).2.lor.getD (f.hold.toNat - 1) none = a.origin
        ∧ ∃ v, ((s.holdA c f a).1.core c.core).latch.getD (f.hold.toNat - 1) none
            = some { value := v, owner := c.id, uses := 3 }
          ∧ ∀ j, j < 64 → v.elem j = a.value.elem j

namespace Sys2Proof.Claims

open Sys2Proof Sys2Proof.Machine

/-- The word `w` is the lane result of a lane-by-lane instruction on the words a, b and d. -/
def LaneLaw (c : Coach) (o : Op) (f : Fields) (a b d w : Word) : Prop :=
  (o = .vmov → w = a)
  ∧ (∀ t y, t < 32 / (32 / 2 ^ (f.k6.toNat % 4)) →
      integerElement o (f.k6.getLsbD 2) (32 / 2 ^ (f.k6.toNat % 4)) (c.sat f) (sub (32 / 2 ^ (f.k6.toNat % 4)) t a)
        (sub (32 / 2 ^ (f.k6.toNat % 4)) t b) (sub (32 / 2 ^ (f.k6.toNat % 4)) t d) = some y →
      sub (32 / 2 ^ (f.k6.toNat % 4)) t w = y)
  ∧ (∀ y, integerWord o (f.k6.getLsbD 2) (c.sat f) a b d = some y → w = y)
  ∧ (∀ t y, t < 32 / (formatOf f).width →
      floatElement o (formatOf f) (c.rnd f) (c.sat f) c.sub (sub (formatOf f).width t a)
        (sub (formatOf f).width t b) (sub (formatOf f).width t d) = some y →
      sub (formatOf f).width t w = y % 2 ^ (formatOf f).width)
  ∧ (∀ g t, specialFunction o = some g → t < 32 / (formatOf f).width →
      sub (formatOf f).width t w = specialResult f c.sub g (sub (formatOf f).width t a))
  ∧ (o = .fclass → w = BitVec.ofNat 32 (fclass a.toNat))
  ∧ (o = .fdot2 → w = dotResult c f a b d)

/-- A word of a crew's scratch, little-endian (R21). -/
def scratchWord (s : State) (k : Crew) (a : Nat) : Word :=
  BitVec.ofNat 32 ((s.storeByte k.core (k.base + a)).toNat + (s.storeByte k.core (k.base + a + 1)).toNat * 2 ^ 8
    + (s.storeByte k.core (k.base + a + 2)).toNat * 2 ^ 16 + (s.storeByte k.core (k.base + a + 3)).toNat * 2 ^ 24)

/-- One iteration of a sweep, with the words at A + 4j, B + 4j and D + 4j of each lane of act: each word at D + 4j of
`v` is the lane result of what `u` holds, and no other byte of the core's local store differs (R132, R196). -/
def SweepStep (c : Coach) (o : Op) (f : Fields) (k : Crew) (cu : Word) (A B D : Int) (u v : State) : Prop :=
  (∀ j, j < c.width → (c.act f).getLsbD j = true →
    LaneLaw c o f (scratchWord u k (A + 4 * (j : Int)).toNat)
      (if aluReadsB o ∧ f.b ≠ 255 then scratchWord u k (B + 4 * (j : Int)).toNat else 0) cu
      (scratchWord v k (D + 4 * (j : Int)).toNat))
  ∧ ∀ a, (∀ j, j < c.width → (c.act f).getLsbD j = true →
      a < k.base + (D + 4 * (j : Int)).toNat ∨ k.base + (D + 4 * (j : Int)).toNat + 4 ≤ a) →
    v.storeByte k.core a = u.storeByte k.core a

/-- Every word that a sweep touches for a lane of act is aligned and lies in the crew's scratch (R359, R386). -/
def sweepInside (o : Op) (f : Fields) (c : Coach) (scratch : Nat) : Prop :=
  ∀ k j, k < sweepIter f.lit → j < c.width → (c.act f).getLsbD j = true → ∀ a ∈ sweepOffsets o f c k,
    4 ∣ a ∧ 0 ≤ a + 4 * (j : Int) ∧ a + 4 * (j : Int) + 4 ≤ scratch

end Sys2Proof.Claims

open Sys2Proof Sys2Proof.Machine Sys2Proof.Claims

/-- Every lane-by-lane instruction in its sweep form completes, its coach's progress counted, when C is uniform over
act, every word that it touches lies in scratch, nothing is poisoned and no matrix instruction of its coach in flight
still reads a byte that it stores to, until when it waits (R263); it stores only inside its crew's scratch. Its
iterations follow one another: each gives the word at D + 4j of each lane of act the lane result of R181, R182 and
R185-R195 of the words at A + 4j and B + 4j as the iteration before left them, and changes no other byte (R132, R196,
R359). That B = 255 is the operand 0 without a range check is the model's reading (log 47). -/
def Obligations.SweepForms : Prop :=
  ∀ i o f, view i = some (o, f) → isSweep o f = true → ∀ s c l k cu, Issues s c l o f → s.crewOf c = some k →
    uniformValue ((s.beginIssue c o).readV (awake c) f.c.toNat).value (c.act f) = .ok cu →
    c.blockTrap o f = none → sweepInside o f c k.scratch → s.poison = [] →
    let A (n : Nat) := sweepOffset f.lit 18 (c.xr f.a.toNat) n
    let B (n : Nat) := sweepOffset f.lit 24 (c.xr f.b.toNat) n
    let D (n : Nat) := sweepOffset f.lit 12 (c.xr f.d.toNat) n
    let stores : Prop := ∃ n j, n < sweepIter f.lit ∧ j < c.width ∧ (c.act f).getLsbD j = true ∧
      ∃ w, c.grid = some w ∧
        let x : Loc := .store k.core (k.base + (D n + 4 * (j : Int)).toNat)
        (w.a.meets x 4 || w.b.meets x 4) = true
    (stores → exec i s = .next (s.setCoach { c with wait := .ownGrid }))
    ∧ (¬ stores → ∃ s1, Ends i s s1 c (onward f (if c.act f = 0 then c else { c with wdc := 0 })) o f
      ∧ (∀ a, Memory.read s1.mem a = Memory.read s.mem a)
      ∧ (∀ core a, (core ≠ k.core ∨ a < k.base ∨ k.base + k.scratch ≤ a) →
          s1.storeByte core a = s.storeByte core a)
      ∧ ∃ u : Nat → State, (∀ core a, (u 0).storeByte core a = s.storeByte core a)
        ∧ (∀ core a, (u (sweepIter f.lit)).storeByte core a = s1.storeByte core a)
        ∧ ∀ n, n < sweepIter f.lit → SweepStep c o f k cu (A n) (B n) (D n) (u n) (u (n + 1)))

namespace Sys2Proof.Claims

open Sys2Proof Sys2Proof.Machine

/-! ### Conversion, codebooks, chains and cross-lane instructions (R197-R226) -/

/-- The instruction completes with a result of which `good` holds, when `pre` holds and its sources can be read. -/
def ComputesIf (i : Instr) (o : Op) (f : Fields) (pre : State → Coach → Prop)
    (good : State → Coach → Sources → Result → Prop) : Prop :=
  ∀ s c l, Issues s c l o f → pre s c → ∀ src s1 c1, Reads s c l o f src s1 c1 →
    ∃ r, good (s.beginIssue c o) c src r ∧ EndsWritten i s s1 c c1 o f src r

/-- The clamp of an integer to a type of CVT: 3 I32, 4 N32. -/
def clampTo (dt : Nat) (z : Int) : Int :=
  if dt = 3 then max (-(2 ^ 31)) (min (2 ^ 31 - 1) z) else max 0 (min (2 ^ 32 - 1) z)

/-- The float format of a type code 0-2 of CVT. -/
def cvtFormat (n : Nat) : FloatFormat := if n = 0 then .b32 else if n = 1 then .b16 else .bf16

/-- CVT from type st to type dt (R200). -/
def converted (st dt rnd sat sb : Nat) (a : Word) : Word :=
  let value : FVal := if st = 3 then .ofInt a.toInt else if st = 4 then .ofInt a.toNat
    else (cvtFormat st).operand sb (a.toNat % 2 ^ (cvtFormat st).width)
  if dt < 3 then BitVec.ofNat 32 (resVal (cvtFormat dt) rnd sat sb value)
  else if st < 3 then
    BitVec.ofInt 32 (if dt = 3 then floatToInt rnd (-(2 ^ 31)) (2 ^ 31 - 1) value
      else floatToInt rnd 0 (2 ^ 32 - 1) value)
  else if sat = 1 then BitVec.ofInt 32 (clampTo dt (if st = 3 then a.toInt else a.toNat))
  else a

/-- The unpacked value of a narrow element (R202). -/
def unpacked (nf n : Nat) : Word :=
  match nf with
  | 0 => BitVec.ofNat 32 (exactB32 (FloatFormat.b16.decode n))
  | 1 => BitVec.ofNat 32 (exactB32 (FloatFormat.bf16.decode n))
  | 2 => BitVec.ofNat 32 (exactB32 (FloatFormat.e4m3.decode n))
  | 3 => BitVec.ofNat 32 (exactB32 (FloatFormat.e5m2.decode n))
  | 4 => BitVec.ofNat 32 (exactB32 (FloatFormat.e2m1.decode n))
  | 5 => BitVec.ofInt 32 (readAs true 8 n)
  | _ => BitVec.ofInt 32 (readAs true 4 n)

/-- Width of a narrow element by its code (R201). -/
def widthOf (nf : Nat) : Nat := if nf ≤ 1 then 16 else if nf = 4 ∨ nf = 6 then 4 else 8

/-- A word with elements `e` of width w as `v` says, and every other element as in `old`. -/
def elementsReplaced (w : Nat) (v : Nat → Option Nat) (old new : Word) : Prop :=
  ∀ e, e < 32 / w → sub w e new = (match v e with | some x => x % 2 ^ w | none => sub w e old)

/-- The running amax of one lane: its magnitude and flag take in every element of A (R204). -/
def laneAmax (ty : FloatFormat) (a d : Word) : Nat × Bool :=
  (List.range (32 / ty.width)).foldl (fun acc t => amaxStep ty acc (sub ty.width t a))
    (d.toNat % 2 ^ 31, decide (2 ^ 31 ≤ d.toNat))

/-- The amax of the lanes of act among `lanes`, as a word. -/
def amaxOver (ls : List (Nat × Bool)) : Word :=
  BitVec.ofNat 32 (ls.foldl (fun m r => max m r.1) 0 + if ls.any (·.2) then 2 ^ 31 else 0)

/-- Lanes of a segment (R216), and the first lane of lane j's segment. -/
def segmentOf (c : Coach) : Nat := if c.cmp16 then 16 else c.width
def firstOf (c : Coach) (j : Nat) : Nat := j / segmentOf c * segmentOf c

/-- The active lanes of lane j's segment, in increasing order (R221). -/
def activeIn (c : Coach) (f : Fields) (j : Nat) : List Nat :=
  (List.range c.width).filter (fun i => (c.act f).getLsbD i && decide (firstOf c i = firstOf c j))

/-- The source lane of a shuffle within its segment, from S, rel(j) and n (R220). -/
def shuffleLane (o : Op) (S r n : Nat) : Nat :=
  match o with
  | .shfl => n % S
  | .shflup => if n < S ∧ n ≤ r then r - n else r
  | .shfldn => if n < S ∧ r + n < S then r + n else r
  | _ => Nat.xor r (n % S)

/-- A coach of one segment; and a width that a coach can have, with its segments (R21, R117, R216). -/
abbrev oneSegment (c : Coach) : Prop := segmentOf c = c.width
def legalWidth (c : Coach) : Prop := (c.width = 16 ∨ c.width = 32 ∨ c.width = 64) ∧ (c.cmp16 = true → c.width = 32)

/-- An operation of REDUCE and SCAN other than an integer add on two words (R224). -/
def combined (op ty rnd sat sb : Nat) (a b : Word) : Word :=
  let x := readAs (decide (ty = 0)) 32 a.toNat
  let y := readAs (decide (ty = 0)) 32 b.toNat
  match op with
  | 0 => BitVec.ofNat 32 (sumRes .b32 rnd sat sb
      [FloatFormat.b32.operand sb a.toNat, FloatFormat.b32.operand sb b.toNat])
  | 1 => if ty = 2 then BitVec.ofNat 32 (fminmax .b32 false sb a.toNat b.toNat) else if y < x then b else a
  | 2 => if ty = 2 then BitVec.ofNat 32 (fminmax .b32 true sb a.toNat b.toNat) else if x < y then b else a
  | 3 => a &&& b
  | 4 => a ||| b
  | _ => a ^^^ b

/-- The identity of an operation (R224). -/
def identityOf (op ty : Nat) : Word :=
  match op with
  | 1 => if ty = 0 then 0x7FFFFFFF#32 else if ty = 1 then 0xFFFFFFFF#32 else 0x7F800000#32
  | 2 => if ty = 0 then 0x80000000#32 else if ty = 1 then 0 else 0xFF800000#32
  | 3 => 0xFFFFFFFF#32
  | _ => 0

/-- The reduction of words in order: an integer add is exact and narrowed once; another operation folds from the
first word, or with `scan` from the identity; no word gives the identity (R224). -/
def reduced (c : Coach) (f : Fields) (scan : Bool) (ws : List Word) : Word :=
  let op := f.k6.toNat / 8
  let ty := f.k6.toNat % 4
  if op = 0 ∧ ty ≤ 1 then
    BitVec.ofNat 32 (delivered (c.sat f) (decide (ty = 0)) 32
      (ws.map (fun w => readAs (decide (ty = 0)) 32 w.toNat)).sum)
  else
    match ws with
    | [] => identityOf op ty
    | w :: t =>
      if scan then (w :: t).foldl (combined op ty (c.rnd f) (c.sat f) c.sub) (identityOf op ty)
      else t.foldl (combined op ty (c.rnd f) (c.sat f) c.sub) w

/-- A crew's codebook and chain slots. -/
def bookOf (s : State) (c : Coach) (n : Nat) : CbSlot := s.cbSlot c n
def chainOf (s : State) (c : Coach) (n : Nat) : ChSlot :=
  match s.crewOf c with
  | some k => k.ch.getD n { loaded := false, ops := [] }
  | none => { loaded := false, ops := [] }

/-- A cross-lane instruction may read its sources: it has no ORD, or every earlier access of its coach has been performed
(R226). -/
def fenceOpen (s : State) (c : Coach) (f : Fields) : Prop := f.x31 = true → s.outstanding c = false

/-- P[A] has one of the listed formats, or is no pointer that satisfies R87 (R354, R358). -/
def formatAmong (l : Launch) (c : Coach) (n : Nat) (fmts : List Nat) : Prop :=
  ptrWellFormed l.scopeMax (c.pr n) = true → ptrFmt (c.pr n) ∈ fmts

end Sys2Proof.Claims

open Sys2Proof Sys2Proof.Machine Sys2Proof.Claims

/-- CVT, UNPK and QTAG convert each lane as R200, R202 and R206 say. -/
def Sys2Proof.Claims.ConvertLanes : Prop :=
  ∀ i f,
    (view i = some (.cvt, f) → Computes i .cvt f (fun c src r => NaturalTag c .cvt f src r
      ∧ LaneWords c src r (fun a _ _ => converted (f.k6.toNat / 8) (f.k6.toNat % 8) (c.rnd f) (c.sat f) c.sub a)))
    ∧ (view i = some (.unpk, f) → Computes i .unpk f (fun c src r => NaturalTag c .unpk f src r
      ∧ LaneWords c src r (fun a _ _ =>
          unpacked (f.k6.toNat % 8) (sub (widthOf (f.k6.toNat % 8)) (f.k6.toNat / 8) a))))
    ∧ (view i = some (.qtag, f) → Computes i .qtag f (fun c src r => NaturalTag c .qtag f src r
      ∧ LaneWords c src r (fun a b _ => BitVec.ofNat 32
          (if f.k6.getLsbD 0 ∧ b = 0 then 0xC0 else calibratedByte (f.k6.toNat / 8 % 3) a.toNat))))

/-- PACK replaces the elements 2h and 2h + 1 of D, or with 16-bit formats both halves, by the converted elements of
A and B; a D that is a lost latch entry sets CSTAT.LLOST where elements of it are kept (R72, R143, R201). -/
def Sys2Proof.Claims.PackLanes : Prop :=
  ∀ i f, view i = some (.pack, f) → ∀ s c l src s1 c1, Issues s c l .pack f → Reads s c l .pack f src s1 c1 →
    let nf := f.k6.toNat % 8
    let h := f.k6.toNat / 8 % 4
    let e := if nf ≤ 1 then 0 else 2 * h
    let old := (s.beginIssue c .pack).readV c f.d.toNat
    ∃ r : Result, (∀ j, j < c.width → elementsReplaced (widthOf nf)
        (fun n => if n = e then some (packConv (narrowFormat nf) (src.a.value.elem j).toNat)
          else if n = e + 1 then some (packConv (narrowFormat nf) (src.b.elem j).toNat) else none)
        (old.value.elem j) (r.value.elem j))
      ∧ EndsWritten i s s1 c (c1.noteLost (decide (2 ≤ nf) && old.lost)) .pack f src r

/-- QAMAX takes the elements of A into the running amax C of each lane, or with GRP = 1 of the lanes of act of its
group, when no running magnitude is a NaN; QEXP gives the scale byte of an amax, when a codebook that it names is
loaded (R204, R205). -/
def Sys2Proof.Claims.AmaxAndScale : Prop :=
  ∀ i f,
    (view i = some (.qamax, f) → ComputesIf i .qamax f (fun _ _ => True) (fun _ c src r =>
      let a (j : Nat) := laneAmax (formatOf f) (src.a.value.elem j) (src.c.elem j)
      let group := if c.cmp16 ∨ c.width = 16 then 16 else 32
      (∀ j, j < c.width → (FloatFormat.b32.decode ((src.c.elem j).toNat % 2 ^ 31)).isNan = false) →
      legalWidth c → ∀ j, j < c.width → (c.act f).getLsbD j = true →
        r.value.elem j = if f.k6.getLsbD 2 then
            amaxOver (((List.range c.width).filter (fun i =>
              (c.act f).getLsbD i && decide (i / group = j / group))).map a)
          else amaxOver [a j]))
    ∧ (view i = some (.qexp, f) → ComputesIf i .qexp f
      (fun s c => f.k6.toNat / 8 = 5 → (bookOf s c (f.k6.toNat % 8)).loaded = true)
      (fun s c src r => NaturalTag c .qexp f src r ∧ LaneWords c src r (fun a _ _ => BitVec.ofNat 32
        (scaleByte (f.k6.toNat / 8 % 3)
          (elemMax (targetFormat (f.k6.toNat / 8)) (bookOf s c (f.k6.toNat % 8)).entries) a.toNat))))

/-- QCVT replaces element EIX of D by the quantised element of A under the scale byte of B, and with EV = 1 counts the
saturation events of the lanes of act in CSTAT.QSAT; DQCVT gives the exact value of an element under its scale, or, the
model's choice for a codebook entry times a scale that binary32 cannot hold, that value rounded (log 88, log 49).
Both complete when EIX fits the family and no lane of act needs a codebook that is not there (R207, R208). -/
def Sys2Proof.Claims.QuantiseLanes : Prop :=
  ∀ i f s c l src s1 c1,
    let w := if f.k6.getLsbD 4 then 4 else 8
    let cb := (bookOf s c f.c.toNat).entries
    (view i = some (.qcvt, f) → Issues s c l .qcvt f → Reads s c l .qcvt f src s1 c1 →
      s.cb4Trap c1 f src.b = none → (w = 8 → f.k6.toNat % 8 < 4) →
      let q (j : Nat) := quantise (tagFormat (f.k6.getLsbD 4) ((src.b.elem j).toNat / 64 % 4)) cb
        ((src.b.elem j).toNat % 64) (src.a.value.elem j).toNat
      let events := ((List.range c.width).filter (fun j => (c.act f).getLsbD j && (q j).2)).length
      ∃ r : Result, (∀ j, j < c.width → elementsReplaced w
          (fun n => if n = f.k6.toNat % 8 then some (q j).1 else none) ((c.vr f.d.toNat).elem j) (r.value.elem j))
        ∧ EndsWritten i s s1 c
            { c1 with cstat := addQsat c1.cstat (if f.k6.getLsbD 5 then events else 0) } .qcvt f src r)
    ∧ (view i = some (.dqcvt, f) → Issues s c l .dqcvt f → Reads s c l .dqcvt f src s1 c1 →
      s.cb4Trap c1 f src.b = none → (w = 8 → f.k6.toNat % 8 < 4) →
      ∃ r : Result, (∀ j, j < c.width → r.value.elem j = BitVec.ofNat 32
          (dequant (f.k6.getLsbD 4) ((src.b.elem j).toNat % 256) cb (sub w (f.k6.toNat % 8) (src.a.value.elem j))))
        ∧ EndsWritten i s s1 c { c1 with cstat := addQsat c1.cstat 0 } .dqcvt f src r)

/-- CBLUT gives the codebook entry that a nibble of A names, and CBENC replaces a nibble of D by the nearest entry's
index; both complete when the slot is loaded (R210-R212). -/
def Sys2Proof.Claims.CodebookLanes : Prop :=
  ∀ i f,
    (view i = some (.cblut, f) → ComputesIf i .cblut f (fun s c => (bookOf s c f.b.toNat).loaded = true)
      (fun s c src r => ∀ j, j < c.width → r.value.elem j = BitVec.ofNat 32 (exactB32
        (FloatFormat.bf16.decode (((bookOf s c f.b.toNat).entries.getD
          (sub 4 (f.k6.toNat % 8) (src.a.value.elem j)) 0).toNat)))))
    ∧ (view i = some (.cbenc, f) → ComputesIf i .cbenc f (fun s c => (bookOf s c f.b.toNat).loaded = true)
      (fun s c src r => ∀ j, j < c.width → elementsReplaced 4 (fun n => if n = f.k6.toNat % 8 then
          some (cbEncode (bookOf s c f.b.toNat).entries (FloatFormat.b32.decode (src.a.value.elem j).toNat))
          else none) ((c.vr f.d.toNat).elem j) (r.value.elem j)))

/-- CBLD fills codebook slot D with 16 two-byte entries and CHLD chain slot D with its micro-ops, read through P[A] at
the byte offset B, of which the literal is zero-extended in CBLD and sign-extended in CHLD; both are skipped with act 0,
and CHLD traps with OPERAND 0x010A on a micro-op that R138 or R139 forbids (R209, R213). -/
def Sys2Proof.Claims.SlotLoads : Prop :=
  ∀ i f s c l,
    (view i = some (.cbld, f) → Issues s c l .cbld f → formatAmong l c f.a.toNat [0, 9] →
      (c.act f = 0 → Ends i s (s.beginIssue c .cbld) c (onward f c) .cbld f)
      ∧ (c.act f ≠ 0 → ∀ bs s1 k,
        readSlot (s.beginIssue c .cbld) l (awake c) f 32 2
          (if f.form = .f96 then f.lit.toNat else (c.xr f.b.toNat).toNat) = .ok (bs, s1) →
        s1.crewOf c = some k →
        let book : CbSlot := { loaded := true, entries := pairsOf bs }
        Ends i s (s1.setCrew { k with cb := k.cb.set f.d.toNat book }) c (onward f c) .cbld f))
    ∧ (view i = some (.chld, f) → Issues s c l .chld f → formatAmong l c f.a.toNat [0, 5, 6] →
      (c.act f = 0 → Ends i s (s.beginIssue c .chld) c (onward f c) .chld f)
      ∧ (c.act f ≠ 0 → ∀ bs s1 k,
        readSlot (s.beginIssue c .chld) l (awake c) f (4 * (f.k6.toNat % 16 + 1)) 4
          (if f.form = .f96 then f.lit.toInt else (c.xr f.b.toNat).toInt) = .ok (bs, s1) →
        s1.crewOf c = some k →
        let chain : ChSlot := { loaded := true, ops := uopWords bs }
        ((∀ u ∈ uopWords bs, uopOk u = true) →
          Ends i s (s1.setCrew { k with ch := k.ch.set f.d.toNat chain }) c (onward f c) .chld f)
        ∧ ∀ n, (uopWords bs).findIdx? (fun u => !uopOk u) = some n →
          Traps i s c .chld f (operandTrap 0x010A (n + ((uopWords bs).getD n 0).toNat * 2 ^ 32))))

/-- CHARG leaves its fields as the prefix of the next instruction; CHRUN runs the loaded chain on every lane, writes
both outputs under act and uses the prefix up (R214, R215, R364). -/
def Sys2Proof.Claims.ChainRuns : Prop :=
  (∀ w0 w1 lit s c l, Issues s c l .charg (.of96 w0 w1 lit) →
    Ends (.charg w0 w1 lit) s (s.beginIssue c .charg) c (onward (.of96 w0 w1 lit)
      { c with charg := some { pc := c.pc, w0 := w0, w1 := w1, lit := lit } }) .charg (.of96 w0 w1 lit))
  ∧ ∀ i f, view i = some (.chrun, f) → ∀ s c l src s1 c1, Issues s c l .chrun f →
      Reads s c l .chrun f src s1 c1 → c.prefixTrap c.charg (c.act f) = none →
      (chainOf (s.beginIssue c .chrun) c (f.k6.toNat % 16)).loaded = true →
      let i3 := s1.readV c1 (chainI3 c.charg)
      let c2 := c1.noteLost i3.lost
      let out (j : Nat) := chainLane c2 (chainOf (s.beginIssue c .chrun) c (f.k6.toNat % 16)).ops
        [src.a.value.elem j, src.b.elem j, src.c.elem j, i3.value.elem j] (c2.chainConstants c.charg)
      ∃ r0 r1 : Result, (∀ j, j < c.width → r0.value.elem j = (out j).1 ∧ r1.value.elem j = (out j).2)
        ∧ let p := s1.holdA c2 f src.a
          let q := p.1.writeV p.2 f.d.toNat (c.act f) r0
          let t := q.1.writeV q.2 (chainO1 c.charg) (c.act f) r1
          Ends i s t.1 c (onward f t.2) .chrun f

/-- SHFL, SHFLUP, SHFLDN and SHFLX give each lane the element of A at the lane of its segment that R220 computes, in
both formats, with tag U when A is U and G otherwise (R220). A cross-lane instruction with ORD waits for every earlier
access of its coach (R226): that it stays at its PC until they have been performed is the model's reading (log 20). -/
def Obligations.Shuffles : Prop :=
  ∀ i o f, view i = some (o, f) →
    (o ∈ [Op.shfl, .shflup, .shfldn, .shflx] →
      ComputesIf i o f (fun s c => fenceOpen s c f ∧ legalWidth c) (fun _ c src r =>
        (tagOf r.value = if tagOf src.a.value = 0 then 0 else 2) ∧ r.keepExited = false ∧ ∀ j, j < c.width →
        r.value.elem j = src.a.value.elem (firstOf c j
          + shuffleLane o (segmentOf c) (j - firstOf c j) (src.b.elem j).toNat)))
    ∧ (0xA0 ≤ o.code → o.code ≤ 0xAA → ∀ s c l, Issues s c l o f → ¬ fenceOpen s c f →
        Waits i s (s.beginIssue c o) c (awake c) .remote o)

/-- VOTE gives a mask of the active lanes with a nonzero element, or per segment 1 or 0 for any, all or equal; ELECT
marks the lowest active lane of each segment; MATCH gives the segment-relative index of the lowest active lane with
an equal element, or their number; with the tags that these rules give, and exited lanes keeping their elements
only under a G result of MATCH (R221-R223). -/
def Obligations.VotesAndMatches : Prop :=
  ∀ i f,
    (view i = some (.vote, f) → f.k6.toNat % 4 = 0 → ∀ s c l src s1 c1, Issues s c l .vote f → fenceOpen s c f → c.width ≤ 64 →
      Reads s c l .vote f src s1 c1 → ∃ m : DWord,
        (∀ j, j < 64 → (m.getLsbD j = true ↔ j < c.width ∧ (c.act f).getLsbD j = true ∧ src.a.value.elem j ≠ 0))
        ∧ let p := s1.holdA (c1.setM f.d.toNat m) f src.a
          Ends i s p.1 c (onward f p.2) .vote f)
    ∧ (view i = some (.vote, f) → f.k6.toNat % 4 ≠ 0 → ComputesIf i .vote f (fun s c => fenceOpen s c f ∧ legalWidth c)
      (fun _ c src r => (tagOf r.value = 0 ↔ oneSegment c) ∧ (tagOf r.value = 2 ↔ ¬ oneSegment c)
        ∧ r.keepExited = false ∧ ∀ j, j < c.width →
        (r.value.elem j = 1 ∨ r.value.elem j = 0) ∧ (r.value.elem j = 1 ↔
          match f.k6.toNat % 4 with
          | 1 => ∃ n ∈ activeIn c f j, src.a.value.elem n ≠ 0
          | 2 => ∀ n ∈ activeIn c f j, src.a.value.elem n ≠ 0
          | _ => ∀ n ∈ activeIn c f j, ∀ k ∈ activeIn c f j, src.a.value.elem n = src.a.value.elem k)))
    ∧ (view i = some (.elect, f) → ∀ s c l, Issues s c l .elect f → fenceOpen s c f → legalWidth c → ∃ m : DWord,
        (∀ j, j < 64 → (m.getLsbD j = true ↔ j < c.width ∧ (activeIn c f j).head? = some j))
        ∧ Ends i s (s.beginIssue c .elect) c (onward f (c.setM f.d.toNat m)) .elect f)
    ∧ (view i = some (.matchL, f) → ComputesIf i .matchL f (fun s c => fenceOpen s c f ∧ legalWidth c) (fun _ c src r =>
        (tagOf r.value = if tagOf src.a.value = 0 ∧ oneSegment c then 0 else 2) ∧ r.keepExited = true
        ∧ ∀ j, j < c.width → (c.act f).getLsbD j = true →
          let same := (activeIn c f j).filter (fun n => src.a.value.elem n = src.a.value.elem j)
          r.value.elem j = if f.k6.getLsbD 0 then BitVec.ofNat 32 same.length
            else BitVec.ofNat 32 (same.headD 0 - firstOf c j)))

/-- REDUCE gives every lane the reduction of its segment's active lanes in order, SCAN that of the active lanes up to
it, or with EXC below it; COMPRESS moves the active elements of A to the front of their segment and leaves the
other elements of D; EXPAND gives the k-th active lane element k of its segment. REDUCE's tag is U when
its coach has one segment; every other tag is G, and lanes in ex keep their elements but under REDUCE (R224, R225). The
model's readings: EXPAND takes elements of A from lanes that are not in act too (log 94), and the other elements of D are
those after a HOLD copy into its entry (log 40). -/
def Obligations.ReduceScanCompress : Prop :=
  ∀ i f,
    (view i = some (.reduce, f) → ComputesIf i .reduce f (fun s c => fenceOpen s c f ∧ legalWidth c) (fun _ c src r =>
      (tagOf r.value = 0 ↔ oneSegment c) ∧ (tagOf r.value = 2 ↔ ¬ oneSegment c) ∧ r.keepExited = false ∧
      ∀ j, j < c.width → r.value.elem j = reduced c f false ((activeIn c f j).map src.a.value.elem)))
    ∧ (view i = some (.scan, f) → ComputesIf i .scan f (fun s c => fenceOpen s c f ∧ legalWidth c) (fun _ c src r =>
      tagOf r.value = 2 ∧ r.keepExited = true ∧ ∀ j, j < c.width → r.value.elem j = reduced c f true (((activeIn c f j).filter (fun n =>
        if f.k6.getLsbD 2 then decide (n < j) else decide (n ≤ j))).map src.a.value.elem)))
    ∧ (view i = some (.expand, f) → ComputesIf i .expand f (fun s c => fenceOpen s c f ∧ legalWidth c) (fun _ c src r =>
      tagOf r.value = 2 ∧ r.keepExited = true ∧ ∀ j, j < c.width → (c.act f).getLsbD j = true → r.value.elem j = src.a.value.elem (firstOf c j
        + ((activeIn c f j).filter (fun n => decide (n < j))).length)))
    ∧ (view i = some (.compress, f) → ∀ s c l src s1 c1, Issues s c l .compress f → fenceOpen s c f → legalWidth c →
      Reads s c l .compress f src s1 c1 → ∃ v : VReg, tagOf v = 2 ∧
        (∀ j, j < c.width → v.elem j = match (activeIn c f j)[j - firstOf c j]? with
          | some n => src.a.value.elem n
          | none => ((s1.holdA c1 f src.a).1.readV (s1.holdA c1 f src.a).2 f.d.toNat).value.elem j)
        ∧ let p := s1.holdA c1 f src.a
          let q := p.1.writeV p.2 f.d.toNat (lowMask c.width) { value := v }
          Ends i s q.1 c (onward f q.2) .compress f)

namespace Sys2Proof.Claims

open Sys2Proof Sys2Proof.Machine

/-! ### Memory instructions (R227-R240) -/

/-- No crew binds a part of memory in its scratch, and no L2 holds a dirty line of another die (R98, R104). -/
def noStash (s : State) : Prop := (∀ k ∈ s.crews, k.lines = [] ∧ ∀ e ∈ k.stash, bindValid e = false) ∧ s.remote = []

/-- Neither the core's data cache nor the L2 of its die holds a copy that memory has outrun, and the cache holds nothing
of host memory. -/
def copiesCurrent (s : State) (k : CoreId) : Prop :=
  (∀ c ∈ (s.core k).copies, c.old = []) ∧ (∀ c ∈ (s.die k.die).copies, c.old = []) ∧ (s.core k).host = []

/-- The number at a location: Lunath, a local store, or what came back from another package or the host. -/
def valueAt (s : State) (c : Coach) (r : Elem × Loc) : Nat :=
  match r.2 with
  | .lunath a => leNat (Memory.readBytes s.mem a r.1.size)
  | .store k a => leNat (s.storeBytes k a r.1.size)
  | _ => leNat (c.answerBytes r.1 r.2)

/-- A byte of memory as addresses of a location name it: Lunath, or a core's local store. -/
inductive Place where
  | lunath
  | store (k : CoreId)

/-- A byte at a place. -/
def byteAt (s : State) (p : Place) (a : Nat) : Byte :=
  match p with
  | .lunath => Memory.read s.mem a
  | .store k => s.storeByte k a

/-- The location lies at the place from `b` on. -/
def locatedAt (l : Loc) (p : Place) (b : Nat) : Prop :=
  match p with
  | .lunath => l = .lunath b
  | .store k => l = .store k b

/-- The instruction's entry is let in by its sender at once, where it makes an access (R59). -/
def letIn (s : State) (c : Coach) (sender : SenderId) (accesses : Prop) (s0 : State) : Prop :=
  (accesses → s.enterQueue sender (c.id, c.pc) = some s0) ∧ (¬ accesses → s0 = s)

/-- The data locations of a store or a load in their order: the first ones, before the scale bytes. -/
def dataOf (rs : List (Elem × Loc)) (n : Nat) : List (Elem × Loc) := rs.take n

/-- The new value of a location under an atomic, from the old one, the operand and the expected value, by FMT and
AOP, 7 for CAS; a float minimum or maximum reads subnormals by SUB `sb` (R185, R239). -/
def atomicValue (fmt aop sb w old v exp : Nat) : Nat :=
  let below (a b : Nat) : Bool := if fmt = 5 ∨ fmt = 7 then decide (readAs true w a < readAs true w b) else decide (a < b)
  match aop with
  | 0 => if fmt = 10 then sumRes .b32 1 2 0 [FloatFormat.b32.decode old, FloatFormat.b32.decode v]
         else (old + v) % 2 ^ w
  | 1 => if fmt = 10 then fminmax .b32 false sb old v else if below v old then v else old
  | 2 => if fmt = 10 then fminmax .b32 true sb old v else if below old v then v else old
  | 3 => Nat.land old v
  | 4 => Nat.lor old v
  | 5 => Nat.xor old v
  | 6 => v
  | _ => if old = exp then v else old

end Sys2Proof.Claims

open Sys2Proof Sys2Proof.Machine Sys2Proof.Claims

/-- LD in every form and format completes: .s and .p give X[D] or P[D] the converted element, the vector forms give
each lane of act its element with tag G and exited lanes keep theirs; a failed OPERAND check or access check is its
trap (R229-R233, R237). -/
def Sys2Proof.Claims.LoadCompletes : Prop :=
  ∀ i f, view i = some (.ld, f) → ∀ s c l, Issues s c l .ld f →
    let form := f.k6.toNat / 8
    let feq := f.k6.toNat / 2 % 4
    (∀ t, firstTrap (s.formChecks l (awake c) .ld f) = some t → Traps i s c .ld f t)
    ∧ (firstTrap (s.formChecks l (awake c) .ld f) = none → c.act f = 0 → form = 0 ∨ form = 4 →
        Ends i s s c (onward f c) .ld f)
    ∧ (firstTrap (s.formChecks l (awake c) .ld f) = none → ∀ s0,
        letIn s c (.coachMemory c.core) (c.act f ≠ 0) s0 →
        (form = 0 ∨ form = 4 → c.act f ≠ 0 → ∀ v rest s1,
          s0.loadElems l (awake c) f { lanes := false } feq false
              ((formPlan c f).elems c false false [s.formLane c f 0]) = .ok (v :: rest, s1) →
          let fmt := ptrFmt (c.pr f.a.toNat)
          let n := if fmtHalf fmt then nibble v (s.formLane c f 0).nib else v
          let d := if form = 4 then c.setP f.d.toNat (BitVec.ofNat 128 v)
            else c.setX f.d.toNat (fmtToDWord fmt (bookOf s0 c (fmt - 0x10)).entries n)
          Ends i s s1 c (onward f (if feq = 0 then d else { d with wdc := 0 })) .ld f)
        ∧ (form ≠ 0 → form ≠ 4 → ∀ vals s1,
          s0.loadLanes l (awake c) f (formPlan c f) feq ((c.actLanes f).map (s0.formLane c f)) = .ok (vals, s1) →
          ∃ v : VReg, tagOf v = 2
            ∧ (∀ j x, j < c.width → vals.find? (fun r => r.1 == j) = some (j, x) → v.elem j = x)
            ∧ let q := s1.writeV (if feq = 0 then awake c else { awake c with wdc := 0 }) f.d.toNat (c.act f)
                { value := v, keepExited := true }
              Ends i s q.1 c (onward f q.2) .ld f))

/-- The elements of a load are the bytes at their locations, little-endian, in their order, and a load changes no
byte of memory: for every access whose checks pass, in a state in which no crew binds memory, no L2 holds a dirty
line of another die, and the copies that the core can meet are current (R4, R90, R104, R229, R304). -/
def Sys2Proof.Claims.LoadReadsMemory : Prop :=
  ∀ (s : State) (l : Launch) (c : Coach) (f : Fields) (m : AccessMode) (feq : Nat) (relaxed : Bool)
    (es : List Elem) (vs : List Nat) (s1 : State), noStash s → copiesCurrent s c.core →
    s.loadElems l c f m feq relaxed es = .ok (vs, s1) →
    (∃ m' rs, s.resolve l c m' es = .ok rs ∧ vs = rs.map (valueAt s c))
    ∧ ∀ p a, byteAt s1 p a = byteAt s p a

/-- ST in every form and format completes when its checks pass, and with act 0 is skipped (R229-R233, R237). -/
def Sys2Proof.Claims.StoreCompletes : Prop :=
  ∀ i f, view i = some (.st, f) → ∀ s c l, Issues s c l .st f →
    let form := f.k6.toNat / 8
    (∀ t, firstTrap (s.formChecks l (awake c) .st f) = some t → Traps i s c .st f t)
    ∧ (firstTrap (s.formChecks l (awake c) .st f) = none → c.act f = 0 → Ends i s s c (onward f c) .st f)
    ∧ (firstTrap (s.formChecks l (awake c) .st f) = none → c.act f ≠ 0 → ∀ s0 s1 c1,
        s.enterQueue (.coachMemory c.core) (c.id, c.pc) = some s0 →
        s0.storeLanes l (awake c) { lanes := decide (form ≠ 0 ∧ form ≠ 4) } (formPlan c f)
            (if form = 0 then 64 else if form = 4 then 128 else 32) (s0.storeItems (awake c) f) = .ok (s1, c1) →
        Ends i s s1 c (onward f c1) .st f)
    ∧ (c.act f ≠ 0 → ∀ s0 t, firstTrap (s.formChecks l (awake c) .st f) = none →
        s.enterQueue (.coachMemory c.core) (c.id, c.pc) = some s0 →
        s0.storeLanes l (awake c) { lanes := decide (form ≠ 0 ∧ form ≠ 4) } (formPlan c f)
            (if form = 0 then 64 else if form = 4 then 128 else 32) (s0.storeItems (awake c) f) = .error (.trap t) →
        Traps i s c .st f t)

/-- What a store leaves of memory, where no crew binds memory and no L2 holds a dirty line of another die: every byte
outside the data locations that its checks resolve is as it was, and a whole-byte element without a scale that no later
element overlaps leaves its converted value, little-endian, at its location (R4, R232, R234). -/
def Sys2Proof.Claims.StoreFrame : Prop :=
  ∀ (s : State) (l : Launch) (c : Coach) (m : AccessMode) (q : LanePlan) (w : Nat)
    (ls : List (LaneAt × Nat)) (s1 : State) (c1 : Coach), noStash s → Memory.wf s.mem = true →
    s.storeLanes l c m q w ls = .ok (s1, c1) →
    ∃ rs, s.resolve l c m (q.elems c true false (ls.map (·.1))) = .ok rs
      ∧ (∀ p a, (∀ r ∈ dataOf rs ls.length, ∀ b, locatedAt r.2 p b → a < b ∨ b + r.1.size ≤ a) →
          byteAt s1 p a = byteAt s p a)
      ∧ ∀ (n : Nat) (r : Elem × Loc) (v : LaneAt × Nat) (p : Place) (b : Nat), (dataOf rs ls.length)[n]? = some r → ls[n]? = some v → locatedAt r.2 p b →
          fmtHalf (q.fmt c) = false → q.scalePtr = none → fmtBlock (q.fmt c) = false →
          (∀ (k : Nat) (r' : Elem × Loc) (b' : Nat), n < k → (dataOf rs ls.length)[k]? = some r' → locatedAt r'.2 p b' →
            b + r.1.size ≤ b' ∨ b' + r'.1.size ≤ b) →
          ∀ j, j < r.1.size → byteAt s1 p (b + j) = BitVec.ofNat 8
            (fmtFromReg (q.fmt c) (bookOf s c (q.fmt c - 0x10)).entries w v.2 / 256 ^ j)

/-- ATOM and CAS complete in every form: the scalar form is skipped with act 0, and otherwise each item in lane order
is performed and D takes the old values, where no matrix instruction of the coach still reads the bytes, and the old
values of items in another package or at the host have come back; before that the requests of these are sent, as far as
there is room, and the coach waits (R59, R239, R240, R263, R315, R320). -/
def Sys2Proof.Claims.AtomicCompletes : Prop :=
  ∀ i o f, view i = some (o, f) → o = .atom ∨ o = .cas → ∀ s c l, Issues s c l o f →
    let fmt := ptrFmt (c.pr f.a.toNat)
    let scalar := f.k6.getLsbD 2
    let aop := if o = .cas then 7 else f.k6.toNat / 8
    let n := fmtBytes (if scalar then 8 else 4) fmt
    let is := s.atomItems (awake c) o f
    c.blockTrap o f = none → (ptrWellFormed l.scopeMax (c.pr f.a.toNat) = true → atomFmtOk scalar aop fmt = true) →
    (c.act f = 0 → scalar = true → Ends i s s c (onward f c) o f)
    ∧ (¬ (c.act f = 0 ∧ scalar = true) → ∀ s0 rs,
        s.resolve l (awake c) { lanes := !scalar, hostBad := (1 ≤ aop && aop ≤ 5) || fmt == 0x0A,
                                answered := !c.answers.isEmpty }
          (is.map (fun i => ⟨i.at_.lane, f.a.toNat, c.pr f.a.toNat, i.at_.off, n, n, 1, false, true, true⟩)) = .ok rs →
        letIn s c (if viaReeve (c.pr f.a.toNat) then .coreReeve c.core else .coachMemory c.core) (is ≠ []) s0 →
        c.gridBlocks (c.pr f.a.toNat) rs = false → s0.releaseBlocked c (c.pr f.a.toNat) = false →
        s0.ownPending c rs = false →
        ((∀ r ∈ rs, r.2.isRemote = true → (c.answer (atomicKey r.1.lane)).isSome = true) →
          let p := s0.runAtomics l (awake c) fmt aop (rs.zip is)
          let q := p.2.atomWrite (awake c) f fmt n p.1
          Ends i s q.1 c (onward f (if ∃ r ∈ rs, r.2.isRemote = false then { q.2 with wdc := 0 } else q.2)) o f)
        ∧ ((∃ r ∈ rs, r.2.isRemote = true ∧ c.answer (atomicKey r.1.lane) = none ∧ s0.hasRoom c r.2.isPeer = true) →
          Waits i s (s0.sendAtomics l (awake c) aop (rs.zip is)) c (awake c) .remote o))

/-- The request of one atomic outside the package: a PCI Express AtomicOp of the element's width, or a packet of its own
in its die's window, each with the operand, the expected value and the item's tag, under which its old value will come
back; no byte of memory changes, where no crew binds memory and no L2 holds a dirty line of another die (R59, R239, R240,
R315, R320). The bytes that a read of host memory still under way for the same core brings are then not kept in its data
cache (R104, R234). -/
def Sys2Proof.Claims.AtomicRequests : Prop :=
  ∀ (s : State) (l : Launch) (c : Coach) (aop : Nat) (r : Elem × Loc) (i : AtomItem),
    let t := s.sendAtomic l c aop r i
    let tag := s.nextTag r.2.isPeer
    let stale (d : Request) : Prop := (∃ a, r.2 = .host a) ∧ d.limit = none ∧ ∃ k, s.coach? d.coach = some k ∧ k.core = c.core
    (∃ q before, t.requests = before ++ [q]
        ∧ (open Classical in before = s.requests.map (fun d => if stale d then { d with keep := false } else d))
        ∧ q.tag = tag ∧ q.coach = c.id ∧ q.kind = 2 ∧ q.key = atomicKey r.1.lane
        ∧ q.count = r.1.size ∧ q.held = false
        ∧ ((∃ a, r.2 = .host a) → q.limit = none) ∧ ((∃ a, r.2 = .peer a) → q.limit = some (s.time.toNat + 2 * s.ftmo)))
    ∧ (∀ a, r.2 = .host a → t.senders = s.senders ∧ t.outbox = s.outbox ++ [.hostAtomic tag a (8 * r.1.size) aop
        (BitVec.ofNat 64 i.operand) (BitVec.ofNat 64 i.expected)])
    ∧ (∀ a, r.2 = .peer a → t.outbox = s.outbox ∧ ∃ p : Packet,
        (t.sender (.dieFabric c.core.die)).packets = (s.sender (.dieFabric c.core.die)).packets ++ [p]
        ∧ (t.sender (.dieFabric c.core.die)).entries = (s.sender (.dieFabric c.core.die)).entries ++ [some (c.id, c.pc)]
        ∧ p.op = 2 ∧ p.dst.toNat = ptrPeer r.1.p % 512 ∧ p.src = s.window.pkgno ∧ p.tag.toNat = tag % 128 ∧ p.sec = l.sec
        ∧ p.line.toNat = r.1.va / 128 % 2 ^ 50 ∧ p.aop = BitVec.ofNat 4 aop ∧ p.aw = (if r.1.size = 8 then 1 else 0)
        ∧ p.data = natLe 8 i.operand ++ natLe 8 i.expected
        ∧ ∀ j, j < 128 → (p.be.getLsbD j = true ↔ r.1.va % 128 ≤ j ∧ j < r.1.va % 128 + r.1.size))
    ∧ (noStash s → ∀ k a, byteAt t k a = byteAt s k a)

/-- One atomic reads the number at its location and leaves the new value of R239 there, and changes no other byte of
memory, where no crew binds memory and no L2 holds a dirty line of another die (R239). -/
def Sys2Proof.Claims.AtomicUpdates : Prop :=
  ∀ (s : State) (l : Launch) (c : Coach) (fmt aop lane v exp : Nat) (r : Elem × Loc) (p : Place) (b : Nat),
    noStash s → Memory.wf s.mem = true → r.1.lane = lane → locatedAt r.2 p b → aop ≤ 7 → 0 < r.1.size →
    v < 256 ^ r.1.size → exp < 256 ^ r.1.size →
    ∀ at_ : LaneAt,
    let x := s.runAtomics l c fmt aop [(r, { at_ := at_, operand := v, expected := exp })]
    x.1 = [(lane, valueAt s c r)]
      ∧ (∀ j, j < r.1.size → byteAt x.2 p (b + j)
          = BitVec.ofNat 8 (atomicValue fmt aop c.sub (8 * r.1.size) (valueAt s c r) v exp / 256 ^ j))
      ∧ ∀ p' a, (∀ b', locatedAt r.2 p' b' → a < b' ∨ b' + r.1.size ≤ a) → byteAt x.2 p' a = byteAt s p' a

/-- One element is checked in the order of the first three steps of R388: a pointer that breaks R87 is POINTER 1; a
store through a read-only class or into space 5 POINTER 2; of space 2 a crew that the gang does not have POINTER 3; an
access of space 1 or 2 outside scratch POINTER 5, bytes outside the pointer's range POINTER 4, and a misaligned address
or offset POINTER 6; with the address of the first failing byte, which of space 2 is the offset in the local store, the
lane and the pointer register in the record. Several elements, and the translation, scope and peer checks that follow,
are not part of the statement (R90, R386, R388). -/
def Obligations.PointerChecks : Prop :=
  ∀ (s : State) (l : Launch) (c : Coach) (m : AccessMode) (e : Elem),
    let p := e.p
    let a := (ptrBase p : Int) + e.off
    let lanes := if m.lanes then bitAt e.lane else 0
    let breach (code : Nat) (addr : Int) : Except Trap (List (Elem × Loc)) := .error
      { cls := 5, code := code, lanes := lanes, addr := BitVec.ofInt 64 addr
        info := BitVec.ofNat 64 (e.ptr + if e.scale then 256 else 0) }
    let shown := if ptrSpace p = 2 then a % 2 ^ 20 else a
    let good := ptrWellFormed l.scopeMax p = true
    let writable := e.write = true → ptrCls p ≠ 1 ∧ ptrSpace p ≠ 5
    let crew := ptrSpace p = 2 → 0 ≤ a ∧ a < 2 ^ 25 ∧ a < 2 ^ 20 * (l.crewCount : Int)
    let scratch := ptrSpace p = 1 ∨ ptrSpace p = 2 → 0 ≤ shown ∧ shown + e.size ≤ l.scratch
    let range := 0 ≤ e.off ∧ e.off + e.size ≤ ptrLen p
    let aligned := (e.align : Int) ∣ a ∧ (e.offMul : Int) ∣ e.off
    (¬ good → s.resolve l c m [e] = breach 1 shown)
    ∧ (good → ¬ writable → s.resolve l c m [e] = breach 2 shown)
    ∧ (good → writable → ¬ crew → s.resolve l c m [e] = breach 3 shown)
    ∧ (good → writable → crew → ¬ scratch →
        s.resolve l c m [e] = breach 5 (if 0 ≤ shown ∧ shown < l.scratch then l.scratch else shown))
    ∧ (good → writable → crew → scratch → ¬ range →
        s.resolve l c m [e] = breach 4 (if 0 ≤ e.off ∧ e.off < ptrLen p then shown + (ptrLen p - e.off) else shown))
    ∧ (good → writable → crew → scratch → range → ¬ aligned → s.resolve l c m [e] = breach 6 shown)

namespace Sys2Proof.Claims

open Sys2Proof Sys2Proof.Machine

/-! ### Pointers, streams, prefetch and the stash (R86-R88, R98-R100, R241-R248) -/

/-- A POINTER trap that names no lane and no address (R386). -/
def pointerBreach (code info : Nat) : Trap := { cls := 5, code := code, info := BitVec.ofNat 64 info }

/-- A pointer's fields other than BASE, LEN and FMT. -/
def otherFields (p : BitVec 128) : Nat × Nat × Nat × Nat × Nat × Nat × Nat × Nat :=
  (ptrPeer p, ptrSpace p, ptrCls p, ptrScope p, ptrWide p, ptrOrd p, ptrCpol p, bits p 127 104)

/-- The value of a field that PGET reads (R242). -/
def fieldOfPointer (n : Nat) (p : BitVec 128) : DWord :=
  if n = 0 then BitVec.ofNat 64 (ptrBase p) else if n = 1 then BitVec.ofNat 64 (ptrLen p)
  else if n = 2 then BitVec.ofNat 64 (ptrAttr p) else if n = 3 then p.extractLsb' 0 64 else p.extractLsb' 64 64

/-- Element index e of a stream at its offset: Σ of index times stride over its five dimensions (R73, R74). -/
def streamOffset (v : BitVec 384) (e : Nat) : Int :=
  let E := strExt v
  let i0 := e % E 0
  let i1 := e / E 0 % E 1
  let i2 := e / (E 0 * E 1) % E 2
  let i3 := e / (E 0 * E 1 * E 2) % E 3
  let i4 := e / (E 0 * E 1 * E 2 * E 3)
  (i0 : Int) * strStride v 0 + (i1 : Int) * strStride v 1 + (i2 : Int) * strStride v 2 + (i3 : Int) * strStride v 3
    + (i4 : Int) * strStride v 4

end Sys2Proof.Claims

open Sys2Proof Sys2Proof.Machine Sys2Proof.Claims

/-- PMAKE makes the pointer with the base, attributes and length of its operands when they are legal, and otherwise
traps with POINTER 0x000A naming D (R87, R241). -/
def Sys2Proof.Claims.PointerMake : Prop :=
  ∀ i f, view i = some (.pmake, f) → ∀ s c l, Issues s c l .pmake f → c.act f ≠ 0 →
    let a := (c.xr f.a.toNat).toNat
    let n := (c.xr f.c.toNat).toNat
    let attr : Nat := if f.form = .f96 then f.lit.toNat else (c.xr f.b.toNat).toNat
    let q := ptrMake a attr n
    let legal := a < 2 ^ 57 ∧ n < 2 ^ 40 ∧ attr < 2 ^ 32 ∧ attr / 128 % 2 = 0 ∧ ptrWellFormed l.scopeMax q = true
    (legal → Ends i s s c (onward f (c.setP f.d.toNat q)) .pmake f
      ∧ ptrBase q = a ∧ ptrLen q = n ∧ ptrAttr q = attr)
    ∧ (¬ legal → Traps i s c .pmake f (pointerBreach 0x000A f.d.toNat))

/-- PDERIV narrows a pointer to LEN bytes from an offset, and with CF gives it another FMT; PADD moves its base up
and shortens it; both keep every other field, and trap with POINTER 0x000B naming A when the range is left. PGET
reads a field (R242). -/
def Sys2Proof.Claims.PointerDerive : Prop :=
  ∀ i f s c l, let p := c.pr f.a.toNat
    (view i = some (.pderiv, f) → Issues s c l .pderiv f → c.act f ≠ 0 →
      let off := (c.xr f.b.toNat).toNat
      let len := (c.xr f.c.toNat).toNat
      (off + len ≤ ptrLen p → ∃ q : BitVec 128, Ends i s s c (onward f (c.setP f.d.toNat q)) .pderiv f
        ∧ ptrBase q = (ptrBase p + off) % 2 ^ 57 ∧ ptrLen q = len ∧ otherFields q = otherFields p
        ∧ ptrFmt q = if f.k6.getLsbD 5 then f.k6.toNat % 32 else ptrFmt p)
      ∧ (ptrLen p < off + len → Traps i s c .pderiv f (pointerBreach 0x000B f.a.toNat)))
    ∧ (view i = some (.padd, f) → Issues s c l .padd f → c.act f ≠ 0 →
      let off := (c.bValue f).toInt
      (0 ≤ off → off ≤ ptrLen p → ∃ q : BitVec 128, Ends i s s c (onward f (c.setP f.d.toNat q)) .padd f
        ∧ ptrBase q = (ptrBase p + off.toNat) % 2 ^ 57 ∧ (ptrLen q : Int) = ptrLen p - off
        ∧ otherFields q = otherFields p ∧ ptrFmt q = ptrFmt p)
      ∧ (off < 0 ∨ (ptrLen p : Int) < off → Traps i s c .padd f (pointerBreach 0x000B f.a.toNat)))
    ∧ (view i = some (.pget, f) → WritesX i .pget f (fun c => fieldOfPointer (f.k6.toNat % 8) (c.pr f.a.toNat)))

/-- PSCOPE sets SCOPE and CLASS of a pointer, or keeps them, and traps with POINTER 0x000C when the new scope is
wider than WIDE; with a change it completes once nothing of the coach is outstanding, after the write-backs and
drops of R243, and changes no byte that no crew binds and no other L2 holds dirty (R243). -/
def Sys2Proof.Claims.PointerScope : Prop :=
  ∀ w0 s c l, let f := Fields.of32 w0
    Issues s c l .pscope f → c.act f ≠ 0 →
    let p := c.pr w0.a.toNat
    let scope := if w0.k6.toNat / 8 = 7 then ptrScope p else w0.k6.toNat / 8
    let cls := if w0.k6.toNat / 2 % 4 = 3 then ptrCls p else w0.k6.toNat / 2 % 4
    let q := setField (setField p 109 3 scope) 107 2 cls
    (w0.k6.toNat / 8 ≠ 7 → ptrWide p < w0.k6.toNat / 8 → Traps (.pscope w0) s c .pscope f (pointerBreach 0x000C w0.a.toNat))
    ∧ (scope ≤ ptrWide p → ptrScope q = scope ∧ ptrCls q = cls ∧ ptrBase q = ptrBase p ∧ ptrLen q = ptrLen p
        ∧ ptrFmt q = ptrFmt p ∧ ptrSpace q = ptrSpace p
        ∧ (q = p → Ends (.pscope w0) s s c (onward f (c.setP w0.d.toNat q)) .pscope f)
        ∧ (q ≠ p → s.outstanding c = false → s.pscopeTrap c f p = none → ∃ s1,
            Ends (.pscope w0) s s1 c (onward f (c.setP w0.d.toNat q)) .pscope f
            ∧ (noStash s → ∀ k a, byteAt s1 k a = byteAt s k a)))

/-- SDEF defines a stream from five X registers and its pointers, and traps with POINTER 0x000D and the first reason
that holds; SPOS sets the position, moves it within 0 and the count, or reads it (R73, R244, R245). -/
def Obligations.Streams : Prop :=
  ∀ i f s c l,
    (view i = some (.sdef, f) → Issues s c l .sdef f → c.act f ≠ 0 →
      let w (n : Nat) : Nat := if f.a.toNat = 255 then 0 else (c.xr (f.a.toNat + n)).toNat
      let v := BitVec.ofNat 384 (f.b.toNat % 32 + (if f.c.toNat = 255 then 0 else 32 + 64 * f.c.toNat)
        + w 0 * 2 ^ 64 + w 1 * 2 ^ 128 + w 2 * 2 ^ 192 + w 3 * 2 ^ 256 + w 4 * 2 ^ 320)
      let block := fmtBlock (ptrFmt (c.pr f.b.toNat))
      let bad (r : Nat) := pointerBreach 0x000D ((if r = 4 then f.c.toNat else f.b.toNat) + r * 2 ^ 12)
      (strCount v = 0 ∨ 2 ^ 48 ≤ strCount v → Traps i s c .sdef f (bad 1))
      ∧ (0 < strCount v → strCount v < 2 ^ 48 → strSen v ≠ block → Traps i s c .sdef f (bad 2))
      ∧ (0 < strCount v → strCount v < 2 ^ 48 → strSen v = block → block = false →
          Ends i s s c (onward f (c.setS f.d.toNat v)) .sdef f)
      ∧ (0 < strCount v → strCount v < 2 ^ 48 → strSen v = block → block = true →
          (strExt v 0 % 32 ≠ 0 → Traps i s c .sdef f (bad 3))
          ∧ (strExt v 0 % 32 = 0 → ptrLen (c.pr f.c.toNat) < (strCount v + 31) / 32 → Traps i s c .sdef f (bad 4))
          ∧ (strExt v 0 % 32 = 0 → (strCount v + 31) / 32 ≤ ptrLen (c.pr f.c.toNat) →
              Ends i s s c (onward f (c.setS f.d.toNat v)) .sdef f)))
    ∧ (view i = some (.spos, f) → Issues s c l .spos f → c.act f ≠ 0 →
      let v := c.sr f.d.toNat
      let set : Nat := if f.form = .f96 then f.lit.toNat else (c.xr f.b.toNat).toNat
      (f.k6.toNat % 4 = 0 →
        Ends i s s c (onward f (c.setS f.d.toNat (strAt v (min set (strCount v))))) .spos f)
      ∧ (f.k6.toNat % 4 = 1 → Ends i s s c (onward f (c.setS f.d.toNat
          (strAt v (max 0 (min (strCount v : Int) ((strPos v : Int) + (c.bValue f).toInt))).toNat))) .spos f)
      ∧ (f.k6.toNat % 4 = 2 →
        Ends i s s c (onward f (c.setX f.d.toNat (BitVec.ofNat 64 (strPos (c.sr f.a.toNat))))) .spos f))

/-- A stream delivers to lane j the element at its position plus j, at the sum of index times stride, or 0 beyond its
count, and moves on by W elements, at most to its count (R73-R75). -/
def Obligations.StreamReads : Prop :=
  ∀ (s : State) (l : Launch) (c : Coach) (f : Fields) (n : Nat) (v : VReg) (s1 : State) (c1 : Coach),
    s.readStream l c f n = .ok (v, s1, c1) →
    let r := c.sr n
    c1 = c.setS n (strAt r (min (strPos r + c.width) (strCount r))) ∧ tagOf v = 2
    ∧ (∀ j, j < c.width → strCount r ≤ strPos r + j → v.elem j = 0)
    ∧ (∀ e, 0 < strExt r 0 → 0 < strExt r 1 → 0 < strExt r 2 → 0 < strExt r 3 → e < strCount r →
        strOffset r e = streamOffset r e)
    ∧ ∃ vals, s.loadLanes l c f (c.strPlan r) 0 (strLanes r c) = .ok (vals, s1)
      ∧ ∀ j x, j < c.width → vals.find? (fun q => q.1 == j) = some (j, x) → v.elem j = x

/-- PREF completes whatever its operands are: it never traps, gives no result, and changes no byte that no crew
binds and no other L2 holds dirty (R246). -/
def Sys2Proof.Claims.PrefetchCompletes : Prop :=
  ∀ i f, view i = some (.pref, f) → ∀ s c l, Issues s c l .pref f →
    ∃ s1, Ends i s s1 c (onward f c) .pref f ∧ (noStash s → ∀ k a, byteAt s1 k a = byteAt s k a)

/-- STBIND binds the range of a pointer to scratch in the crew's lowest free entry and gives its number, or takes the
trap of the first reason of R386; STUNB frees an entry and drops its lines, or traps with POINTER 0x000F (R98,
R247, R248). -/
def Sys2Proof.Claims.StashBindings : Prop :=
  ∀ s c l k, s.crewOf c = some k →
    (∀ w0 w1, let f := Fields.of64 w0 w1
      Issues s c l .stbind f → c.act f ≠ 0 →
      let p := c.pr w0.a.toNat
      let off := (c.xr w1.b.toNat).toNat % 2 ^ 20
      let n := k.stash.findIdx (fun e => !bindValid e)
      (∀ t, s.bindTrap l c k w0.a.toNat p off = some t → Traps (.stbind w0 w1) s c .stbind f t)
      ∧ (s.bindTrap l c k w0.a.toNat p off = none → ∃ e : BitVec 128,
          bindValid e = true ∧ bindVa e = ptrBase p ∧ bindOff e = off ∧ bindLen e = ptrLen p
          ∧ (∀ a, bindCovers e a = true ↔ ptrBase p ≤ a ∧ a < ptrBase p + ptrLen p)
          ∧ Ends (.stbind w0 w1) s (((s.flushRemote (l.party (some c.core)) c.core.die (ptrBase p) (ptrLen p)).dropClusterCopies
              (l.party (some c.core)) c.core (ptrBase p) (ptrLen p)).setCrew { k with stash := k.stash.set n e }) c (onward f (c.setX w0.d.toNat (BitVec.ofNat 64 n))) .stbind f))
    ∧ ∀ w0, let f := Fields.of32 w0
      Issues s c l .stunb f → c.act f ≠ 0 →
      let n := (c.xr w0.a.toNat).toNat
      (16 ≤ n ∨ bindValid (k.stash.getD n 0) = false → Traps (.stunb w0) s c .stunb f (pointerBreach 0x000F 0xFF))
      ∧ (n < 16 → bindValid (k.stash.getD n 0) = true →
          s.writeBackTrap k (k.lines.filter (fun m => m.entry == n)) = none →
          Ends (.stunb w0) s (s.unbind k n) c (onward f c) .stunb f)

/-- With act 0 the pointer, stream, prefetch and stash instructions are skipped: only the PC moves (R157, R229, R246). -/
def Sys2Proof.Claims.SkippedWithoutLanes : Prop :=
  ∀ i o f, view i = some (o, f) → o ∈ [Op.pmake, .pderiv, .padd, .pscope, .sdef, .spos, .pref, .stbind, .stunb] →
    ∀ s c l, Issues s c l o f → c.act f = 0 → Ends i s s c (onward f c) o f

namespace Sys2Proof.Claims

open Sys2Proof Sys2Proof.Machine

/-! ### Matrix instructions (R79, R80, R249-R265) -/

/-- Every lane that has not exited is in act (R360). -/
def fullAct (c : Coach) (f : Fields) : Prop := c.act f = c.notExited

/-- OPERAND 0x0102 of a matrix or dray instruction under a partial act (R360). -/
def partialBreach (c : Coach) (f : Fields) : Trap :=
  { operandTrap 0x0102 0 with lanes := c.live &&& ~~~c.act f }

/-- The coach `d` is `c` with another tile, given by `g`, in its 32 block registers (R80, R256). -/
def tileReplaced (c d : Coach) (g : Nat → Nat → Word) : Prop :=
  (∀ i j, i < 32 → j < c.width → d.acc i j = g i j)
    ∧ (∀ n, n < c.vb ∨ c.vb + 32 ≤ n → d.vr n = c.vr n) ∧ d = { c with v := d.v }

/-- Element (i, j) of the tile scaled by the row factor and the column factor that MXSCL names (R264). -/
def scaledElement (f : Fields) (c : Coach) (i j : Nat) : Word :=
  let value (w : Word) : FVal := FloatFormat.b32.operand c.sub w.toNat
  let row : FVal := if f.k6.getLsbD 0 then value ((c.vr (f.a.toNat + i / c.width)).elem (i % c.width)) else .fin false 1 0
  let col : FVal := if f.k6.getLsbD 1 then value ((c.vr f.b.toNat).elem j) else .fin false 1 0
  BitVec.ofNat 32 (resVal .b32 (c.rnd f) (c.sat f) c.sub (((value (c.acc i j)).mul row).mul col))

/-- The largest magnitude of accumulator elements: of an I32 tile as an integer, of an F32 tile in QAMAX form. -/
def largest (isInt : Bool) (ws : List Word) : Word :=
  if isInt then BitVec.ofNat 32 ((ws.map (fun w => w.toInt.natAbs)).foldl max 0)
  else
    let r := ws.foldl (fun acc w => amaxStep .b32 acc w.toNat) (0, false)
    BitVec.ofNat 32 (r.1 + if r.2 then 2 ^ 31 else 0)

/-- The stream `n` may be an operand of a product: its codebook is loaded, and a block format has a scale pointer of a FMT
that R233 allows (R259, R358, R363). -/
def operandStream (s : State) (c : Coach) (n : Nat) : Prop :=
  let v := c.sr n
  let m := ptrFmt (c.pr (strPix v))
  (fmtCb4 m = true → (s.cbSlot c (m - 0x10)).loaded = true)
    ∧ (fmtBlock m = true → strSen v = true ∧ scaleFmtOk m (ptrFmt (c.pr (strSpix v))) = true)

/-- The shapes of R258: A is ext0 of K by 32 rows (MXMUL), B is K by W, distinct streams stand at the same K, a multiple
of 16 element groups of `g`, in a panel that is complete. -/
def productShape (c : Coach) (o : Op) (f : Fields) (g : Nat) : Prop :=
  let a := c.sr f.a.toNat
  let b := c.sr f.b.toNat
  strExt a 0 = strExt b 0 ∧ strExt b 1 = c.width ∧ (o = .mxmul → strExt a 1 = 32) ∧ f.a ≠ f.b
    ∧ strPos a % panelSize a % strExt a 1 = 0 ∧ strPos b % panelSize b % strExt b 1 = 0
    ∧ panelDone a = panelDone b ∧ 16 * g ∣ panelDone a ∧ 0 < panelSize a ∧ 0 < panelSize b
    ∧ (panelAt a + 1) * panelSize a ≤ strCount a ∧ (panelAt b + 1) * panelSize b ≤ strCount b

/-- The gather of MXMULG: its index row lies outside the block, each index is below EXT1 of Sa, and the elements of Sa
lie in local stores (R261). -/
def gatherLegal (s : State) (l : Launch) (c : Coach) (o : Op) (f : Fields) : Prop :=
  (∀ n ∈ c.rowRegs f.c.toNat, c.inBlock n = false)
    ∧ (∀ i, i < 32 → (c.rowElem f.c.toNat i).toNat < strExt (c.sr f.a.toNat) 1)
    ∧ ∀ e ∈ c.productElems o f, e.ptr = strPix (c.sr f.a.toNat) → e.scale = false →
        ∃ k x, s.elemLoc (l.party (some c.core)) c e = .ok (.store k x)

/-- What R250 and R258-R261 require of MXMUL and MXMULG. -/
def productLegal (s : State) (l : Launch) (c : Coach) (o : Op) (f : Fields) : Prop :=
  let ma := ptrFmt (c.pr (strPix (c.sr f.a.toNat)))
  let mb := ptrFmt (c.pr (strPix (c.sr f.b.toNat)))
  fullAct c f ∧ c.mxm = true ∧ f.d.toNat = c.vb
    ∧ (∃ g, fmtGroup ma = some g ∧ fmtGroup mb = some g ∧ productShape c o f g)
    ∧ (bit c.mxs 1 = true → intPair ma mb = true)
    ∧ operandStream s c f.a.toNat ∧ operandStream s c f.b.toNat ∧ (o = .mxmulg → gatherLegal s l c o f)

/-- Every element of both panels, and its scale byte, passes its access checks, with its data at hand where it lies
outside the package, and none of them may lie where a request of the coach to its own package goes; and the tags of the
blocks' scale bytes fit their scale pointers (R233, R234, R389). -/
def panelsReadable (s : State) (l : Launch) (c : Coach) (o : Op) (f : Fields) : Prop :=
  let rs := places s l c (c.productElems o f)
  let q := c.panelsOf o f rs
  let k0 := panelDone (c.sr f.a.toNat)
  let cnt := strExt (c.sr f.a.toNat) 0 - k0
  (∀ e ∈ c.productElems o f, Passes s l c e) ∧ s.lacksAnswer c rs = false ∧ s.ownPending c rs = false
    ∧ s.tagTrap l (s.withCopies c rs) f.a.toNat q.1 k0 cnt = none
    ∧ s.tagTrap l (s.withCopies c rs) f.b.toNat q.2 k0 cnt = none

/-- The reads of one K-group of a product in flight. -/
def groupReads (c : Coach) (w : GridWork) : List (Elem × Loc) :=
  let n := min (c.group w.f) (w.kEnd - w.k)
  c.panelReads w.f.a.toNat w.a w.k0 (w.kEnd - w.k0) w.k n ++ c.panelReads w.f.b.toNat w.b w.k0 (w.kEnd - w.k0) w.k n

/-- The die's window and the tags have room for one packet for each line of other packages (R59, R315). -/
def roomForAll (s : State) (c : Coach) (rs : List (Elem × Loc)) : Prop :=
  let n := ((rs.filter (fun r => r.2.isPeer)).map (fun r => readKey r.1 r.2)).eraseDups.length
  (s.sender (.dieFabric c.core.die)).entries.length + n ≤ Config.windowSize ∧ n ≤ s.tagsLeft true

/-- What R265 requires of MXOUT: TTAG 0 without AUTO; with it at least 32 lanes, a base and a stride of whole blocks,
and a block format; a scale pointer exactly with a block format, of a FMT that its tags allow; and the codebooks loaded,
that of an AUTO form not poisoned. A plain CB4 format of P[A] is among those that it may have (log 48). -/
def outputLegal (s : State) (c : Coach) (f : Fields) : Prop :=
  let fmt := ptrFmt (c.pr f.a.toNat)
  fullAct c f ∧ c.mxm = true ∧ f.d.toNat = c.vb ∧ fmtOkV fmt = true
    ∧ (outAuto f = false → outTag f = 0)
    ∧ (outAuto f = true → 32 ≤ c.width ∧ 32 ∣ outBase c f ∧ 32 ∣ outStride c f ∧ fmtBlock fmt = true)
    ∧ (f.c.toNat ≠ 255 ↔ fmtBlock fmt = true)
    ∧ (fmtBlock fmt = true → outScaleOk c f (ptrFmt (c.pr f.c.toNat)) = true)
    ∧ (fmtCb4 fmt = true → (s.cbSlot c (fmt - 0x10)).loaded = true)
    ∧ (outAuto f = true → fmt = 0x19 → outTag f = 2 →
        (s.cbSlot c (ptrFmt (c.pr f.c.toNat) - 0x10)).loaded = true
          ∧ s.regPoisoned c.id (6, ptrFmt (c.pr f.c.toNat) - 0x10) = false)

end Sys2Proof.Claims

open Sys2Proof Sys2Proof.Machine Sys2Proof.Claims

/-- MMODE.ON sets MXM, ACCT and VB of MXS and gives the 32 block registers tag G with their values, when matrix mode
is off and the base is legal; otherwise it is OPERAND 0x0104, or 0x0102 under a partial act. MMODE.OFF clears MXS
(R79, R80, R251, R252, R360). -/
def Sys2Proof.Claims.MatrixMode : Prop :=
  ∀ w0 s c l, let f := Fields.of32 w0
    Issues s c l .mmode f →
    let b := w0.d.toNat
    let legal := 32 ∣ b ∧ b ≤ 192 ∧ b + 31 < l.nV c.image
    (w0.k6.getLsbD 0 = false → Ends (.mmode w0) s (s.beginIssue c .mmode) c (onward f { c with mxs := 0 }) .mmode f)
    ∧ (w0.k6.getLsbD 0 = true →
      (¬ fullAct c f → Traps (.mmode w0) s c .mmode f (partialBreach c f))
      ∧ (fullAct c f → bit c.mxs 0 = true ∨ ¬ legal → Traps (.mmode w0) s c .mmode f (operandTrap 0x0104 b))
      ∧ (fullAct c f → bit c.mxs 0 = false → legal → b + 32 ≤ c.v.length → ∃ s1 d,
          Ends (.mmode w0) s s1 c (onward f d) .mmode f
          ∧ d.mxs = BitVec.ofNat 64 (1 + (if w0.k6.getLsbD 1 then 2 else 0) + 4 * b)
          ∧ (∀ n, n < 32 → tagOf (d.vr (b + n)) = 2)
          ∧ (∀ n j, n < 32 → j < c.width → (d.vr (b + n)).elem j = (c.vr (b + n)).elem j)
          ∧ (∀ n, n < b ∨ b + 32 ≤ n → d.vr n = c.vr n) ∧ d = { c with mxs := d.mxs, v := d.v }
          ∧ (∀ k a, byteAt s1 k a = byteAt s k a)
          ∧ ∀ e x, (s1.core c.core).latch.getD e none = some x → x.owner = c.id →
              ∀ n, n < 32 → c.lor.getD e none ≠ some (b + n)))

/-- In matrix mode and with its block named, MXZERO clears the tile, MXSCL scales an F32 tile by its row and column
factors with one rounding, and MXAMAX gives the largest magnitude of the tile or of each column; a wrong block or
mode is OPERAND 0x0104, a partial act 0x0102 (R250, R264, R360). That MXSCL of an S32 tile is OPERAND 0x0106 with an INFO
of 0 is the model's reading (log 42). -/
def Sys2Proof.Claims.MatrixTiles : Prop :=
  ∀ s c l, c.vb + 32 ≤ c.v.length →
    (∀ w0, let f := Fields.of32 w0
      Issues s c l .mxzero f →
      (¬ fullAct c f → Traps (.mxzero w0) s c .mxzero f (partialBreach c f))
      ∧ (fullAct c f → c.mxm = false ∨ w0.d.toNat ≠ c.vb → Traps (.mxzero w0) s c .mxzero f (operandTrap 0x0104 w0.d.toNat))
      ∧ (fullAct c f → c.mxm = true → w0.d.toNat = c.vb → ∃ d, tileReplaced c d (fun _ _ => 0)
          ∧ Ends (.mxzero w0) s (s.beginIssue c .mxzero) c (onward f d) .mxzero f))
    ∧ (∀ w0 w1, let f := Fields.of64 w0 w1
      Issues s c l .mxscl f → fullAct c f → c.mxm = true → w0.d.toNat = c.vb →
      (bit c.mxs 1 = false → (∀ n ∈ sclRegs f c, c.inBlock n = false) → ∃ d, tileReplaced c d (scaledElement f c)
        ∧ Ends (.mxscl w0 w1) s (s.beginIssue c .mxscl) c (onward f d) .mxscl f)
      ∧ (bit c.mxs 1 = true → (∀ n ∈ sclRegs f c, c.inBlock n = false) →
          Traps (.mxscl w0 w1) s c .mxscl f (operandTrap 0x0106 0)))
    ∧ ∀ i f, view i = some (.mxamax, f) → Issues s c l .mxamax f → fullAct c f → c.mxm = true → f.a.toNat = c.vb →
      c.inBlock f.d.toNat = false → ∃ r : Result,
        (∀ j, j < c.width → r.value.elem j = if f.k6.getLsbD 0 then
            largest (bit c.mxs 1) ((List.range 32).map (fun n => c.acc n j))
          else largest (bit c.mxs 1) ((List.range c.width).flatMap (fun k => (List.range 32).map (fun n => c.acc n k))))
        ∧ let q := (s.beginIssue c .mxamax).writeV c f.d.toNat (c.act f) r
          Ends i s q.1 c (onward f q.2) .mxamax f

/-- MXMUL and MXMULG complete their issue when R258-R261 hold, every element of their panels can be read (R389), the
coach has no access outstanding (R263) and the grid is free (R255): the grid holds the product, with its place, MODE,
both panels and what its coach shows in a record, at the K position of its streams, and the coach goes on. They wait for
earlier accesses and for the grid; each failed check is their trap. -/
def Sys2Proof.Claims.MatrixProductStarts : Prop :=
  ∀ i o f, view i = some (o, f) → o = .mxmul ∨ o = .mxmulg → ∀ s c l, Issues s c l o f →
    let s0 := s.beginIssue c o
    let k0 := panelDone (c.sr f.a.toNat)
    (∀ t, firstTrap (s0.mxChecks l (awake c) o f) = some t → Traps i s c o f t)
    ∧ (productLegal s0 l c o f →
      (c.answers = [] → s.outstanding c = true → Waits i s s0 c c .remote o)
      ∧ (c.answers ≠ [] ∨ s.outstanding c = false → panelsReadable s0 l c o f →
        (s.engineBusy c true = true → Waits i s s0 c c (.engine true) o)
        ∧ (s.engineBusy c true = false →
          let q := c.panelsOf o f (places s0 l c (c.productElems o f))
          let kept := (s0.withCopies c (places s0 l c (c.productElems o f))).answers
          let w : GridWork :=
            { o := o, f := f, pc := c.pc, mode := c.mode, a := q.1, b := q.2
              answers := kept.map (fun a => { a with keep := false })
              cm := c.cm, rpc := c.rpc, depth := c.depth, lpost := c.lpost, k0 := k0, k := k0
              kEnd := strExt (c.sr f.a.toNat) 0, next := s.cycles, moved := false }
          Ends i s s0 c (onward f { c with grid := some w }) o f)))

/-- MATRIX_KGROUP completes for a product in flight of a coach on its cores, where its reads meet no poison and no lost
die: one K-group of both panels is added to every element of the tile by the modes of the issue (R77, R154, R155, R260).
After the last group both streams stand behind their panels and the grid is free; before it, K moves on by one element
group; at a checkpoint a coach that stops for pre-emption and has issued nothing since stands on the product again (R61,
R257). A read that meets poison is the product's trap (R398), whose record shows the coach as it issued the product:
that it is taken there although later instructions may have issued (log 69), and that an accumulator keeps its own bits
where the sum of its group is 0 or where it is a NaN itself (log 88), are the model's readings. -/
def Sys2Proof.Claims.MatrixGroupStep : Prop :=
  ∀ (s : State) (c : Coach) (l : Launch) (w : GridWork), s.coach? c.id = some c → c.grid = some w → engaged s c l →
    let n := min (c.group w.f) (w.kEnd - w.k)
    let g := { c with mode := w.mode, answers := w.answers }
    let as := s.readGroup l g w.f.a.toNat w.a w n
    let bs := as.2.readGroup l g w.f.b.toNat w.b w n
    let none_ : GroupRow := { elems := [], exp := 0, zero := true }
    let kd := w.k + c.group w.f
    let a := c.sr w.f.a.toNat
    let b := c.sr w.f.b.toNat
    let positions (x y : Nat) := (c.str.set w.f.a.toNat (strAt a x)).set w.f.b.toNat (strAt b y)
    (∀ t, s.groupTrap l g w n = some t → exec (.matrixKgroup c.id) s = .next (s.takeTrap
        { c with grid := none, cm := w.cm, rpc := w.rpc, depth := w.depth, lpost := w.lpost } t
      { pce := w.pc, resume := w.pc, act := 0, ilen := w.f.len }))
    ∧ (c.vb + 32 ≤ c.v.length → (∀ r ∈ groupReads g w, s.readHazard r.2 r.1.size = none) →
      ∃ t d, exec (.matrixKgroup c.id) s = .next t ∧ t.coach? c.id = some d
        ∧ (∀ i j, i < 32 → j < c.width → d.acc i j =
            gridStep (bit c.mxs 1) (g.sat w.f) g.sub (c.acc i j) (as.1.getD i none_) (bs.1.getD j none_))
        ∧ (∀ k, k < c.vb ∨ c.vb + 32 ≤ k → d.vr k = c.vr k)
        ∧ d = { c with v := d.v, str := d.str, grid := d.grid, wdc := d.wdc, pc := d.pc, wait := d.wait }
        ∧ (w.kEnd ≤ kd → d.grid = none ∧ d.wdc = 0 ∧ d.pc = c.pc ∧ d.wait = c.wait
          ∧ d.str = positions ((panelAt a + 1) * panelSize a) ((panelAt b + 1) * panelSize b))
        ∧ (kd < w.kEnd → d.str = positions (panelPos a kd) (panelPos b kd)
          ∧ (kd / c.group w.f % 16 = 0 → d.wdc = 0)
          ∧ (kd / c.group w.f % 16 = 0 ∧ s.stopping c = true ∧ w.moved = false →
              d.grid = none ∧ d.pc = w.pc ∧ d.wait = .ready)
          ∧ (¬ (kd / c.group w.f % 16 = 0 ∧ s.stopping c = true ∧ w.moved = false) →
              d.grid = some { w with k := kd, next := s.cycles + 1 } ∧ d.pc = c.pc ∧ d.wait = c.wait)))

/-- MXOUT completes when R265 holds, its accesses pass their checks, its windows have room for its packets, no release
waits, and what it reads outside the package has come back; each failed check is its trap. Without a block format its data
locations then hold the converted elements of the tile and every other byte is as it was. Of the AUTO form and of the form
with calibrated scales, which may count saturations, the statement says only that they complete (R151, R265, R385). That
plain CB4 is a format of MXOUT is the model's reading (log 48). -/
def Obligations.MatrixOutput : Prop :=
  ∀ w0 w1 s c l, let f := Fields.of64 w0 w1
    Issues s c l .mxout f →
    let s0 := s.beginIssue c .mxout
    let items := outLanes c f
    let fmt := ptrFmt (c.pr f.a.toNat)
    let es := outElems c f items
    let rs := places s0 l c es
    let s1 := admitted s0 c 0
    let reads := halfReads (fmtHalf fmt) (rs.take items.length) ++ (if outAuto f then [] else rs.drop items.length)
    let scales := s1.readElems l (s1.withCopies c reads) false (rs.drop items.length)
    (∀ t, firstTrap (s0.outChecks l (awake c) f) = some t → Traps (.mxout w0 w1) s c .mxout f t)
    ∧ (outputLegal s c f → roomy s c 0 → (∀ e ∈ es, Passes s0 l c e) →
      s.releaseBlocked c (c.pr f.a.toNat) = false → s.ownPending c rs = false → roomForAll s0 c rs →
      s0.lacksAnswer c (halfReads (fmtHalf fmt) (rs.take items.length)) = false →
      (outAuto f = true → ∃ s2, Ends (.mxout w0 w1) s s2 c
        (onward f { c with cstat := addQsat c.cstat 0, wdc := 0 }) .mxout f)
      ∧ (outAuto f = false → f.c.toNat ≠ 255 → s0.lacksAnswer c (rs.drop items.length) = false →
          scales.2.blockTrap c (outPlan f) (items.map (·.1)) scales.1 = none →
          ∃ s2 n, Ends (.mxout w0 w1) s s2 c (onward f { c with cstat := addQsat c.cstat n, wdc := 0 }) .mxout f)
      ∧ (outAuto f = false → f.c.toNat = 255 → ∃ s2,
          Ends (.mxout w0 w1) s s2 c (onward f { c with cstat := addQsat c.cstat 0, wdc := 0 }) .mxout f
          ∧ (noStash s → Memory.wf s.mem = true →
            (∀ p a, (∀ r ∈ rs, ∀ b, locatedAt r.2 p b → a < b ∨ b + r.1.size ≤ a) → byteAt s2 p a = byteAt s p a)
            ∧ ∀ (n : Nat) (r : Elem × Loc) (v : LaneAt × Word) (p : Place) (b : Nat), rs[n]? = some r →
                items[n]? = some v → locatedAt r.2 p b → fmtHalf fmt = false → fmtBlock fmt = false →
                (∀ (k : Nat) (r' : Elem × Loc) (b' : Nat), n < k → rs[k]? = some r' → locatedAt r'.2 p b' →
                  b + r.1.size ≤ b' ∨ b' + r'.1.size ≤ b) →
                ∀ j, j < r.1.size → byteAt s2 p (b + j) = BitVec.ofNat 8
                  (outBits (bit c.mxs 1) fmt (bookOf s c (fmt - 0x10)).entries v.2 (c.accVal v.2) / 256 ^ j))))

namespace Sys2Proof.Claims

open Sys2Proof Sys2Proof.Machine

/-! ### The dray engine (R267-R282) -/

/-- A trap on a local-store offset: it names scratch, not a pointer register (R274, R281). -/
def scratchBreach (code addr : Nat) : Trap := { cls := 5, code := code, addr := BitVec.ofNat 64 addr, info := 0xFF }

/-- The twelve words of a record in consecutive X registers, X255 reading as zeros (R280). -/
def recordWords (c : Coach) (a : Nat) : List DWord :=
  (List.range 12).map (fun i => if a = 255 then 0 else c.xr (a + i))

/-- A command of a coach whose slots hold its records (R275-R277). -/
def commandOf (s : State) (c : Coach) (o : Op) (f : Fields) : Command :=
  { op := o, f := f, src := (s.tlSlot c (if o = .drcp then f.a.toNat else f.d.toNat)).words
    dst := (s.tlSlot c f.d.toNat).words }

/-- Every check of a dray command at its issue, in order (R273, R274, R279, R388). -/
def commandChecks (s : State) (l : Launch) (c : Coach) (k : Command) : List (Option Trap) :=
  s.drayChecks l c k ++ [s.drayAccess l c k]

/-- The state as the elements of line `n` find it: the line is an entry of the dray's window, unless it has no element
(R59, R272). -/
def lineEntered (s : State) (c : Coach) (k : Command) (n : Nat) : State :=
  if lineElems k.op k.src n = [] then s else admitted s c 1

/-- The state after a line's elements have been moved, the lines of Lunath that they have written whole are free of
poison, and its complete granules are marked (R272, R275, R276, R397). -/
def lineMoved (s : State) (l : Launch) (c : Coach) (k : Command) (n : Nat) : State :=
  let es := lineElems k.op k.src n
  ((es.foldl (fun s e => s.boxElem l c k e) (lineEntered s c k n)).unpoisonVa (l.party (some c.core))
    (k.writeRanges c es)).setCompleted l c k n

/-- Bits 63:32 of the third register of an origin are 0 (R273). -/
def originLegal (c : Coach) (a : Nat) : Prop := a = 255 ∨ (c.xr (a + 2)).toNat < 2 ^ 32

/-- What R268-R279 require of a command at its issue: every lane, loaded slots, legal origins, a destination mask and a
reduction that its form allows, at most 2^27 - 1 lines, a footprint in scratch at an aligned offset, and a completion
access that passes. -/
def commandLegal (s : State) (l : Launch) (c : Coach) (k : Command) : Prop :=
  let x := if k.op = .drcp then k.f.b.toNat else k.f.a.toNat
  fullAct c k.f ∧ (∀ n ∈ commandSlots k.op k.f, (s.tlSlot c n).loaded = true)
    ∧ originLegal c x ∧ (k.op = .drcp → x ≠ 255 → originLegal c (x + 3))
    ∧ (k.op = .drld → recMcast k.src < 2 ^ l.crewCount ∧ recRedop k.src = 0)
    ∧ (k.op = .drst → recMcast k.src = 0)
    ∧ (k.op = .drcp → recMcast k.src = 0 ∧ recMcast k.dst = 0 ∧ recFmt k.src = recFmt k.dst)
    ∧ lineCount k.op k.src < 2 ^ 27
    ∧ (k.op ≠ .drcp → k.soff c + k.footprint ≤ l.scratch ∧ k.soffAlign ∣ k.soff c)
    ∧ ∀ e ∈ k.completion c, Passes s l c e ∧ ptrCls e.p = 2 ∧ (ptrFmt e.p = 0 ∨ ptrFmt e.p = 7)

/-- Line `n` of a command can be performed: its reads and writes of the tensor translate, a source granule is not
poisoned, and the engine's window to the network has room for it, if it has an element (R59, R272, R389, R398). -/
def lineReady (s : State) (l : Launch) (c : Coach) (k : Command) (n : Nat) : Prop :=
  let p := l.party (some c.core)
  (lineElems k.op k.src n ≠ [] → roomy s c 1) ∧ ∀ e ∈ lineElems k.op k.src n,
    (k.reads c e = true → ∃ loc, s.drayTranslate p false false k.size (nibVa (k.readNib c e)) = .ok loc)
    ∧ (k.writes c e = true → ∃ loc, s.drayTranslate p true (k.redop != 0) k.size (nibVa (k.writeNib c e)) = .ok loc)
    ∧ (k.op = .drst → k.writes c e = true → ∀ w, s.crewOf c = some w →
        s.readHazard (.store w.core (w.base + localNib k.src (k.soff c) e / 2)) k.size = none)

/-- The completion add of a command can be made in the state after its last line: it passes its checks, and the fabric
or the host link takes its request where it leaves the package (R59, R279). -/
def addReady (s : State) (l : Launch) (c : Coach) (k : Command) : Prop :=
  (∀ e ∈ k.completion c, Passes s l c e)
    ∧ ∀ r ∈ places s l c (k.completion c), r.2.isRemote = true → s.hasRoom c r.2.isPeer = true

/-- Bytes at a place. -/
def bytesAt (s : State) (p : Place) (b n : Nat) : List Byte := (List.range n).map (fun i => byteAt s p (b + i))

/-- The number that an element at a half-byte address has among the bytes there: one half, or all of them (R271). -/
def elementIn (half : Bool) (nib : Nat) (bs : List Byte) : Nat :=
  if half then leNat bs / 16 ^ (nib % 2) % 16 else leNat bs

/-- Byte `j` that an element at a half-byte address leaves over the old byte: a half-byte element changes its half
alone. -/
def elementOver (half : Bool) (nib v j : Nat) (old : Byte) : Byte :=
  if half then (if nib % 2 = 0 then BitVec.ofNat 8 (old.toNat / 16 * 16 + v % 16)
    else BitVec.ofNat 8 (v % 16 * 16 + old.toNat % 16))
  else BitVec.ofNat 8 (v / 256 ^ j)

/-- The element that a reduction leaves, by FMT and REDOP (R278). -/
def reducedElement (fmt redop old v : Nat) : Nat :=
  let f : FloatFormat := if fmt = 0x08 then .b16 else if fmt = 0x09 then .bf16 else .b32
  let below (a b : Nat) : Prop := if fmt = 0x05 then readAs true 32 a < readAs true 32 b else a < b
  open Classical in
  if fmt = 0x05 ∨ fmt = 0x06 then
    (if redop = 1 then (old + v) % 2 ^ 32
     else if redop = 2 then (if below old v then v else old)
     else if below v old then v else old)
  else if redop = 1 then sumRes f 1 2 0 [f.decode old, f.decode v]
  else fminmax f (redop == 2) 0 old v

/-- Crews that a DRLD writes to: those of its MCAST bits, its own without any (R275). -/
def deliveredTo (l : Launch) (c : Coach) (k : Command) (i : Nat) : Prop :=
  if recMcast k.src = 0 then i = c.id.crew else i < l.crewCount ∧ (recMcast k.src).testBit i = true

/-- A command's slot after its last line: free, with its record. -/
def freed (t : TlSlot) : TlSlot := { t with busy := false, own := 0, lines := 0, command := 0, trapped := false }

/-- What the `n`-th line of a command leaves, the earlier being done, where it is not the last: one more line counts,
and the coach stays on the command (R61, R272). -/
def LineDone (s u : State) (c : Coach) (k : Command) (t : TlSlot) : Prop :=
  (∃ d, u.coach? c.id = some d ∧ d.pc = c.pc ∧ d.wdc = 0
      ∧ d.wait = if s.stopping c then .ready else .dray k.op k.f k.src)
    ∧ ∀ w, s.crewOf c = some w → k.f.d.toNat < w.tl.length → u.tlSlot c k.f.d.toNat = { t with lines := t.lines + 1 }

/-- What a command leaves at its end: the slot is free, its coach goes on after it, and the coaches of the crew that
waited for the slot may issue (R61, R269, R272). -/
def CommandDone (s u : State) (c : Coach) (k : Command) (t : TlSlot) : Prop :=
  (∃ d, u.coach? c.id = some d ∧ d.pc = c.pc + BitVec.ofNat 64 k.f.len ∧ d.wdc = 0 ∧ d.wait = .ready
      ∧ d.lastPost = none ∧ d.x = c.x ∧ d.v = c.v ∧ d.p = c.p ∧ d.str = c.str ∧ d.m = c.m)
    ∧ (∀ w, s.crewOf c = some w → k.f.d.toNat < w.tl.length → u.tlSlot c k.f.d.toNat = freed t)
    ∧ ∀ e m, s.coach? e.id = some e → e.id ≠ c.id → e.id.q = c.id.q → e.id.gang = c.id.gang → e.id.crew = c.id.crew →
        e.wait = .tlSlot k.f.d.toNat m → u.coach? e.id = some { e with wait := .ready, wdc := 0 }

end Sys2Proof.Claims

open Sys2Proof Sys2Proof.Machine Sys2Proof.Claims

/-- TLRSET loads a TL slot with a record of twelve X registers, idle and with no progress, after which the coaches of the
crew that waited for the slot may issue; it waits while another coach owns it, and traps with OPERAND 0x010C on the first
broken condition of R268 (R268-R270, R280, R379). -/
def Sys2Proof.Claims.DrayRecords : Prop :=
  ∀ w0 s c l, let f := Fields.of32 w0
    Issues s c l .tlrset f →
    let n := w0.d.toNat
    let r := recordWords c w0.a.toNat
    (s.tlOwned c n = true → Waits (.tlrset w0) s s c c (.tlSlot n (s.tlSlot c n).own) .tlrset)
    ∧ (s.tlOwned c n = false →
      (¬ fullAct c f → Traps (.tlrset w0) s c .tlrset f (partialBreach c f))
      ∧ (fullAct c f → ∀ b, recBreach r = some b → Traps (.tlrset w0) s c .tlrset f (operandTrap 0x010C b))
      ∧ (fullAct c f → recBreach r = none → ∀ k, s.crewOf c = some k →
          ∃ s1, Ends (.tlrset w0) s s1 c (onward f c) .tlrset f
            ∧ s1 = { s.setCrew { k with
                tl := k.tl.set n { loaded := true, words := r, busy := false, own := 0, lines := 0, command := 0,
                                    trapped := false } } with coaches := s1.coaches }
            ∧ ∀ e, s.coach? e.id = some e →
              let waits := e.id.q = c.id.q ∧ e.id.gang = c.id.gang ∧ e.id.crew = c.id.crew ∧ ∃ m, e.wait = .tlSlot n m
              (waits → s1.coach? e.id = some { e with wait := .ready, wdc := 0 }) ∧ (¬ waits → s1.coach? e.id = some e)))

/-- FESET sets or clears the full-empty bit of every granule of a scratch range and of no other, in both formats; a
range that leaves scratch is POINTER 5 and an unaligned one POINTER 6; a set waits for the coach's earlier accesses
(R101, R281). -/
def Sys2Proof.Claims.FullEmptySet : Prop :=
  ∀ i f, view i = some (.feset, f) → ∀ s c l, Issues s c l .feset f →
    let off := (c.xr f.a.toNat).toNat
    let len : Nat := if f.form = .f96 then f.lit.toNat else (c.xr f.b.toNat).toNat
    let clear := f.k6.getLsbD 0
    (¬ fullAct c f → Traps i s c .feset f (partialBreach c f))
    ∧ (fullAct c f → l.scratch < off + len →
        Traps i s c .feset f (scratchBreach 5 (if off < l.scratch then l.scratch else off)))
    ∧ (fullAct c f → off + len ≤ l.scratch → ¬ (16 ∣ off ∧ 16 ∣ len) → Traps i s c .feset f (scratchBreach 6 off))
    ∧ (fullAct c f → off + len ≤ l.scratch → 16 ∣ off → 16 ∣ len → ∀ k, s.crewOf c = some k →
        (clear = false → s.outstanding c = true → Waits i s s c c .remote .feset)
        ∧ (clear = true ∨ s.outstanding c = false → ∃ s1, Ends i s s1 c (onward f c) .feset f
          ∧ (∀ h g, s1.isFull h g =
              if h = k.core ∧ (k.base + off) / 16 ≤ g ∧ g < (k.base + off) / 16 + len / 16 then !clear
              else s.isFull h g)
          ∧ ∀ p a, byteAt s1 p a = byteAt s p a))

/-- DRLD, DRST and DRCP wait while another coach owns one of their TL slots, while an earlier access of the coach is
outstanding, and while a command of another coach is on the engine; they trap on the first check that fails. Otherwise,
R268-R279 being met, the engine takes the command, or its reissue with its progress, and performs a line: a command of
one line, or whose other lines are done, completes, its coach going on; any other has one more line done and its coach
waits on it, with its PC on the command; a line that cannot be performed yet is left to the engine (R61, R269, R270,
R272-R277). -/
def Sys2Proof.Claims.DrayStarts : Prop :=
  ∀ i o f, view i = some (o, f) → o = .drld ∨ o = .drst ∨ o = .drcp → ∀ s c l, Issues s c l o f →
    let k := commandOf s c o f
    (∀ n, (commandSlots o f).find? (s.tlOwned c) = some n → Waits i s s c c (.tlSlot n (s.tlSlot c n).own) o)
    ∧ ((∀ n ∈ commandSlots o f, s.tlOwned c n = false) →
      (∀ e, firstTrap (commandChecks s l (awake c) k) = some e → Traps i s c o f e)
      ∧ (commandLegal s l c k →
        (s.outstanding c = true → Waits i s s c c .remote o)
        ∧ (s.outstanding c = false → s.engineBusy c false = true → Waits i s s c c (.engine false) o)
        ∧ (s.outstanding c = false → s.engineBusy c false = false →
          let s1 := s.takeCommand c o f
          let t := s1.tlSlot c f.d.toNat
          let s2 := lineMoved s1 l (awake c) k t.lines
          (lineElems o k.src t.lines ≠ [] → ¬ roomy s c 1 → Waits i s s1 c c (.dray o f k.src) o)
          ∧ (lineReady s l c k t.lines →
            (t.lines + 1 < lineCount o k.src → ∃ u, exec i s = .next u ∧ LineDone s u c k t)
            ∧ (lineCount o k.src ≤ t.lines + 1 → addReady s2 l c k → ∃ u, exec i s = .next u ∧ CommandDone s u c k t)))))

/-- The engine's slot of a command is the coach's own with no line done, or that of a stopped command of the coach at
the same address with its progress, unless the coach is in the handler of the trap that stopped it; a stopped command of
a DRCP's source slot is abandoned (R269, R270). -/
def Sys2Proof.Claims.DraySlotTaken : Prop :=
  ∀ (s : State) (c : Coach) (o : Op) (f : Fields) (w : Crew), s.crewOf c = some w → f.d.toNat < w.tl.length →
    let n := f.d.toNat
    let t := s.tlSlot c n
    let u := s.takeCommand c o f
    u.tlSlot c n = (if t.busy = true ∧ t.own = c.id.coach ∧ t.command = c.pc ∧ t.trapped = false then t
      else { t with busy := true, own := c.id.coach, lines := 0, command := c.pc, trapped := false })
    ∧ (o = .drcp → f.a ≠ f.d → f.a.toNat < w.tl.length → (s.tlSlot c f.a.toNat).trapped = true →
        u.tlSlot c f.a.toNat = freed (s.tlSlot c f.a.toNat))
    ∧ ∀ m, m ≠ n → (o = .drcp → m ≠ f.a.toNat ∨ (s.tlSlot c m).trapped = false) → u.tlSlot c m = s.tlSlot c m

/-- DRAY_LINE completes for a command of a coach on its cores: when the next line can be performed, it moves that line
of the box; before the last line the slot's progress grows by one and the coach waits on; after the last, the completion
add has been made, the slot is free with its record, and the coach goes on after the command. A line's traps are those
of its accesses and its source (R61, R269, R272, R279, R389). -/
def Sys2Proof.Claims.DrayLineStep : Prop :=
  ∀ s c l o f, o = .drld ∨ o = .drst ∨ o = .drcp → ∀ src, s.coach? c.id = some c → c.wait = .dray o f src →
    engaged s c l →
    let t := s.tlSlot c f.d.toNat
    let k : Command := { op := o, f := f, src := src, dst := t.words }
    let es := lineElems o src t.lines
    let s2 := lineMoved s l c k t.lines
    (∀ e, firstTrap [s.lineTrap l c k es, s.sourceTrap c k es] = some e →
      exec (.drayLine c.id) s = .next (s.takeTrap (awake c) e (c.site o f e)))
    ∧ (lineReady s l c k t.lines →
      (t.lines + 1 < lineCount o src → ∃ u, exec (.drayLine c.id) s = .next u ∧ LineDone s u c k t)
      ∧ (lineCount o src ≤ t.lines + 1 → addReady s2 l c k → ∃ u, exec (.drayLine c.id) s = .next u
          ∧ CommandDone s u c k t))

/-- Where no crew binds memory, one element of a box is moved byte for byte. Its value is the element at its scratch
offset for DRST, otherwise that at the tensor's address, in Lunath or in a local store, or the fill outside the tensor.
DRLD leaves it at its scratch offset in every crew that MCAST names, or in its own, and DRST and DRCP at its address in
their target tensor, in Lunath or in a local store, with a reduction combined with the element there; a half-byte
element changes its half of the byte alone; no other byte changes (R271, R275-R278). Of crews of the command that share
a core, nothing is said. -/
def Obligations.DrayElement : Prop :=
  ∀ (s : State) (l : Launch) (c : Coach) (k : Command) (e : BoxElem) (w : Crew), noStash s → Memory.wf s.mem = true →
    s.crewOf c = some w →
    let fmt := recFmt k.src
    let half := fmtHalf fmt
    let n := fmtBytes 1 fmt
    let p := l.party (some c.core)
    let v := (s.boxValue l c k e).1
    let t := s.boxElem l c k e
    let there := localNib k.src (k.soff c) e
    (k.op = .drst → v = elementIn half there (bytesAt s (.store w.core) (w.base + there / 2) n))
    ∧ (k.op ≠ .drst → k.reads c e = true →
        let nib := tensorNib k.src k.src (k.origin c) e
        ∀ loc x a, s.drayTranslate p false false n (nibVa nib) = .ok loc → locatedAt loc x a →
          v = elementIn half nib (bytesAt s x a n))
    ∧ (k.op ≠ .drst → k.reads c e = false → v = fillBits k.src)
    ∧ (k.op = .drld →
        let crew (i : Nat) (x : Crew) : Prop := deliveredTo l c k i ∧ s.crew? c.id.q c.id.gang i = some x
        (∀ i x, crew i x → (∀ i' x', crew i' x' → i' ≠ i → x'.core ≠ x.core) → ∀ j, j < n →
          byteAt t (.store x.core) (x.base + there / 2 + j)
            = elementOver half there v j (byteAt s (.store x.core) (x.base + there / 2 + j)))
        ∧ (∀ a, byteAt t .lunath a = byteAt s .lunath a)
        ∧ ∀ h a, (∀ i x, crew i x → x.core = h → a < x.base + there / 2 ∨ x.base + there / 2 + n ≤ a) →
            byteAt t (.store h) a = byteAt s (.store h) a)
    ∧ (k.op ≠ .drld → k.writes c e = true → ∀ loc x b,
        (s.boxValue l c k e).2.drayTranslate p true (k.redop != 0) n (nibVa (k.writeNib c e)) = .ok loc →
        locatedAt loc x b →
        (∀ j, j < n → byteAt t x (b + j) = if recRedop k.target = 0 then
            elementOver half (k.writeNib c e) v j (byteAt s x (b + j))
          else BitVec.ofNat 8 (reducedElement fmt (recRedop k.target) (leNat (bytesAt s x b n)) v / 256 ^ j))
        ∧ ∀ y a, (∀ b', locatedAt loc y b' → a < b' ∨ b' + n ≤ a) → byteAt t y a = byteAt s y a)
    ∧ (k.op ≠ .drld → k.writes c e = false → t = s)

namespace Sys2Proof.Claims

open Sys2Proof Sys2Proof.Machine

/-! ### Groups, posts and waits (R34-R37, R112, R113, R173, R174, R285-R288) -/

/-- Lanes reach a valid slot: they join its AL, and when AL or ex is all W lanes and the coach has not arrived, it
arrives: ARR is set, AL cleared and its contribution is that of the phase (R36, R285, R286). -/
def reached (c : Coach) (slot : Nat) (act : DWord) : Coach :=
  let al := c.al.getD slot 0 ||| act
  let arrived := c.slotValid slot = true ∧ c.arr.getD slot false = false
    ∧ (c.al.set slot al).getD slot 0 ||| c.ex = lowMask c.width
  open Classical in
  if arrived then
    { c with al := (c.al.set slot al).set slot 0, arr := c.arr.set slot true
             sent := c.sent.set slot (c.cont.getD slot none), cont := c.cont.set slot none, wdc := 0 }
  else { c with al := c.al.set slot al }

/-- A value as TY reads it: the low 32 bits for TY 0-2, all 64 for TY 3 (R286). -/
def asTy (ty : Nat) (x : DWord) : DWord := if ty = 3 then x else (x.setWidth 32).setWidth 64

/-- The identity of OP, as a 64-bit value (R224, R286). -/
def groupIdentity (op ty : Nat) : DWord :=
  if ty = 3 then (match op with
    | 1 => 0x7FFFFFFFFFFFFFFF#64
    | 2 => 0x8000000000000000#64
    | 3 => BitVec.allOnes 64
    | _ => 0)
  else (identityOf op ty).setWidth 64

/-- One combination of GRED (R286): integer adds wrap, float adds round to nearest, float minima and maxima flush their
operands by SUB `sub` (R185). -/
def groupCombined (op ty sub : Nat) (a b : DWord) : DWord :=
  if ty = 3 then (match op with
    | 0 => BitVec.ofNat 64 (a.toNat + b.toNat)
    | 1 => if b.toInt < a.toInt then b else a
    | 2 => if a.toInt < b.toInt then b else a
    | 3 => a &&& b
    | 4 => a ||| b
    | _ => a ^^^ b)
  else if op = 0 ∧ ty ≤ 1 then BitVec.ofNat 64 ((a.toNat % 2 ^ 32 + b.toNat % 2 ^ 32) % 2 ^ 32)
  else (combined op ty 1 2 (if op = 0 then 0 else sub) (a.setWidth 32) (b.setWidth 32)).setWidth 64

/-- The pending contribution after a GRED of OP and TY with x under SUB `sub` (R185, R286); `mixed` when its phase has had
another OP or TY (R381). -/
def contributed (old : Option Contribution) (op ty sub : Nat) (x : DWord) : Contribution :=
  match old with
  | none => { op := op, ty := ty, value := groupCombined op ty sub (groupIdentity op ty) (asTy ty x), mixed := false }
  | some k => if k.op = op ∧ k.ty = ty then { k with value := groupCombined op ty sub k.value (asTy ty x) }
              else { k with mixed := true }

/-- The result of a phase as X[D] takes it: I32 sign-extended (R286). -/
def groupResult (ty : Nat) (r : DWord) : DWord := if ty = 0 then (r.setWidth 32).signExtend 64 else r

/-- OPERAND 0x0110 of a post ID: FFFF, the trap post, an ID without an entry, or matrix mode (R366). -/
def postBreach (l : Launch) (c : Coach) (n : BitVec 16) : Prop :=
  n = 0xFFFF ∨ n = 0xFFFE ∨ l.posts.find? (fun p => p.id == n) = none ∨ bit c.mxs 0 = true

/-- The timeout of a WAITV in ticks; 0: none (R288). -/
def waitLimit (c : Coach) (f : Fields) : Nat := if f.form = .f96 then f.lit.toNat else (c.xr f.b.toNat).toNat

end Sys2Proof.Claims

open Sys2Proof Sys2Proof.Machine Sys2Proof.Claims

/-- GBAR, GARV and GRED trap with OPERAND 0x0113 on a slot that is not valid and are skipped with act 0. An arrival is a
release, so that each waits for every earlier access of its coach (R298). GRED first adds its value to the pending
contribution. Then the lanes of act reach the slot; GARV goes on; GBAR and GRED wait for the phase, after which they go
on with their own act, when the arrival is complete, and otherwise hold the path when a deferred path is on top of the
stack, which then runs: a pop and a push, with their refill and spill and the traps of these (R31, R34, R36, R37, R285,
R286, R373, R398). -/
def Sys2Proof.Claims.GroupBarriers : Prop :=
  ∀ i o f, view i = some (o, f) → o = .gbar ∨ o = .garv ∨ o = .gred → ∀ s c l, Issues s c l o f →
    let slot := if o = .gred then f.b.toNat else f.a.toNat
    let xd := if o = .gred then some f.d.toNat else none
    let c0 := if o = .gred then
        { c with cont := c.cont.set slot (some
            (contributed (c.cont.getD slot none) (f.k6.toNat / 8) (f.k6.toNat % 4) c.sub (c.xr f.a.toNat))) } else c
    let c1 := reached c0 slot (c.act f)
    let ph := s.parity c slot
    (c.slotValid slot = false → Traps i s c o f (operandTrap 0x0113 slot))
    ∧ (c.slotValid slot = true → c.act f = 0 → Ends i s s c (onward f c) o f)
    ∧ (c.slotValid slot = true → c.act f ≠ 0 → s.outstanding c = true → Waits i s s c c .remote o)
    ∧ (c.slotValid slot = true → c.act f ≠ 0 → s.outstanding c = false →
      (o = .garv → Ends i s s c (onward f c1) o f)
      ∧ (o ≠ .garv → c.arr.getD slot false = false → c1.arr.getD slot false = true →
          Waits i s s c c1 (.barrier slot f.len true xd (c.act f)) o)
      ∧ (o ≠ .garv → c.arr.getD slot false = true ∨ c1.arr.getD slot false = false →
          (∀ e rest, c.stack = e :: rest → e.kind = 1 →
            let held : Entry := { kind := 2, pc := following c f, mask := c.act f, rpc := c.rpc, slot := slot, ph := ph }
            let waits (n : Nat) : List GredPending :=
              if o = .gred then [{ entry := n, slot := slot, ph := ph, xd := f.d.toNat, result := none }] else []
            let runs := popped (awake c1) e
            (.register c.id .stack (c.depth - 1) ∈ s.poison → Traps i s c o f { cls := 11, code := 2 })
            ∧ (.register c.id .stack (c.depth - 1) ∉ s.poison →
              (∀ s1 c2 s2 c3, s.refill l runs = .ok (s1, c2) → s1.push l c2 held = .ok (s2, c3) →
                Ends i s s2 c { c3 with gred := c.gred ++ waits (c3.depth - 1) } o f)
              ∧ (∀ t, s.refill l runs = .error t → Traps i s c o f t)
              ∧ (∀ s1 c2 t, s.refill l runs = .ok (s1, c2) → s1.push l c2 held = .error (.trap t) → Traps i s c o f t)
              ∧ (c.depth ≤ 16 → Ends i s (cleanEntry s c (c.depth - 1)) c
                  { runs with stack := held :: rest, depth := c.depth - 1 + 1, gred := c.gred ++ waits (c.depth - 1) } o f)))
          ∧ ((∀ e rest, c.stack = e :: rest → e.kind ≠ 1) → Waits i s s c c1 (.barrier slot f.len false xd (c.act f)) o)))

/-- GWAIT waits while ARR is 1 and otherwise has no effect; GQRY gives parity + 2 × ARR; both trap with OPERAND 0x0113
on a slot that is not valid, and are skipped with act 0 (R34, R157, R285). -/
def Sys2Proof.Claims.GroupQueries : Prop :=
  ∀ w0 s c l, let f := Fields.of32 w0
    let slot := w0.a.toNat
    let arr := c.arr.getD slot false
    (Issues s c l .gwait f →
      (c.slotValid slot = false → Traps (.gwait w0) s c .gwait f (operandTrap 0x0113 slot))
      ∧ (c.slotValid slot = true → c.act f ≠ 0 → arr = true → Waits (.gwait w0) s s c c (.gwait slot) .gwait)
      ∧ (c.slotValid slot = true → c.act f = 0 ∨ arr = false → Ends (.gwait w0) s s c (onward f c) .gwait f))
    ∧ (Issues s c l .gqry f →
      (c.slotValid slot = false → Traps (.gqry w0) s c .gqry f (operandTrap 0x0113 slot))
      ∧ (c.slotValid slot = true → c.act f = 0 → Ends (.gqry w0) s s c (onward f c) .gqry f)
      ∧ (c.slotValid slot = true → c.act f ≠ 0 → Ends (.gqry w0) s s c
          (onward f (c.setX w0.d.toNat (BitVec.ofNat 64 ((if s.parity c slot then 1 else 0) + if arr then 2 else 0))))
          .gqry f))

/-- When every member of a group has arrived, some since the last phase, GROUP_PHASE_COMPLETE flips the parity of that
group alone; a member at GBAR or GRED goes on after it with the act of that instruction, and with the result in X[D]
where it is a GRED, and one at GWAIT goes on after it; coaches that are no members and every byte stay as they were. A
phase of GREDs that do not agree is EXEC 4 of the member whose arrival completed it, if it has no matrix instruction in
flight (R381): that this is the coach that issued last is the model's reading (log 18). Otherwise nothing changes;
members whose lanes have all exited complete no further phase by themselves, which is the model's reading (log 21) (R35,
R36, R285, R286). -/
def Obligations.GroupPhase : Prop :=
  ∀ (s : State) (q : BitVec 6) (gang : Nat) (group : BitVec 8) (g : Gang) (l : Launch),
    s.gang? q gang = some g → s.launch? q = some l → (s.coaches.map (·.id)).Nodup →
    let ms := s.members q gang group.toNat
    let due := (∀ m ∈ ms, m.1.arr.getD m.2 false = true ∨ m.1.ex = lowMask m.1.width)
      ∧ ∃ m ∈ ms, m.1.arr.getD m.2 false = true
    (¬ due ∨ g.status = .saved → exec (.groupPhaseComplete q gang group) s = .next s)
    ∧ (due → g.status ≠ .saved → phaseMixed ms = true → g.mixed = [] → ∀ m ∈ ms, s.cur = some m.1.id → m.1.grid = none →
      exec (.groupPhaseComplete q gang group) s = .next (s.takeTrap m.1
        { cls := 7, code := 4, info := BitVec.ofNat 64 (m.2 + 4 * group.toNat) }
        (betweenInstructions s l m.1)))
    ∧ (due → g.status ≠ .saved → phaseMixed ms = false → ∃ t, exec (.groupPhaseComplete q gang group) s = .next t
      ∧ t.gang? q gang = some { g with parity := g.parity ^^^ BitVec.ofNat 256 (2 ^ group.toNat) }
      ∧ (∀ m ∈ ms, m.1.ex ≠ lowMask m.1.width → ∃ d, t.coach? m.1.id = some d
          ∧ (∀ len act, m.1.wait = .barrier m.2 len true none act →
              d.wait = .ready ∧ d.pc = m.1.pc + BitVec.ofNat 64 len ∧ d.cm = act ∧ d.x = m.1.x)
          ∧ (∀ len x act ty r, m.1.wait = .barrier m.2 len true (some x) act →
              phaseResult (fun i => Config.freeNat s.fresh i) ms = some (ty, r) →
              d.wait = .ready ∧ d.pc = m.1.pc + BitVec.ofNat 64 len ∧ d.cm = act
                ∧ d.x = (m.1.setX x (groupResult ty r)).x)
          ∧ (m.1.wait = .gwait m.2 → d.wait = .ready ∧ d.pc = m.1.pc + 4 ∧ d.cm = m.1.cm ∧ d.x = m.1.x)
          ∧ (m.1.wait = .ready → d.wait = .ready ∧ d.pc = m.1.pc ∧ d.cm = m.1.cm ∧ d.x = m.1.x))
      ∧ (∀ id, (∀ m ∈ ms, m.1.id ≠ id) → t.coach? id = s.coach? id)
      ∧ ∀ p a, byteAt t p a = byteAt s p a)

/-- The result of a phase whose GREDs agree in an integer OP and TY is the combination of the members' contributions
in any order, the same in every run; a member without one contributes the identity (R286). -/
def Obligations.GroupReduction : Prop :=
  ∀ (pick : Nat → Nat) (ms : List (Coach × Nat)) (op ty : Nat), op ≤ 5 → ty ≤ 3 → ty ≠ 2 →
    (∃ m ∈ ms, (m.1.sent.getD m.2 none).isSome) →
    (∀ m ∈ ms, ∀ k, m.1.sent.getD m.2 none = some k → k.op = op ∧ k.ty = ty ∧ asTy ty k.value = k.value) →
    ∀ vs : List DWord, List.Perm vs (ms.map (fun m => match m.1.sent.getD m.2 none with
        | some k => k.value
        | none => groupIdentity op ty)) →
      phaseResult pick ms = some (ty, vs.foldl (groupCombined op ty 0) (groupIdentity op ty))

/-- POST marks the coach's post; MIGRATE waits for the scheduler, and must follow the POST of its own ID; both trap with
OPERAND 0x0110 on an ID that R366 rules out, and are skipped with act 0 (R112, R113, R157, R366). -/
def Sys2Proof.Claims.PostAndMigrate : Prop :=
  ∀ w0 s c l, let f := Fields.of32 w0
    let n : BitVec 16 := (w0.a ++ w0.d : BitVec 16)
    (Issues s c l .post f →
      (¬ postBreach l c n → c.act f = 0 → Ends (.post w0) s s c (onward f c) .post f)
      ∧ (¬ postBreach l c n → c.act f ≠ 0 → Ends (.post w0) s s c (onward f { c with lpost := some n, wdc := 0 }) .post f)
      ∧ (postBreach l c n → Traps (.post w0) s c .post f (operandTrap 0x0110 n.toNat)))
    ∧ (Issues s c l .migrate f →
      (¬ postBreach l c n → c.lastPost = some n → c.act f = 0 → Ends (.migrate w0) s s c (onward f c) .migrate f)
      ∧ (¬ postBreach l c n → c.lastPost = some n → c.act f ≠ 0 → Waits (.migrate w0) s s c c (.migrate n) .migrate)
      ∧ (postBreach l c n ∨ c.lastPost ≠ some n →
          Traps (.migrate w0) s c .migrate f (operandTrap 0x0110 (n.toNat + 2 ^ 16))))

/-- WAITV loads its element, and when the comparison with x[c] holds, or its timeout has passed since it began, gives
X[D] the element of a load with the pointer's ORD and goes on; otherwise it waits, and WAITV_RECHECK tries again, under
the pod-table entry of its first issue. A format other than raw, I32, N32 and I64 is OPERAND 0x0106 (R288, R400). -/
def Sys2Proof.Claims.WaitOnValue : Prop :=
  ∀ i f, view i = some (.waitv, f) → ∀ s c l, Issues s c l .waitv f →
    let p := c.pr f.a.toNat
    let n := if ptrFmt p = 5 ∨ ptrFmt p = 6 then 4 else 8
    let legal := ptrFmt p = 0 ∨ ptrFmt p = 5 ∨ ptrFmt p = 6 ∨ ptrFmt p = 7
    let es : List Elem := [{ lane := 0, ptr := f.a.toNat, p := p, off := 0, size := n, align := n }]
    let value (v : Nat) : DWord := fmtToDWord (ptrFmt p) [] v
    let meets (v : Nat) : Prop := comparesX (f.k6.getLsbD 3) (f.k6.toNat % 8) (value v) (c.xr f.c.toNat)
    let past (start : Nat) : Prop := waitLimit c f ≠ 0 ∧ start + waitLimit c f ≤ s.time.toNat
    let load (again ord : Bool) (s : State) :=
      s.loadElems l (awake c) f { lanes := false, answered := again } 0 (!ord) es
    (ptrWellFormed l.scopeMax p = true → ¬ legal → Traps i s c .waitv f (operandTrap 0x0106 (ptrFmt p + 256 * f.a.toNat)))
    ∧ (legal → c.act f = 0 → Ends i s s c (onward f c) .waitv f)
    ∧ (legal → c.act f ≠ 0 → s.outstanding c = true → Waits i s s c c (.waitv f s.time.toNat) .waitv)
    ∧ (legal → c.act f ≠ 0 → s.outstanding c = false → ∀ v s1, load false false s = .ok ([v], s1) →
      (meets v → ∀ v' s2, load false true s1 = .ok ([v'], s2) →
        Ends i s s2 c (onward f { c.setX f.d.toNat (value v') with wdc := 0 }) .waitv f)
      ∧ (¬ meets v → Waits i s s1 c { c with answers := [] } (.waitv f s.time.toNat) .waitv))
    ∧ (legal → c.act f ≠ 0 → s.outstanding c = false → ∀ start, c.wait = .waitv f start → s.running c = true →
      ∀ v s1, load true false s = .ok ([v], s1) →
        (meets v ∨ past start → ∀ v' s2, load true true s1 = .ok ([v'], s2) →
          Ends (.waitvRecheck c.id) s s2 c (onward f { c.setX f.d.toNat (value v') with wdc := 0 }) .waitv f)
        ∧ (¬ meets v → ¬ past start →
            Waits (.waitvRecheck c.id) s s1 c { c with answers := [] } (.waitv f start) .waitv))

/-- A YIELD is over in a slot of its coach: another instruction has issued there on the core, or 4 cycles have passed
and no other coach of the core is ready (R173). -/
def yieldEnds (s : State) (c : Coach) (y : Yielded) : Prop :=
  y.issued < (if y.vector then (s.core c.core).issuedVector else (s.core c.core).issued)
    ∨ (y.cycle + 4 ≤ s.cycles ∧ ∀ d ∈ s.coaches, d.core = c.core → d.id ≠ c.id → s.ready d = false)

/-- A SLEEP whose tick has come goes on after it; a YIELD ends in each slot where it is over, the coach's age there
starting anew; and a load that waits on full-empty bits issues again when every one of its granules is full; before that
each of these events changes nothing (R102, R173, R174). -/
def Sys2Proof.Claims.WaitsEnd : Prop :=
  ∀ s c, s.coach? c.id = some c →
    (∀ t len, c.wait = .sleep t len →
      (s.running c = true → t ≤ s.time.toNat → exec (.sleepExpiry c.id) s = .next
        (s.setCoach { c with wait := .ready, lastPost := none, pc := c.pc + BitVec.ofNat 64 len }))
      ∧ (s.running c = false ∨ s.time.toNat < t → exec (.sleepExpiry c.id) s = .next s))
    ∧ (∃ d, exec (.yieldExpiry c.id) s = .next (s.setCoach d)
      ∧ (∀ y, y ∈ d.yields ↔ y ∈ c.yields ∧ ¬ yieldEnds s c y)
      ∧ ((∃ y ∈ c.yields, y.vector = false ∧ yieldEnds s c y) → d.lastScalar = s.cycles)
      ∧ ((∀ y ∈ c.yields, y.vector = false → ¬ yieldEnds s c y) → d.lastScalar = c.lastScalar)
      ∧ ((∃ y ∈ c.yields, y.vector = true ∧ yieldEnds s c y) → d.lastVector = s.cycles)
      ∧ ((∀ y ∈ c.yields, y.vector = true → ¬ yieldEnds s c y) → d.lastVector = c.lastVector)
      ∧ d = { c with yields := d.yields, lastScalar := d.lastScalar, lastVector := d.lastVector })
    ∧ ∀ i f gs, view i = some (.ld, f) → c.wait = .fe f gs →
      (s.running c = true → (∀ g ∈ gs, s.isFull g.1 g.2 = true) →
        exec (.feWaitSatisfied c.id) s = exec i { s with cur := some c.id } ∧ ∃ t, exec i { s with cur := some c.id } = .next t)
      ∧ ((∃ g ∈ gs, s.isFull g.1 g.2 = false) → exec (.feWaitSatisfied c.id) s = .next s)

namespace Sys2Proof.Claims

open Sys2Proof Sys2Proof.Machine

/-! ### Traps, system instructions and saved coaches (R289-R295, R342-R352) -/

/-- The classes that may enter a handler (R342). -/
def mayEnter (cls : Nat) : Prop := (1 ≤ cls ∧ cls ≤ 6) ∨ cls = 8 ∨ cls = 9

/-- The trap post of a launch (R343). -/
def trapPostOf (l : Launch) : Option Post := l.posts.find? (fun p => p.id == 0xFFFE)

/-- The address of a coach's record slot: FA + 128 × (lc + 1), FA being DONE + 8 rounded up to 64 (R346). -/
def recordSlot (l : Launch) (c : Coach) : Nat :=
  (l.done + 8 + 63) / 64 * 64
    + 128 * ((c.id.gang * l.crewCount + c.id.crew) * l.coachCount + c.id.coach + 1)

/-- PCO: where the other image stands: its code of the last post, or its entry; all ones without a second image
(R116). -/
def otherPc (l : Launch) (c : Coach) : Nat :=
  let img := 1 - c.image
  let entry := l.imageBase img + l.entry img
  if l.twoImg = false then 2 ^ 64 - 1
  else match c.lpost with
    | none => entry
    | some n => match l.posts.find? (fun p => p.id == n) with
      | none => entry
      | some p => l.imageBase img + if img = 0 then p.wpc else p.gpc

/-- The sixteen words of a record (R347); bit 18 is TERM and bit 17 ACTIVE. -/
def recordOf (s : State) (l : Launch) (c : Coach) (t : Trap) (site : TrapSite) (term active : Nat) : List Byte :=
  let post : Nat := match c.lpost with
    | none => 0xFFFF
    | some n => n.toNat
  [site.pce.toNat, otherPc l c,
    t.code % 2 ^ 16 * 2 ^ 32 + t.cls % 256 * 2 ^ 24 + term * 2 ^ 18 + active * 2 ^ 17 + c.image % 2 * 2 ^ 16 + post,
    site.resume.toNat, c.rpc.toNat, c.cm.toNat, site.act.toNat, t.lanes.toNat, t.addr.toNat, t.info.toNat,
    c.id.coach % 16 * 2 ^ 43 + c.id.crew % 32 * 2 ^ 38 + l.step % 64 * 2 ^ 32 + c.id.gang % 2 ^ 32, s.time.toNat,
    site.ilen % 256 * 2 ^ 32 + c.depth % 2 ^ 32, c.id.gang % 2 ^ 64, 0, 0].flatMap (natLe 8)

/-- A trap that ends its launch: the first terminal event stands, and nothing else of the state changes (R349). -/
def Ended (s t : State) (l : Launch) (status : Nat) (record : List Byte) : Prop :=
  t = { s with launches := t.launches }
    ∧ t.launch? l.q = some { l with terminal :=
        if l.terminal.isSome then l.terminal else some { status := status, record := some record } }
    ∧ ∀ q, q ≠ l.q → t.launch? q = s.launch? q

/-- The instruction traps at its own address with the resume point `resume`, after a matrix instruction of its coach
that is still in flight (R344). -/
def TrapsAt (i : Instr) (s : State) (c : Coach) (f : Fields) (t : Trap) (resume : DWord) : Prop :=
  (c.grid = none → exec i s = .next (s.takeTrap c t { pce := c.pc, resume := resume, act := c.act f, ilen := f.len }))
  ∧ (c.grid ≠ none → exec i s = .next (s.setCoach { c with wait := .ownGrid }))

/-- The live lanes under the predicate that a second word holds: PEN in bit 16, PSEL in 19:17, PNEG in bit 20 (R24, R124).
-/
def predicated (c : Coach) (w1 : Word) : DWord :=
  let m := c.mr (w1.toNat / 2 ^ 17 % 8)
  c.cm &&& ~~~c.ex &&& (if w1.getLsbD 16 then (if w1.getLsbD 20 then ~~~m else m) else BitVec.allOnes 64)

/-- Where words or a fetch that give no instruction trap: at the CHARG that waits for its CHRUN where the first word `w`
is that of one, else at the PC (R356, R364). -/
def undecodedSite (c : Coach) (w : Option Word) (act : DWord) (ilen : Nat) : TrapSite :=
  match (if w.bind (fun w => Op.ofCode (w.toNat / 4 % 256)) = some .chrun then c.charg else none) with
  | some p => { pce := p.pc, resume := p.pc, act := act, ilen := 12 + ilen }
  | none => { pce := c.pc, resume := c.pc, act := act, ilen := ilen }

/-- The trap of words or of a fetch that give no instruction: a CHARG prefix is dropped, and a matrix instruction of the
coach in flight ends first (R344, R356, R364). -/
def TrapsUndecoded (i : Instr) (s : State) (c : Coach) (t : Trap) (w : Option Word) (act : DWord) (ilen : Nat) : Prop :=
  (c.grid = none → exec i s = .next (s.takeTrap { c with charg := none } t (undecodedSite c w act ilen)))
  ∧ (c.grid ≠ none → exec i s = .next (s.setCoach { c with wait := .ownGrid }))

/-- Word i of the eight-byte words of a record. -/
def wordAt (bs : List Byte) (off : Nat) : Nat := leNat ((bs.drop off).take 8)

/-- What RFT requires of the saved record (R348). -/
def returnable (l : Launch) (c : Coach) (bs : List Byte) : Prop :=
  wordAt bs 16 / 2 ^ 17 % 2 = 1 ∧ wordAt bs 96 % 2 ^ 32 = c.depth ∧ inImage l c (BitVec.ofNat 64 (wordAt bs 24))

/-- A coach of a shape that a record holds: counts as declared, a G register of W words, at most 16 entries. -/
def recordable (c : Coach) : Prop :=
  c.x.length ≤ 255 ∧ c.v.length ≤ 256 ∧ c.m.length = 8 ∧ c.al.length = 4 ∧ c.stack.length ≤ 16 ∧ c.width ≤ 64
    ∧ (∀ w, VReg.g w ∈ c.v → w.length = c.width) ∧ (∀ e ∈ c.stack, e.kind < 4 ∧ e.slot < 4)
    ∧ c.cm &&& lowMask c.width = c.cm ∧ c.ex &&& lowMask c.width = c.ex
    ∧ (∀ w ∈ c.al, w &&& lowMask c.width = w) ∧ (∀ w ∈ c.m, w &&& lowMask c.width = w)

/-- SAVEC's record: the coach after the SAVEC with X[D] = 1, then its crew's slot area (R85, R294). -/
def savedRecord (s : State) (c : Coach) (d : Nat) : List Byte :=
  ({ c.setX d 1 with pc := c.pc + 4 } : Coach).recordBody ++ (match s.crewOf c with
    | some k => k.slotArea
    | none => [])

/-- OPERAND 0x0114 with the number of the failing requirement (R294, R368). -/
def recordBreach (n : Nat) : Trap := operandTrap 0x0114 n

/-- CLASS 0 with FMT 0 (R294). -/
def recordPointer (p : BitVec 128) : Prop := ptrCls p = 0 ∧ ptrFmt p = 0

/-- The latch entries of a coach are lost (R294). -/
def latchLost (s : State) (c : Coach) : State :=
  s.setCore { s.core c.core with latch := (s.core c.core).latch.map (fun e => match e with
    | some e => if e.owner = c.id then none else some e
    | none => none) }

end Sys2Proof.Claims

open Sys2Proof Sys2Proof.Machine Sys2Proof.Claims

/-- A trap of a class that may enter, in a launch with a trap post, whose record slot is readable with ACTIVE 0 and
writable, writes its record with ACTIVE 1, puts the trap word into the handler's X register, clears rpc and goes to the
handler; every other register, mask and the stack stay; dray commands of the coach in progress are stopped by the trap,
and requests of other coaches stand (R270, R344-R347, R378). -/
def Sys2Proof.Claims.HandlerEntry : Prop :=
  ∀ (s : State) (l : Launch) (c : Coach) (t : Trap) (site : TrapSite) (p : Post) (bs : List Byte) (s1 : State),
    s.launch? c.id.q = some l → mayEnter t.cls → t.fatal = false → trapPostOf l = some p →
    s.ctxRead (l.party (some c.core)) (recordSlot l c + 16) 8 = .ok bs → leNat bs / 2 ^ 17 % 2 = 0 →
    s.ctxWrite (l.party (some c.core)) (recordSlot l c) (recordOf s l c t site 0 1) = .ok s1 →
    ∃ (s2 : State) (d : Coach), s.takeTrap c t site = s2.setCoach d ∧ s2 = { s1 with requests := s2.requests, crews := s2.crews }
      ∧ (∀ r ∈ s1.requests, r.coach ≠ c.id → r ∈ s2.requests) ∧ s2.requests.length = s1.requests.length
      ∧ (∀ n, s2.tlSlot c n = if (s1.tlSlot c n).busy = true ∧ (s1.tlSlot c n).own = c.id.coach then
          { s1.tlSlot c n with trapped := true } else s1.tlSlot c n)
      ∧ d.x = (c.setX (if c.image = 0 then p.wst else p.gst)
          (BitVec.ofNat 64 (t.cls * 2 ^ 57 + recordSlot l c))).x
      ∧ d.pc = BitVec.ofNat 64 (l.imageBase c.image + if c.image = 0 then p.wpc else p.gpc)
      ∧ d.rpc = BitVec.allOnes 64 ∧ d.wait = .ready ∧ d.wdc = 0 ∧ d.charg = none
      ∧ d = { c with
          x := d.x, pc := d.pc, rpc := d.rpc, wait := d.wait, wdc := d.wdc, charg := d.charg, lastPost := none
          answers := [], heldAnswers := d.heldAnswers, suspended := d.suspended }

/-- Any other trap is terminal: its class has no handler, it is that of an RFT that cannot use its record slot, the
launch has no trap post, or the slot is ACTIVE. The launch ends with the class's status and a record with TERM, unless
it had already ended; a world breach of a non-secure launch shows a withheld record and leaves the full one in the
steward's log (R348, R349, R351, R352). -/
def Sys2Proof.Claims.TerminalTraps : Prop :=
  ∀ (s : State) (l : Launch) (c : Coach) (t : Trap) (site : TrapSite), s.launch? c.id.q = some l →
    (¬ mayEnter t.cls ∨ t.fatal = true ∨ trapPostOf l = none
      ∨ ∃ bs, s.ctxRead (l.party (some c.core)) (recordSlot l c + 16) 8 = .ok bs ∧ leNat bs / 2 ^ 17 % 2 = 1) →
    (t.cls ≠ 10 → t.cls ≠ 11 →
      Ended s (s.takeTrap c t site) l (if t.cls = 12 then 5 else 4) (recordOf s l c t site 1 0))
    ∧ (t.cls = 11 → t.code ≠ 1 → t.code ≠ 5 → Ended s (s.takeTrap c t site) l 7 (recordOf s l c t site 1 0))
    ∧ (t.cls = 10 → l.sec = true → Ended s (s.takeTrap c t site) l 6 (recordOf s l c t site 1 0))
    ∧ (t.cls = 10 → l.sec = false →
      Ended { s with steward := { s.steward with log := s.steward.log ++ [recordOf s l c t site 1 0] } }
        (s.takeTrap c t site) l 6 (withheldRecord s l c site.pce))

/-- TRAP n and BRK n raise SWTRAP n and DEBUG n, which resume after themselves; HALTC ends the launch with the code
x[a][15:0]; with act 0 they are skipped (R290, R344). -/
def Sys2Proof.Claims.SoftwareTrapEffects : Prop :=
  ∀ w0 s c l, let f := Fields.of32 w0
    let n := (w0.a ++ w0.d : BitVec 16).toNat
    (Issues s c l .trap f →
      (c.act f ≠ 0 → TrapsAt (.trap w0) s c f { cls := 1, code := n } (c.pc + 4))
      ∧ (c.act f = 0 → Ends (.trap w0) s s c (onward f c) .trap f))
    ∧ (Issues s c l .brk f →
      (c.act f ≠ 0 → TrapsAt (.brk w0) s c f { cls := 2, code := n } (c.pc + 4))
      ∧ (c.act f = 0 → Ends (.brk w0) s s c (onward f c) .brk f))
    ∧ (Issues s c l .haltc f →
      (c.act f ≠ 0 → TrapsAt (.haltc w0) s c f { cls := 12, code := (c.xr w0.a.toNat).toNat % 2 ^ 16 } c.pc)
      ∧ (c.act f = 0 → Ends (.haltc w0) s s c (onward f c) .haltc f))

/-- A word of LEN 0b11 is ENCODING 1 with ILEN 0, and one whose OPC names no instruction ENCODING 2, with the words in
INFO; a failed fetch is its trap; each has the lanes of the predicate in its second word, save a MACHINE trap, which has
none; each drops a CHARG prefix, and a trap of a CHRUN that completes it is raised at the CHARG. Where the word or the
fetch is good these events change nothing (R356, R364). -/
def Sys2Proof.Claims.UndecodedWords : Prop :=
  ∀ s c l, s.current = some c → s.launch? c.id.q = some l →
    (∀ w : Word, w.toNat % 4 = 3 →
      TrapsUndecoded (.wordNotAnInstruction w) s c { cls := 3, code := 1, info := w.setWidth 64 } (some w)
          (predicated c 0) 0)
    ∧ (∀ w : Word, w.toNat % 4 ≠ 3 → Op.ofCode (w.toNat / 4 % 256) = none → ∀ w1 : Word,
        (w.toNat % 4 = 0 → w1 = 0) → (w.toNat % 4 ≠ 0 → s.fetchWord l c (c.pc.toNat + 4) = .ok w1) →
        TrapsUndecoded (.wordNotAnInstruction w) s c { cls := 3, code := 2, info := w1 ++ w } (some w)
          (predicated c w1) (4 * (w.toNat % 4 + 1)))
    ∧ (∀ w : Word, w.toNat % 4 ≠ 3 → Op.ofCode (w.toNat / 4 % 256) ≠ none →
        exec (.wordNotAnInstruction w) s = .next s)
    ∧ (∀ t, s.fetch l c = .error t →
        let w := (s.fetchWord l c c.pc.toNat).toOption
        let w1 : Word := if w = none then 0 else ((s.fetchWord l c (c.pc.toNat + 4)).toOption).getD 0
        TrapsUndecoded .instructionFetchFault s c t w (if t.cls = 11 then 0 else predicated c w1) (s.fetchLen l c))
    ∧ ∀ ws, s.fetch l c = .ok ws → exec .instructionFetchFault s = .next s

/-- An ENCODING code that an instruction breaks: a format or form that it does not have, a field not at its default, a
reserved code, a value outside its space, an operand flag, a latch value, X31, a register beyond the declared counts, a
slot outside the masks (R357). -/
def breaksCode (l : Launch) (c : Coach) (o : Op) (f : Fields) (n : Nat) : Prop :=
  (n = 3 ∧ formBreach o f = true) ∨ (n = 4 ∧ defaultBreach o f = true) ∨ (n = 5 ∧ codeBreach o f = true)
    ∨ (n = 6 ∧ spaceBreach o f = true) ∨ (n = 7 ∧ flagBreach o f = true) ∨ (n = 8 ∧ latchBreach o f = true)
    ∨ (n = 9 ∧ x31Breach o f = true) ∨ (n = 10 ∧ ∃ r ∈ namedRegs o f c.width, l.declared c.image r.1 ≤ r.2)
    ∨ (n = 11 ∧ maskBreach l o f = true)

/-- What happens before the meaning of an instruction of the selected coach: one other than CHRUN after a CHARG is
OPERAND 0x010B with the CHARG's address, and drops the prefix; one whose words break ENCODING codes 0x0003 to 0x000B
takes the trap of the lowest, with word 0 and word 1 in INFO, word 1 as 0 in F32; one with a poisoned source is MACHINE
2; and one that must follow the coach's matrix instruction in flight waits for it (R81, R255, R354, R355, R357, R364,
R398). -/
def Sys2Proof.Claims.IssueChecks : Prop :=
  ∀ i o f, view i = some (o, f) → ∀ s c l, s.current = some c → s.launch? c.id.q = some l →
    (∀ p, o ≠ .chrun → c.charg = some p →
      let t := operandTrap 0x010B p.pc.toNat
      (c.grid = none → exec i s = .next (s.takeTrap { c with charg := none } t (c.site o f t)))
      ∧ (c.grid ≠ none → exec i s = .next (s.setCoach { c with wait := .ownGrid })))
    ∧ (o = .chrun ∨ c.charg = none →
      (∀ n, breaksCode l c o f n → (∀ m, m < n → ¬ breaksCode l c o f m) → ∀ w0 rest, encode i = w0 :: rest →
        Traps i s c o f { cls := 3, code := n, info := rest.headD 0 ++ w0 })
      ∧ ((∀ n, ¬ breaksCode l c o f n) →
        (s.readsPoison c o f = true → Traps i s c o f { cls := 11, code := 2 })
        ∧ (s.readsPoison c o f = false → c.gridHolds o f = true →
            exec i s = .next (s.setCoach { c with wait := .ownGrid }))))

/-- RFT reads the coach's record slot, after the coach's requests to its own package; when ACTIVE is 1, the depth is the
saved one and RESUME lies in the image, it clears ACTIVE and continues at RESUME with the saved rpc and cm, its dray
commands abandoned but for one at RESUME; otherwise it is OPERAND 0x010F; a slot that cannot be read or written is the
terminal trap of that access (R234, R270, R348). An RFT to the instruction whose wait a WATCHDOG trap interrupted goes
back to that wait, or past it with its results where what it waited for has happened (R366, R378); which waits issue
again, and which requests and answers stand, is the model's reading (log 55, log 77). -/
def Sys2Proof.Claims.ReturnFromTrap : Prop :=
  ∀ w0 s c l, let f := Fields.of32 w0
    Issues s c l .rft f → c.act f ≠ 0 →
    let p := l.party (some c.core)
    let at_ := recordSlot l c
    let slotTrap (b : Breach) : Trap := { cls := b.cls, code := b.code, addr := BitVec.ofNat 64 (b.place.getD at_)
                                          info := BitVec.ofNat 64 b.info, fatal := true }
    (s.ownWaits c = true → Waits (.rft w0) s s c c .remote .rft)
    ∧ (s.ownWaits c = false → ∀ b, s.ctxReadWith p at_ 128 = .error b → Traps (.rft w0) s c .rft f (slotTrap b))
    ∧ (s.ownWaits c = false → ∀ bs s0, s.ctxReadWith p at_ 128 = .ok (bs, s0) →
      (¬ returnable l c bs → Traps (.rft w0) s c .rft f (reconvergenceBreach c))
      ∧ (returnable l c bs → ∀ b, s0.ctxWrite p (at_ + 16) (natLe 8 (wordAt bs 16 - 2 ^ 17)) = .error b →
          Traps (.rft w0) s c .rft f (slotTrap b))
      ∧ (returnable l c bs → ∀ s1, s0.ctxWrite p (at_ + 16) (natLe 8 (wordAt bs 16 - 2 ^ 17)) = .ok s1 →
          let resume := BitVec.ofNat 64 (wordAt bs 24)
          let s2 := s1.abandon c (some resume)
          let s3 := s2.mapRequests c.id Request.forget
          let s4 := s2.mapRequests c.id (fun d => if d.held then { d with held := false } else d.forget)
          let d : Coach := { c with
            pc := resume, rpc := BitVec.ofNat 64 (wordAt bs 32), cm := BitVec.ofNat 64 (wordAt bs 40) &&& lowMask c.width
            wait := .ready, wdc := 0, lastPost := none, answers := [], heldAnswers := [], suspended := none }
          ((∀ w, c.suspended ≠ some (resume, w)) → Ends (.rft w0) s s3 c d .rft f)
          ∧ ∀ w, c.suspended = some (resume, w) → match w with
            | .ended len ws act => Ends (.rft w0) s s3 c
                { d with x := (c.setXs ws).x, pc := resume + BitVec.ofNat 64 len, cm := act.getD d.cm } .rft f
            | .migrate n => Ends (.rft w0) s s3 c { d with lastPost := some n } .rft f
            | .barrier _ _ _ _ _ | .gwait _ | .fe _ _ | .swcall _ => Ends (.rft w0) s s3 c { d with wait := w } .rft f
            | .remote => Ends (.rft w0) s s4 c
                { d with answers := c.heldAnswers, wait := if s4.awaitsData c.id then .remote else .ready } .rft f
            | .window n => Ends (.rft w0) s s3 c { d with answers := if n = 3 then c.heldAnswers else [] } .rft f
            | _ => Ends (.rft w0) s s3 c d .rft f))

/-- SWCALL n sends the steward a request with X0-X7, once earlier accesses are done, and waits; SWCALL_RETURN writes
X0-X3, or all ones to X0 for an unknown service, acquires at package scope, so that the core's time is not before any
write of the package, and lets the coach go on after the SWCALL (R290, R301). -/
def Sys2Proof.Claims.WorldCalls : Prop :=
  (∀ w0 s c l, let f := Fields.of32 w0
    Issues s c l .swcall f → c.act f ≠ 0 →
    (s.outstanding c = true → Waits (.swcall w0) s s c c .remote .swcall)
    ∧ (s.outstanding c = false → Waits (.swcall w0) s
        { s with outbox := s.outbox ++ [.service c.id (w0.a ++ w0.d) [c.xr 0, c.xr 1, c.xr 2, c.xr 3, c.xr 4, c.xr 5,
          c.xr 6, c.xr 7]] } c c (.swcall (w0.a ++ w0.d)) .swcall))
  ∧ ∀ s c n, s.coach? c.id = some c → c.wait = .swcall n → ∀ r : Option ServiceResult,
    let c1 := match r with
      | some v => (((c.setX 0 v.x0).setX 1 v.x1).setX 2 v.x2).setX 3 v.x3
      | none => c.setX 0 (BitVec.allOnes 64)
    exec (.swcallReturn c.id r) s = .next
      ((s.learn c.core (s.dies.foldl (fun t d => smax t d.last) (s.core c.core).know)).setCoach
        { c1 with wait := .ready, lastPost := none, pc := c1.pc + 4 })

/-- SSR reads BACKOFF of its core, its world and WDOG; SSW writes BACKOFF, and WDOG from the secure world; any other
number, a reserved bit, or WDOG from the non-secure world is OPERAND 0x0111 (R60, R291, R367). -/
def Sys2Proof.Claims.SecureRegisters : Prop :=
  ∀ w0 s c l, let f := Fields.of32 w0
    (Issues s c l .ssr f →
      (∀ r ∈ [(0, (s.core c.core).backoff), (1, if l.sec then 1 else 0), (2, s.wdog.setWidth 64)], w0.a.toNat = r.1 →
        Ends (.ssr w0) s s c (onward f (if c.live = 0 then c else c.setX w0.d.toNat r.2)) .ssr f)
      ∧ (3 ≤ w0.a.toNat → Traps (.ssr w0) s c .ssr f (operandTrap 0x0111 (w0.a.toNat + 2 ^ 8))))
    ∧ (Issues s c l .ssw f →
      let v := c.xr w0.a.toNat
      let legal := (w0.d = 0 ∧ v.toNat < 2 ^ 32 ∧ v.toNat / 2 ^ 10 % 4 = 0)
        ∨ (w0.d = 2 ∧ l.sec = true ∧ v.toNat < 2 ^ 32)
      (¬ legal → Traps (.ssw w0) s c .ssw f (operandTrap 0x0111 (w0.d.toNat + 2 ^ 8)))
      ∧ (legal → c.live = 0 → Ends (.ssw w0) s s c (onward f c) .ssw f)
      ∧ (legal → c.live ≠ 0 → w0.d = 0 →
          Ends (.ssw w0) s (s.setCore { s.core c.core with backoff := v }) c (onward f c) .ssw f)
      ∧ (legal → c.live ≠ 0 → w0.d = 2 → Ends (.ssw w0) s { s with wdog := v.setWidth 32 } c (onward f c) .ssw f))

/-- TLBI drops the translations of its kind, ICINV the cached instruction words of its lines or all of them, and CSTATRC
gives X[D] CSTAT and clears its named events, each after every earlier access of the coach, TLBI after host accesses and
matrix instructions in flight that use the dropped translations, and ICINV after the coach's stores are at home; TLBI of
kind 2 from the non-secure world is OPERAND 0x0112; with act 0 each goes on and does nothing (R157, R292, R293, R295).
That ICINV of everything also drops data translations, and which lines it writes back, are the model's readings (log 51,
log 73). -/
def Obligations.Invalidations : Prop :=
  ∀ s c l,
    (∀ w0, let f := Fields.of32 w0
      Issues s c l .tlbi f →
      let kind := w0.k6.toNat % 4
      let va := (c.xr w0.a.toNat).toNat % 2 ^ 57
      let users := if kind = 2 then none else some l.ctx
      let inFlight := ∃ d ∈ s.coaches, d.grid ≠ none ∧ (kind = 2 ∨ s.ctxOf d.id.q = some l.ctx)
      let hostPending := ∃ r ∈ s.requests, r.limit = none ∧ (2 ≤ kind ∨ s.ctxOf r.coach.q = some l.ctx)
      (kind = 2 → l.sec = false → Traps (.tlbi w0) s c .tlbi f (operandTrap 0x0112 0))
      ∧ (kind ≠ 2 ∨ l.sec = true → c.act f = 0 → Ends (.tlbi w0) s s c (onward f c) .tlbi f)
      ∧ (kind ≠ 2 ∨ l.sec = true → c.act f ≠ 0 →
        (s.outstanding c = true → Waits (.tlbi w0) s s c c .remote .tlbi)
        ∧ (s.outstanding c = false → hostPending → Waits (.tlbi w0) s s c c .remote .tlbi)
        ∧ (s.outstanding c = false → ¬ hostPending → inFlight → Waits (.tlbi w0) s s c c (.products users) .tlbi)
        ∧ (s.outstanding c = false → ¬ hostPending → ¬ inFlight → ∃ kept, Ends (.tlbi w0) s { s with tlb := kept } c (onward f c) .tlbi f
          ∧ ∀ t, t ∈ kept ↔ t ∈ s.tlb ∧ kind < 2 ∧ (t.ctx = l.ctx → kind = 0 ∧ t.page ≠ va / levelSize t.level))))
    ∧ (∀ i f, view i = some (.icinv, f) → Issues s c l .icinv f →
      (c.act f = 0 → Ends i s s c (onward f c) .icinv f)
      ∧ (c.act f ≠ 0 → s.outstanding c = true → Waits i s s c c .remote .icinv)
      ∧ (c.act f ≠ 0 → s.outstanding c = false → (∀ k ∈ s.servingCrews c, s.writeBackTrap k k.lines = none) →
        let s0 := s.storesHome c
        ∃ s1, Ends i s s1 c (onward f c) .icinv f
        ∧ (f.k6.getLsbD 0 = true → s1.tlb = [] ∧ s1.prefetch = [] ∧ ∀ k ∈ s1.cores, k.icache = [])
        ∧ (f.k6.getLsbD 0 = false → ∀ k, (s1.core k).icache = (s.core k).icache.filter (fun e =>
            !s0.wordInRange (l.party (some c.core)) (c.xr f.a.toNat).toNat (c.xr f.b.toNat).toNat e.1))
        ∧ (∀ p a, byteAt s1 p a = byteAt s0 p a)
        ∧ (noStash s → ∀ p a, byteAt s1 p a = byteAt s p a)))
    ∧ ∀ w0, let f := Fields.of32 w0
      Issues s c l .cstatrc f →
      (c.act f = 0 → Ends (.cstatrc w0) s s c (onward f c) .cstatrc f)
      ∧ (c.act f ≠ 0 → s.outstanding c = true → Waits (.cstatrc w0) s s c c .remote .cstatrc)
      ∧ (c.act f ≠ 0 → s.outstanding c = false → ∃ v : DWord, Ends (.cstatrc w0) s s c
          (onward f { c.setX w0.d.toNat c.cstat with cstat := v }) .cstatrc f
          ∧ ∀ n, n < 64 → v.getLsbD n = (c.cstat.getLsbD n
            && !((n = 0 && w0.k6.getLsbD 0) || (n = 1 && w0.k6.getLsbD 1) || (16 ≤ n && n < 48 && w0.k6.getLsbD 2))))

/-- LAUNCH publishes the waybill at P[A] to the queue x[b][5:0]: the bytes go to the ring's place of the publish word k,
which becomes k + 1, and X[D] is k; a full ring gives all ones, a disabled or stopped queue FFFE, a non-secure queue of
a secure coach FFFD, and a secure queue from the non-secure world is SECURITY 5 (R289, R411, R412); a publish word that
cannot be read, or a ring on a lost die, is the MACHINE trap of its access (R398, R407); with act 0 nothing is published
(R157).
That x[b] is read in bits 5:0 alone (log 27), and that this MACHINE trap is taken with ADDR 0 but for the granule of a
stash (log 90), are the model's readings. -/
def Obligations.LaunchPublishes : Prop :=
  ∀ w0 w1 s c l, let f := Fields.of64 w0 w1
    Issues s c l .launch f →
    (c.act f = 0 → Ends (.launch w0 w1) s s c (onward f c) .launch f)
    ∧ (c.act f ≠ 0 →
    let q : BitVec 6 := (c.xr w1.b.toNat).setWidth 6
    let e : Elem := { lane := 0, ptr := w0.a.toNat, p := c.pr w0.a.toNat, off := 0, size := 128, align := 256 }
    ∀ a b s1 s2, s.loadElems l (awake c) f { lanes := false } 0 false [e, { e with off := 128, align := 128 }]
        = .ok ([a, b], s1) →
      let qu := s2.queue q
      let sec := (s.queue q).secure
      let k := s2.read8 qu.qpub.toNat
      let ring := qu.qbase.toNat + 256 * (k % qu.size)
      let gives (s3 : State) (v : Nat) := Ends (.launch w0 w1) s s3 c (onward f (c.setX w0.d.toNat (BitVec.ofNat 64 v))) .launch f
      (l.sec = false → sec = true → Traps (.launch w0 w1) s c .launch f { cls := 10, code := 5 })
      ∧ (l.sec = true → sec = false → s1.outstanding c = false →
        s1.enterQueue (.coreReeve c.core) (c.id, c.pc) = some s2 → gives s2 (2 ^ 64 - 3))
      ∧ (l.sec = sec → s1.outstanding c = false →
        s1.enterQueue (.coreReeve c.core) (c.id, c.pc) = some s2 →
        (qu.enabled = false ∨ qu.err = true → gives s2 (2 ^ 64 - 2))
        ∧ (qu.enabled = true → qu.err = false → s2.queueAddrBad qu = false →
          (∀ code, s2.readHazard (.lunath qu.qpub.toNat) 8 = some code → Traps (.launch w0 w1) s c .launch f
            { cls := 11, code := code, addr := BitVec.ofNat 64 ((s2.lunathPlace qu.qpub.toNat code).getD 0) })
          ∧ (s2.readHazard (.lunath qu.qpub.toNat) 8 = none → qu.qcons.toNat + qu.size ≤ k →
              gives (s2.recall (qu.qpub.toNat / 128) true) (2 ^ 64 - 1))
          ∧ (s2.readHazard (.lunath qu.qpub.toNat) 8 = none → k < qu.qcons.toNat + qu.size →
            ∀ code, s2.writeHazard (.lunath ring) = some code →
            Traps (.launch w0 w1) s c .launch f { cls := 11, code := code })
          ∧ (s2.readHazard (.lunath qu.qpub.toNat) 8 = none → k < qu.qcons.toNat + qu.size →
            s2.writeHazard (.lunath ring) = none → ∃ s3, gives s3 k
            ∧ (noStash s2 → Memory.wf s2.mem = true →
              s3.read8 qu.qpub.toNat = (k + 1) % 2 ^ 64
              ∧ (∀ j, j < 256 → ring + j < qu.qpub.toNat ∨ qu.qpub.toNat + 8 ≤ ring + j →
                  byteAt s3 .lunath (ring + j) = BitVec.ofNat 8 ((if j < 128 then a else b) / 256 ^ (j % 128)))
              ∧ ∀ x, x < ring ∨ ring + 256 ≤ x → x < qu.qpub.toNat ∨ qu.qpub.toNat + 8 ≤ x →
                  byteAt s3 .lunath x = byteAt s2 .lunath x)))))

/-- SAVEC writes the coach's record, which goes on after it with X[D] = 1, and gives X[D] 0; RESTC loads a record and
continues at its PC without its latch entries. A stack beyond 16, a pointer of another class or format, a LEN below the
record, and a bad record are OPERAND 0x0114 with 1, 2, 3 and 4, a pointer that breaks R87 being left to its access checks
(R84, R85, R294, R354, R368). What a record of another image or of other counts leaves in the registers, which R368 calls
undefined, is the model's choice (log 88). -/
def Obligations.SaveAndRestore : Prop :=
  ∀ w0 s c l, let f := Fields.of32 w0
    let p := c.pr w0.a.toNat
    let need (o : Op) (i : Instr) (n : Nat) : Prop :=
      (16 < c.depth → Traps i s c o f (recordBreach 1))
      ∧ (ptrWellFormed l.scopeMax p = true → c.depth ≤ 16 → ¬ recordPointer p → Traps i s c o f (recordBreach 2))
      ∧ (ptrWellFormed l.scopeMax p = true → c.depth ≤ 16 → recordPointer p → ptrLen p < n →
          Traps i s c o f (recordBreach 3))
    (Issues s c l .savec f →
      let r := savedRecord s c w0.d.toNat
      need .savec (.savec w0) r.length
      ∧ (c.depth ≤ 16 → recordPointer p → r.length ≤ ptrLen p → c.act f ≠ 0 → s.coachPoisoned c.id = false →
          ∀ s1, s.writeRange l (awake c) w0.a.toNat r = .ok s1 →
          Ends (.savec w0) s s1 c (onward f { c.setX w0.d.toNat 0 with wdc := 0 }) .savec f))
    ∧ (Issues s c l .restc f →
      need .restc (.restc w0) 832
      ∧ (c.depth ≤ 16 → recordPointer p → 832 ≤ ptrLen p → c.act f ≠ 0 → ∀ head s1,
          s.readRange l (awake c) f w0.a.toNat 832 = .ok (head, s1) →
          let size := recordBodySize c.x.length c.p.length c.str.length c.width (recordTags head c.v.length)
          let bad := countBad head = true ∨ headBad head = true ∨ tagBad head = true
          (ptrWellFormed l.scopeMax p = true → ptrLen p < size + 2336 → Traps (.restc w0) s c .restc f (recordBreach 3))
          ∧ (size + 2336 ≤ ptrLen p → bad → Traps (.restc w0) s c .restc f (recordBreach 4))
          ∧ (size + 2336 ≤ ptrLen p → ¬ bad → ∀ bs s2, s.readRange l (awake c) f w0.a.toNat size = .ok (bs, s2) →
              Ends (.restc w0) s (latchLost s2 c) c ((awake c).loadRecord bs) .restc f)))

/-- A coach loaded from its own record has its registers, tags, masks, modes, PC and on-chip stack again, and no origin
records (R84, R85, R294). -/
def Obligations.RecordRoundTrip : Prop :=
  ∀ c d : Coach, recordable c → d.width = c.width → d.x.length = c.x.length → d.v.length = c.v.length →
    d.p.length = c.p.length → d.str.length = c.str.length → c.p.length ≤ 128 → c.str.length ≤ 64 →
    d.loadRecord c.recordBody = { d with
      pc := c.pc, mode := c.mode, cstat := c.cstat, mxs := c.mxs, cm := c.cm, ex := c.ex, rpc := c.rpc, al := c.al
      stack := c.stack, depth := c.stack.length, m := c.m, x := c.x, p := c.p, str := c.str, v := c.v
      lor := [none, none, none] }

namespace Sys2Proof.Claims

open Sys2Proof Sys2Proof.Machine

/-! ### The host, the scheduler and the senders (R38, R44-R64, R113, R321, R322, R350, R374-R384) -/

/-- The package runs: it has power and its firmware has been accepted (R325). -/
def up (s : State) : Prop := s.powered = true ∧ s.booted = true

/-- The event answers `t`. -/
def Answers (i : Instr) (s t : State) : Prop := exec i s = .next t

/-- The event leaves the state as it is. -/
def Idle (i : Instr) (s : State) : Prop := exec i s = .next s

/-- No byte of Lunath or of a local store differs. -/
def sameBytes (s t : State) : Prop := ∀ p a, byteAt t p a = byteAt s p a

/-- From `s` to `t` exactly the bytes of `data` at Lunath address `a` are written. -/
def wrote (s t : State) (a : Nat) (data : List Byte) : Prop :=
  (∀ j, j < data.length → byteAt t .lunath (a + j) = data.getD j 0)
    ∧ (∀ b, b < a ∨ a + data.length ≤ b → byteAt t .lunath b = byteAt s .lunath b)
    ∧ ∀ k b, byteAt t (.store k) b = byteAt s (.store k) b

/-- A launch with no gang to place or resume may be given runs again only while it runs, is not pre-empted and has not
ended. -/
def open_ (l : Launch) : Prop := l.phase = .running ∧ l.terminal = none ∧ l.preempting = false

/-- The completion word (R48). -/
def completion (l : Launch) (status : Nat) : Nat := l.seq * 2 ^ 32 + l.stepsDone % 2 ^ 16 * 2 ^ 16 + status % 2 ^ 8

/-- The launch is over: it is gone, its interrupt has been raised if it asks for one (R48). -/
def launchOver (t : State) (l : Launch) : Prop :=
  t.launch? l.q = none ∧ (l.irqe = true → bit t.window.irqstat l.irqv = true ∧ .msix l.irqv ∈ t.outbox)

/-- Nothing is left of a gang on the cores. -/
def gone (t : State) (q : BitVec 6) (gang : Nat) : Prop :=
  (∀ c ∈ t.coaches, ¬ (c.id.q = q ∧ c.id.gang = gang)) ∧ ∀ k ∈ t.crews, ¬ (k.q = q ∧ k.gang = gang)

/-- A trap of a gang in the name of its coach, between two of its instructions (R347, R364, R370, R383, R384). -/
def GangTraps (i : Instr) (s s1 : State) (l : Launch) (c : Coach) (t : Trap) : Prop :=
  Answers i s (s1.takeTrap c t (betweenInstructions s1 l c))

/-- The delay after the k-th NACK in a row: BASE × 2^min(k − 1, EXP), at most CAP, in reference cycles (R60). -/
def nackDelay (v : DWord) (k : Nat) : Nat :=
  let base := max 1 (v.toNat % 2 ^ 10)
  let cap := if v.toNat / 2 ^ 16 % 2 ^ 16 = 0 then base else v.toNat / 2 ^ 16 % 2 ^ 16
  min (base * 2 ^ min (k - 1) (v.toNat / 2 ^ 12 % 2 ^ 4)) cap

/-- The sender after a NACK of its oldest entry, with `es` to send: the back-off of R60 begins (R59, R60, R374). -/
def backsOff (s : State) (k : Sender) (v : DWord) (es : List (Option (CoachId × DWord))) : Sender :=
  { k with
    entries := es, nacks := k.nacks + 1, since := if k.nacks = 0 then s.time.toNat else k.since
    backoff := some (s.cycles + nackDelay v (k.nacks + 1)) }

/-- The port that carries a packet's plane (R316). -/
def portFor (s : State) (p : Packet) : BitVec 4 := s.steward.planes.getD (p.line.toNat % 16) 0

/-- A link does not retrain, so that it carries something (R404). -/
def linkOpen (s : State) (id : LinkId) : Prop := ∀ k ∈ s.links, k.retraining = true → k.id ≠ id

/-- A port is up (R403). -/
def portUp (s : State) (port : BitVec 4) : Prop := s.steward.portsDown.getLsbD port.toNat = false

/-- The window of a die or of a port has a place (R59). -/
def windowOpen (s : State) (id : SenderId) : Prop := (s.sender id).entries.length < Config.windowSize

/-- A packet may go on from the window of a die, over its link, into that of its plane's port; or from that of a port,
over the port's link, to the switch (R59, R316, R403, R404). -/
def mayPass (s : State) (id : SenderId) (p : Packet) : Prop :=
  match id with
  | .dieFabric d => linkOpen s (.die d) ∧ portUp s (portFor s p) ∧ windowOpen s (.port (portFor s p))
  | .port port => linkOpen s (.port port) ∧ portUp s port
  | _ => False

/-- A packet of a window is not sent any more: its deadline has passed, and it is a request or its port is down (R318,
R403). -/
def late (s : State) (p : Packet) : Prop :=
  2 ^ 15 ≤ (p.dl - s.time.setWidth 16).toNat ∧ (p.op.toNat < 3 ∨ ¬ portUp s (portFor s p))

/-- The back-off register of a sender: its core's, or FBACKOFF (R60). -/
def governs (s : State) (id : SenderId) : DWord :=
  match id with
  | .coachMemory c | .drayNetwork c | .coreReeve c => (s.core c).backoff
  | .dieFabric _ | .port _ => s.window.fbackoff

/-- A host request lies in Lunath, in no secure region, on healthy dies (R320, R407, R412). -/
def reachable (s : State) (a n : Nat) : Prop :=
  a + n ≤ 2 ^ 40 ∧ ∀ l, a / 128 ≤ l → 128 * l < a + n →
    s.secureAddr (128 * l) = false ∧ s.dieLost (homeDie (128 * l)) = false
      ∧ Poison.line l ∉ s.poison ∧ Poison.tags (homeDie (128 * l)) ∉ s.poison

/-- An entry with a packet joins the window of a die or of a port. -/
def joins (s t : State) (id : SenderId) (owner : Option (CoachId × DWord)) (p : Packet) : Prop :=
  t.sender id = { s.sender id with
    entries := (s.sender id).entries ++ [owner], packets := (s.sender id).packets ++ [p] }

end Sys2Proof.Claims

open Sys2Proof Sys2Proof.Machine Sys2Proof.Claims

/-- Host writes while the package runs: PUBLISH stores the publish word, where the aperture reaches it and the host may
write it, which the watch list takes in and stops the queue at when it decreases or runs past the ring; QCFG takes its
field bits, of which QWORLD stands while a launch of the queue runs, and a queue newly enabled starts with QCONS 0;
QBASE and QPUB take their 57 bits; QSTAT clears ERR and reads as ERR and RUN; the named registers of the window and the
mailbox take their bits; IRQSTAT is cleared by ones (R49, R50, R52, R320, R321, R324).
That writes to a secure queue's registers are ignored (log 26), that a write of QPUB leaves the count seen as it is (log
88), and that reserved-zero bits are dropped (log 93), are the model's choices; what a publish word that cannot be read
does is not claimed (log 90). -/
def Obligations.HostWrites : Prop :=
  ∀ (s : State) (q : BitVec 6) (v : DWord), up s → let u := s.queue q
    (noStash s → Memory.wf s.mem = true → s.queueAddrBad u = false → s.hostReaches u.qpub.toNat 8 = true →
      reachable s u.qpub.toNat 8 → (∀ j, j < 8 → s.tdiesAt (u.qpub.toNat + j) = none) →
      ∃ t, Answers (.publish q v) s t ∧ wrote s t u.qpub.toNat (natLe 8 v.toNat)
        ∧ (u.enabled = true → (t.queue q).seen = v
          ∧ ((t.queue q).err = true ↔ u.err = true ∨ v.toNat < u.seen.toNat ∨ u.qcons.toNat + u.size < v.toNat)))
    ∧ (u.secure = true → Idle (.qcfgWrite q v) s ∧ Idle (.qstatWrite q v) s
      ∧ ∀ n ∈ [0x00, 0x10], Idle (.configRegisterWrite (BitVec.ofNat 24 (0x10000 + 0x40 * q.toNat + n)) v) s)
    ∧ (u.secure = false → q.toNat < s.queues.length →
      (let cfg := if (s.launch? q).isSome then (v &&& 0x17F) ||| (u.qcfg &&& 0x80) else v &&& 0x1FF;
        ∃ t, Answers (.qcfgWrite q v) s t ∧ (t.queue q).qcfg = cfg ∧ (∀ r, r ≠ q → t.queue r = s.queue r)
        ∧ (v.getLsbD 8 = false ∨ u.enabled = true → t.queue q = { u with qcfg := cfg })
        ∧ (v.getLsbD 8 = true → u.enabled = false →
            (t.queue q).qcons = 0 ∧ (t.queue q).seen = BitVec.ofNat 64 (s.read8 u.qpub.toNat)))
      ∧ (let at_ (n : Nat) : BitVec 24 := BitVec.ofNat 24 (0x10000 + 0x40 * q.toNat + n)
        Answers (.configRegisterWrite (at_ 0x00) v) s (s.setQueue q { u with qbase := v &&& 0x01FFFFFFFFFFFFFF })
        ∧ Answers (.configRegisterWrite (at_ 0x10) v) s (s.setQueue q { u with qpub := v &&& 0x01FFFFFFFFFFFFFF })
        ∧ ∀ n ∈ [0x08, 0x18, 0x20, 0x28, 0x30, 0x38], Idle (.configRegisterWrite (at_ n) v) s)
      ∧ (v.getLsbD 0 = false → Idle (.qstatWrite q v) s)
      ∧ (v.getLsbD 0 = true → ∃ t, Answers (.qstatWrite q v) s t
        ∧ (t.queue q).seen = BitVec.ofNat 64 (s.read8 u.qpub.toNat)
        ∧ (s.queueAddrBad u = false → s.wordReadable u.qpub.toNat = true → ((t.queue q).err = true ↔ u.enabled = true ∧
            (s.read8 u.qpub.toNat < u.qcons.toNat ∨ u.qcons.toNat + u.size < s.read8 u.qpub.toNat)))))
    ∧ s.windowReg (0x10000 + 0x40 * q.toNat + 0x20)
        = BitVec.ofNat 64 ((if u.err then 1 else 0) + if (s.launch? q).isSome then 2 else 0)
    ∧ (let w := s.window;
      (∀ n, n < 512 → Answers (.configRegisterWrite (BitVec.ofNat 24 (0x40000 + 8 * n)) v) s
          { s with window := { w with mailbox := putCells w.mailbox (8 * n) (natLe 8 v.toNat) } })
      ∧ (∀ r ∈ [(0x10, { w with fbackoff := v &&& 0xFFFFF3FF }), (0x18, { w with ftmo := v &&& 0x3FFF }),
          (0x20, { w with ctxbase := v &&& 0x000FFFFFFFFFC001 }), (0x40, { w with apbase := v &&& 0xF })],
        Answers (.configRegisterWrite (BitVec.ofNat 24 r.1) v) s { s with window := r.2 })
      ∧ (∀ n, n < 64 → Answers (.configRegisterWrite (BitVec.ofNat 24 (0x11000 + 8 * n)) v) s
          { s with window := { w with qctx := w.qctx.set n (v.setWidth 8) } })
      ∧ (∀ off : BitVec 24, off.toNat ∈ [0x00, 0x08, 0x28, 0x30, 0x38] ∨ ¬ 8 ∣ off.toNat →
          Idle (.configRegisterWrite off v) s)
      ∧ Answers (.irqstatWrite v) s { s with window := { w with irqstat := w.irqstat &&& ~~~v } })

/-- The scheduler takes a queue's next waybill, advances QCONS and makes it a launch, or rejects it with a completion
word, or stops the queue where it cannot read the waybill; a taken launch starts with its die set when enough dies are
healthy; a gang is placed on a free run with every coach at its entry point; the next kernel is prefetched once without
any change of memory, when its waybill was published before the last step began to be placed (R44, R47, R51, R55-R57). -/
def Sys2Proof.Claims.LaunchesBegin : Prop :=
  ∀ (s : State) (q : BitVec 6), let u := s.queue q
    (s.mayTake q = false → Idle (.takeWaybill q) s)
    ∧ (s.mayTake q = true → s.ringReadable (u.qbase.toNat + 256 * (u.qcons.toNat % u.size)) = false → q.toNat < s.queues.length →
      ∃ t, Answers (.takeWaybill q) s t ∧ t.queue q = { u with err := true } ∧ t.launches = s.launches ∧ sameBytes s t)
    ∧ (s.mayTake q = true → s.ringReadable (u.qbase.toNat + 256 * (u.qcons.toNat % u.size)) = true → noStash s →
      let ws := wordsOf (Memory.readBytes s.mem (u.qbase.toNat + 256 * (u.qcons.toNat % u.size)) 256)
      let s1 := s.setQueue q { u with qcons := u.qcons + 1 }
      let l := s1.newLaunch q ws
      (∀ l1, s1.checkLaunch l = .ok l1 → s1.tooLarge l1 = false → Answers (.takeWaybill q) s (s1.setLaunch l1))
      ∧ (∀ l1, s1.checkLaunch l = .ok l1 → s1.tooLarge l1 = true → Answers (.takeWaybill q) s (s1.complete l1 3))
      ∧ ∀ n, s1.checkLaunch l = .error n → Answers (.takeWaybill q) s (s1.complete l n))
    ∧ ∀ l, s.launch? q = some l →
      (let may := l.phase = .taken ∧ l.terminal = none ∧ l.minDie ≤ s.healthy.length;
        (¬ may → Idle (.launchStart q) s)
        ∧ (may → s.poison = [] → ∃ t d, Answers (.launchStart q) s t
          ∧ t.launch? q = some { l with phase := .running, dies := d, waitSince := s.time.toNat }
          ∧ (∀ n, n < 8 → d.getLsbD n = true → s.steward.healthyDies.getLsbD n = true)
          ∧ ((List.range 8).filter d.getLsbD).length = min l.maxDie s.healthy.length))
      ∧ (∀ gang, gang ≠ l.nextGang ∨ s.placement l = none → Idle (.placeGang q gang) s)
      ∧ (∀ r, s.placement l = some r → ∃ t, Answers (.placeGang q l.nextGang) s t
          ∧ t.launch? q = some { l with
              nextGang := l.nextGang + 1
              nextReady := if l.nextGang = 0 then decide (u.enabled = true ∧ u.err = false ∧ u.qcons.toNat < u.seen.toNat)
                else l.nextReady
              lastCluster := some (r.die.toNat * 6 + r.cluster.toNat), claim := none }
          ∧ (∃ g, t.gang? q l.nextGang = some g ∧ g.run = r ∧ g.status = .resident ∧ g.parity = 0 ∧ g.step = l.step)
          ∧ ∀ crew coach, crew < l.crewCount → coach < l.coachCount →
              let id : CoachId := ⟨q, l.nextGang, crew, coach⟩
              let core : CoreId := ⟨r.die, r.cluster, BitVec.ofNat 5 (r.first + crew)⟩
              t.coach? id = some (l.newCoach id core s.cycles)
                ∧ (l.newCoach id core s.cycles).pc = BitVec.ofNat 64
                    (l.imageBase (if 28 ≤ core.pos.toNat then 1 else 0) + l.entry (if 28 ≤ core.pos.toNat then 1 else 0)))
      ∧ (l.nextReady = false ∨ l.prefetched = true ∨ l.nextGang = 0 ∨ l.step + 1 < l.steps → Idle (.kernelPrefetch q) s)
      ∧ (s.prefetchDue l = false → Idle (.kernelPrefetch q) s)
      ∧ (s.prefetchDue l = true → noStash s → ∃ t, Answers (.kernelPrefetch q) s t
          ∧ t.launch? q = some { l with prefetched := true } ∧ sameBytes s t)

/-- When every gang of a step has retired the next step begins, on dies chosen anew where it is marked, or the launch is
due to end; an ended launch with no access left to perform is gone after its completion word, before which every private
write of the package reaches its home, or its queue stops when the word cannot be written, but a launch that this
write-back itself ends is left to be discarded; a terminal event drops every
gang of the launch and leaves its record and its status (R38, R48, R56, R350, R351). -/
def Sys2Proof.Claims.LaunchesEnd : Prop :=
  ∀ (s : State) (q : BitVec 6) (l : Launch), s.launch? q = some l →
    (let over_ := l.phase = .running ∧ l.terminal = none ∧ l.gangCount ≤ l.nextGang ∧ (∀ g ∈ s.gangs, g.q ≠ q);
      (¬ over_ → Idle (.stepRetire q) s)
      ∧ (over_ → s.poison = [] → ∃ t d, Answers (.stepRetire q) s t
        ∧ (l.step + 1 < l.steps → t.launch? q = some { l with
            stepsDone := l.stepsDone + 1, claim := none, step := l.step + 1, nextGang := 0, dies := d
            waitSince := s.time.toNat })
        ∧ (l.step + 1 < l.steps → bit (l.waybill.getD 4 0) (l.step + 1) = false → d = l.dies)
        ∧ (l.steps ≤ l.step + 1 → t.launch? q = some { l with
            stepsDone := l.stepsDone + 1, claim := none, phase := .ending }
          ∧ ((∀ k ∈ s.crews, k.lines = []) → sameBytes s t))))
    ∧ (l.phase ≠ .ending ∨ l.terminal ≠ none ∨ (∃ r ∈ s.requests, r.coach.q = q) → Idle (.completionWordWrite q) s)
    ∧ (l.phase = .ending → l.terminal = none → (∀ r ∈ s.requests, r.coach.q ≠ q) →
        let s0 := s.writeBackAll
        (∀ m, s0.launch? q = some m → m.terminal ≠ none → Answers (.completionWordWrite q) s s0)
        ∧ ((∀ m, s0.launch? q = some m → m.terminal = none) → ∃ t, Answers (.completionWordWrite q) s t ∧ launchOver t l
        ∧ (8 ∣ l.done → ∀ s1, s0.ctxWrite (l.party none) l.done (natLe 8 (completion l 0)) = .ok s1 → sameBytes s1 t)
        ∧ (∀ b, s0.ctxWrite (l.party none) l.done (natLe 8 (completion l 0)) = .error b → sameBytes s0 t
            ∧ (q.toNat < s.queues.length → (t.queue q).err = true))))
    ∧ (l.terminal = none → Idle (.launchDiscard q) s)
    ∧ ∀ e, l.terminal = some e → ∃ t, Answers (.launchDiscard q) s t ∧ launchOver t l ∧ (∀ g ∈ t.gangs, g.q ≠ q)
        ∧ (∀ g ∈ s.gangs, g.q = q → gone t q g.index)
        ∧ ∀ r s1 s2, e.record = some r → (s.dropGangs q).ctxWrite (l.party none) l.fa r = .ok s1 → 8 ∣ l.done →
            s1.writeBackAll.ctxWrite (l.party none) l.done (natLe 8 (completion l e.status)) = .ok s2 → sameBytes s2 t

/-- A write of PREEMPT with GO stops the gangs of its queue and is done when none of them runs; a clearing for a waiting
gang stops the gangs it chose and claims their cluster; a stopped gang that has drained is saved and freed, or ends its
launch when its slot cannot be written (R54, R62, R63, R322, R383). -/
def Sys2Proof.Claims.GangsStop : Prop :=
  ∀ (s : State) (q : BitVec 6),
    (∀ v : DWord, s.booted = true → v.getLsbD 8 = true → s.window.preemptGo = false →
      let n : BitVec 6 := v.setWidth 6
      ∃ t, Answers (.preemptRequest v) s t ∧ t.window.preemptQ = n
        ∧ t.gangs = s.gangs.map (fun g => if g.status = .resident ∧ g.q = n then { g with status := .stopping } else g)
        ∧ (t.window.preemptDone = true ↔ ∀ g ∈ s.gangs, g.q = n → g.status = .saved)
        ∧ (t.window.preemptGo = true ↔ t.window.preemptDone = false))
    ∧ ∀ l, s.launch? q = some l →
      (∀ gang n, (s.waiting l).find? (fun n => n.gang == gang) = some n →
        (s.priorityClearing l n = none → Idle (.preemptPriority q gang) s)
        ∧ (∀ cl gs, s.priorityClearing l n = some (cl, gs) → ∃ t, Answers (.preemptPriority q gang) s t
          ∧ t.launch? q = some { l with claim := some cl }
          ∧ t.gangs = s.gangs.map (fun g =>
              if g.status = .resident ∧ (∃ h ∈ gs, h.q = g.q ∧ h.index = g.index) then { g with status := .stopping } else g)))
      ∧ ∀ gang g c, s.gang? q gang = some g → s.gangCoach q gang = some c →
        (g.status ≠ .stopping ∨ l.terminal ≠ none ∨ s.gangDrained q gang = false → Idle (.preemptSave q gang) s)
        ∧ (g.status = .stopping → l.terminal = none → s.gangDrained q gang = true →
          (∀ e, s.saveTrap q gang = some e → GangTraps (.preemptSave q gang) s s l c e)
          ∧ (s.saveTrap q gang = none → let s1 := (s.returnStash q gang).writeBackDie g.run.die
            (∀ b a, s1.writeFails (l.party none) (l.saveAt gang) (l.crewAt l.crewCount) = some (b, a) → b.cls = 6 →
                GangTraps (.preemptSave q gang) s s1 l c { cls := 7, code := 6, addr := BitVec.ofNat 64 a })
            ∧ (s1.writeFails (l.party none) (l.saveAt gang) (l.crewAt l.crewCount) = none →
                ∃ t h, Answers (.preemptSave q gang) s t ∧ gone t q gang ∧ t.gang? q gang = some h ∧ h.status = .saved
                  ∧ h.run = g.run ∧ h.parity = g.parity
                  ∧ h.side.map (·.coach.id) = (s1.coachesOf q gang).map (·.id))))

/-- A saved gang with a free run resumes on it with the parities of its slot and each coach with the registers of its
record, at the post where its run is of the other type, or ends its launch with EXEC 5 and the reason; what software
changed in the slot comes back undefined; a migration is granted by reserving a run of the other type and stopping the
gang, or declined with its status in each waiting coach (R64, R113, R114, R382, R384). -/
def Sys2Proof.Claims.GangsMove : Prop :=
  ∀ (s : State) (q : BitVec 6) (gang : Nat) (l : Launch) (g : Gang), s.launch? q = some l → s.gang? q gang = some g →
    (s.resumption l g = none → Idle (.gangResume q gang) s)
    ∧ (∀ r c, s.resumption l g = some r → g.sideCoach = some c →
      let p := l.party none
      let readable := l.slotParts.findSome? (fun q => s.readFails p (l.saveAt gang + q.1) q.2) = none
      let head := s.slotBytes p (l.saveAt gang) 2048
      let record (id : CoachId) := s.slotBytes p (l.saveAt gang + l.recordAt id.crew id.coach) l.crMax
      let reason := l.slotReason g head (g.side.map (fun d => (l.recordAt d.coach.id.crew d.coach.id.coach, record d.coach.id)))
      (readable → ∀ a n, reason = some (a, n) → GangTraps (.gangResume q gang) s s l c
        { cls := 7, code := 5, addr := BitVec.ofNat 64 a, info := BitVec.ofNat 64 n })
      ∧ (readable → reason = none → (g.side.map (·.coach.id)).Nodup → ∃ t, Answers (.gangResume q gang) s t
        ∧ t.gang? q gang = some { g with
            run := r, placedAt := s.fresh, status := .resident, reserved := none, side := [], image := []
            atPost := false, parity := parityFrom (g.slotBytes 0 head) }
        ∧ ∀ d ∈ g.side, let core : CoreId := ⟨r.die, r.cluster, BitVec.ofNat 5 (r.first + d.coach.id.crew)⟩
            ∃ e, t.coach? d.coach.id = some e ∧ e.core = core ∧ e.wdc = 0
              ∧ let f := d.coach.fromSlot (g.slotBytes (l.recordAt d.coach.id.crew d.coach.id.coach) (record d.coach.id))
                (imageFor core = d.coach.image →
                  e.pc = f.pc ∧ e.x = f.x ∧ e.v = f.v ∧ e.p = f.p ∧ e.str = f.str ∧ e.m = f.m ∧ e.cm = f.cm ∧ e.ex = f.ex
                    ∧ e.stack = f.stack ∧ e.depth = f.depth ∧ e.mode = f.mode)
                ∧ (imageFor core ≠ d.coach.image → ∀ n p, d.coach.postAt l = some n →
                  l.posts.find? (fun p => p.id == n) = some p → let i := imageFor core
                  e.image = i ∧ e.pc = BitVec.ofNat 64 (l.imageBase i + (if i = 0 then p.wpc else p.gpc))
                    ∧ e.stack = [] ∧ e.depth = 0 ∧ e.mxs = 0 ∧ e.cm = f.cm ∧ e.ex = f.ex ∧ e.mode = f.mode)))
    ∧ ∀ ws, s.migrating q gang = some ws →
      (g.status ≠ .resident ∨ l.terminal ≠ none → Idle (.migrateDecision q gang) s)
      ∧ (g.status = .resident → l.terminal = none → (s.coaches.map (·.id)).Nodup →
        (∀ r, s.migrateAnswer l g ws = .ok r → ∃ t, Answers (.migrateDecision q gang) s t
          ∧ t.gang? q gang = some { g with status := .stopping, reserved := some r } ∧ sameBytes s t)
        ∧ (∀ n, s.migrateAnswer l g ws = .error n → ∃ t, Answers (.migrateDecision q gang) s t ∧ sameBytes s t
          ∧ t.gang? q gang = some g
          ∧ ∀ w ∈ ws, ∀ p, l.posts.find? (fun p => p.id == w.2) = some p → ∃ d, t.coach? w.1.id = some d
              ∧ d.wait = .ready ∧ d.pc = w.1.pc + 4 ∧ d.wdc = 0
              ∧ d.x = (w.1.setX (if w.1.image = 0 then p.wst else p.gst) (BitVec.ofNat 64 n)).x))

/-- An accepted entry leaves its sender's window and wakes the coaches that waited on it; a packet goes from its die's
window into that of its plane's port, and from there to the switch; one past its deadline is not sent and its request
times out; a NACK, as of every entry whose way a retraining link closes, starts a back-off of R60's length, after whose
end the sender sends again; NACKs that last the replay limit are EXEC 3 in the coach that owns the entry; a coach whose
WDC has reached the limit takes a WATCHDOG trap at its wait, with the code of its wait where this is one of those named
(R59, R60, R316, R318, R374-R377, R404). The moment at which a watchdog trap is taken, what becomes of a packet whose
way is closed or whose deadline has passed, and that the receipt or NACK of a core's entry changes no byte, the access
having taken effect at its issue, are the model's readings (log 14, log 46, log 77, log 79). -/
def Obligations.SendersAndWatchdog : Prop :=
  ∀ (s : State) (id : SenderId), let k := s.sender id
    (up s → k.backoff = none → (∀ d, id ≠ .dieFabric d) → (∀ p, id ≠ .port p) →
      let reaches := ∀ c, id = .coreReeve c → linkOpen s (.die c.die)
      (∀ e rest, k.entries = e :: rest →
        (reaches → ∃ t, Answers (.entryReceive id true) s t ∧ t.sender id = { k with entries := rest, nacks := 0 }
          ∧ (∀ c ∈ t.coaches, ∀ join, c.wait = .window join → joinSender c.core join ≠ id) ∧ sameBytes s t)
        ∧ (¬ reaches → ∃ t, Answers (.entryReceive id true) s t ∧ sameBytes s t
          ∧ t.sender id = backsOff s k (governs s id) k.entries)
        ∧ ∃ t, Answers (.entryReceive id false) s t ∧ sameBytes s t
          ∧ t.sender id = backsOff s k (governs s id) k.entries)
      ∧ (k.entries = [] → (reaches → Idle (.entryReceive id true) s)
        ∧ (k.last = none → Idle (.entryReceive id false) s)
        ∧ ∀ o, k.last = some o → ∃ t, Answers (.entryReceive id false) s t ∧ sameBytes s t
            ∧ t.sender id = backsOff s k (governs s id) [some o]))
    ∧ (up s → k.backoff = none → (∃ d, id = .dieFabric d) ∨ (∃ port, id = .port port) → ∀ p rest, k.packets = p :: rest →
      let sent : Sender := { k with entries := k.entries.tail, packets := rest, nacks := 0 }
      (late s p → ∀ ok, ∃ t, Answers (.entryReceive id ok) s t ∧ sameBytes s t ∧ t.sender id = sent ∧ t.outbox = s.outbox
        ∧ (2 < p.op.toNat → t.requests = s.requests)
        ∧ ∀ r, p.op.toNat ≤ 2 → s.requests.find? (fun r => r.tag == p.tag.toNat && r.limit.isSome) = some r →
          t.requests = s.requests.erase r
          ∧ ∀ c, s.coach? r.coach = some c → ∃ d, t.coach? c.id = some d ∧ d.cstat = c.cstat ||| 1)
      ∧ (¬ late s p → mayPass s id p → ∃ t, Answers (.entryReceive id true) s t ∧ sameBytes s t ∧ t.sender id = sent
        ∧ (∀ d, id = .dieFabric d → t.outbox = s.outbox
            ∧ joins s t (.port (portFor s p)) (k.entries.head?.getD none) p)
        ∧ ∀ port, id = .port port → t.outbox = s.outbox ++ [.packet port.toNat p])
      ∧ (¬ late s p → ∀ ok, ok = false ∨ ¬ mayPass s id p → ∃ t, Answers (.entryReceive id ok) s t ∧ sameBytes s t
        ∧ t.sender id = backsOff s k (governs s id) k.entries ∧ t.outbox = s.outbox))
    ∧ (∀ n, k.backoff = some n →
      (n ≤ s.cycles → ∃ t, Answers (.backoffExpiry id) s t ∧ t.sender id = { k with backoff := none } ∧ sameBytes s t)
      ∧ (s.cycles < n → Idle (.backoffExpiry id) s))
    ∧ (k.nacks = 0 ∨ s.time.toNat < k.since + Config.replayLimit → Idle (.replayLimitExhaustion id) s)
    ∧ (∀ c l pc rest join, k.entries = some (c.id, pc) :: rest → senderJoin k.id = some join → 0 < k.nacks →
        k.since + Config.replayLimit ≤ s.time.toNat → s.coach? c.id = some c → s.launch? c.id.q = some l →
        l.terminal = none → Answers (.replayLimitExhaustion id) s (s.takeTrap c
          { cls := 7, code := 3, info := BitVec.ofNat 64 join }
          { pce := pc, resume := pc, act := 0, ilen := s.fetchLen l { c with pc := pc } }))
    ∧ ∀ c l, s.coach? c.id = some c → s.launch? c.id.q = some l →
      (s.watchdogDue c = false → Idle (.watchdogExpiry c.id) s)
      ∧ (s.watchdogDue c = true → ∃ t : Trap, t.cls = 8 ∧ GangTraps (.watchdogExpiry c.id) s s l c t
        ∧ (∀ f n, c.wait = .waitv f n → t = { cls := 8, code := 5, addr := BitVec.ofNat 64 (ptrBase (c.pr f.a.toNat)) })
        ∧ (∀ n, c.wait = .migrate n → t = { cls := 8, code := 6, info := BitVec.ofNat 64 n.toNat })
        ∧ (∀ n, c.wait = .window n → t = { cls := 8, code := 8, info := BitVec.ofNat 64 n })
        ∧ (∀ n o, c.wait = .tlSlot n o → t = { cls := 8, code := 7, info := BitVec.ofNat 64 (n % 16 + o % 16 * 16) })
        ∧ (∀ b, c.wait = .engine b → t = { cls := 8, code := 9 })
        ∧ (∀ n, c.wait = .swcall n → t = { cls := 8, code := 10, info := BitVec.ofNat 64 n.toNat })
        ∧ (c.wait = .ready ∨ c.wait = .remote → t = { cls := 8, code := 1 }))

namespace Sys2Proof.Claims

open Sys2Proof Sys2Proof.Machine

/-! ### Other packages, the host's memory, the steward and time (R5, R307, R314-R327, R353, R395-R412) -/

/-- The response to a request of a peer: back to its source (R315, R318). -/
def replied (s : State) (p : Packet) (op : BitVec 4) (data : List Byte) : Packet :=
  { p with dst := p.src, src := s.window.pkgno, op := op, data := data }

/-- A port takes an entry where there is room for it and the port has NACKed nothing that must come again before it;
else it NACKs it, and the first entry that it has NACKed must come before any other (R59, R316). -/
def accepted (s : State) (port : BitVec 4) (e : Instr) (room : Prop) : Prop :=
  room ∧ ∀ r, s.refusedAt port = some r → r = e
def Nacked (e : Instr) (s : State) (port : BitVec 4) : Prop :=
  exec e s = .next { s with
    refused := (port, (s.refusedAt port).getD e) :: s.refused.filter (fun r => r.1 != port)
    outbox := s.outbox ++ [Emission.nack port.toNat] }

/-- There is room for a peer's request at a line: the links of its port and of the line's die carry it, and the window of
the response has a place; for one that is dropped, only the port counts (R59, R404; log 79). -/
def hasRoom (s : State) (p : Packet) (line : Option Nat) : Prop :=
  linkOpen s (.port (portFor s p)) ∧ match line with
    | some a => linkOpen s (.die (homeDie a)) ∧ windowOpen s (.dieFabric (homeDie a))
    | none => windowOpen s (.port (portFor s p))

/-- The links carry the response to a request: of the port of its plane, and of the die of its coach (R316, R404). -/
def responseRoom (s : State) (r : Request) (c : Coach) : Prop :=
  linkOpen s (.port (s.steward.planes.getD r.plane 0)) ∧ linkOpen s (.die c.core.die)

/-- The window that the response of the line at `a` leaves by, and that a drop leaves by (R316). -/
def answersBy (a : Nat) : SenderId := .dieFabric (homeDie a)
def dropsBy (s : State) (p : Packet) : SenderId := .port (portFor s p)

/-- A request with a fabric limit that has not passed, or without one, a host request (R401). -/
def awaited (s : State) (tag : Nat) (fabric : Bool) (r : Request) : Prop :=
  s.requests.find? (fun r => r.tag == tag && (match r.limit with
    | some t => fabric && decide (s.time.toNat < t)
    | none => !fabric)) = some r

/-- The instruction of a request awaits its data. -/
def bringsData (r : Request) : Prop := r.kind = 0 ∨ r.kind = 2

/-- The coach of a request after its response: an access that brings data keeps the bytes for its instruction, apart from
those of an instruction that a trap interrupted; a time-out sets FTO; a store or atomic that was performed is progress;
and a coach that waits for no more data goes on (R319, R376, R378, R395, R401). -/
def answeredBy (s t : State) (c : Coach) (r : Request) (bytes : List Byte) (fto : Bool) : Prop :=
  t.requests = s.requests.erase r
    ∧ (∃ d, t.coach? c.id = some d
      ∧ (bringsData r → r.held = false → d.answers = c.answers ++ [{ key := r.key, bytes := bytes, good := !fto, keep := r.keep }])
      ∧ (bringsData r → r.held = true →
          d.heldAnswers = c.heldAnswers ++ [{ key := r.key, bytes := bytes, good := !fto, keep := r.keep }])
      ∧ (¬ bringsData r ∨ r.held = true → d.answers = c.answers)
      ∧ (¬ bringsData r ∨ r.held = false → d.heldAnswers = c.heldAnswers)
      ∧ d.cstat = (if fto then c.cstat ||| 1 else c.cstat)
      ∧ d.wdc = (if (r.kind = 0 ∨ r.kind = 3) ∨ fto = true then c.wdc else 0)
      ∧ (c.wait = .remote → (d.wait = .ready ↔ ∀ k ∈ t.requests, k.coach = c.id → k.held = false → ¬ bringsData k))
      ∧ d = { c with
          answers := d.answers, heldAnswers := d.heldAnswers, cstat := d.cstat, wdc := d.wdc, wait := d.wait })
    ∧ sameBytes s t

/-- The steward reports: the health bit and IRQSTAT.REPLREQ are set, and vector 17 is raised (R353). -/
def reported (t : State) (n : Nat) : Prop :=
  bit t.steward.health n = true ∧ bit t.window.irqstat 17 = true ∧ .msix 17 ∈ t.outbox

/-- A condition of the health word, of instance `i`, has been reported: anew, where it had not been (R353; log 76). -/
def reportedAt (s t : State) (n i : Nat) : Prop :=
  (n, i) ∈ t.steward.reported ∧ ((n, i) ∉ s.steward.reported → reported t n)

/-- Reset but for the fuses and the environment: what is left when power is lost (R325). -/
def cleared (s t : State) : Prop :=
  t.mem = [] ∧ t.coaches = [] ∧ t.crews = [] ∧ t.gangs = [] ∧ t.launches = [] ∧ t.cores = [] ∧ t.requests = []
    ∧ t.queues = List.replicate 64 Queue.reset ∧ t.steward.fusedOff = s.steward.fusedOff ∧ t.outbox = s.outbox

/-- Every launch of which `p` holds has ended with MACHINE, and the others stand (R349, R353, R406). -/
def endsThose (s t : State) (p : Launch → Prop) : Prop :=
  (s.launches.map (·.q)).Nodup → ∀ l, s.launch? l.q = some l → (p l → l.terminal = none → ∃ m e, t.launch? l.q = some m ∧ m.terminal = some e ∧ e.status = 7)
    ∧ (¬ p l → t.launch? l.q = some l)

/-- A time that lies more than 2^14 behind the die's, any that is not up to 4,095 ahead of it, is raised to 2^14 behind it
(R309, R396). -/
def rebased (dt t : BitVec 16) : BitVec 16 :=
  if 4095 < (t - dt).toNat ∧ 2 ^ 14 < (dt - t).toNat then dt - BitVec.ofNat 16 (2 ^ 14) else t

/-- The encoded SHA-256 digest of a message, as a number (R325; log 71). -/
def encodedDigest (bs : List Byte) : Nat :=
  bigEndian ([0x00, 0x01] ++ List.replicate 330 0xFF ++ [0x00] ++ digestInfo ++ sha256 bs)

/-- The bytes at a place of the mailbox or of Lunath (R325). -/
def putThere (s : State) (u : Upload) : List Byte :=
  if u.mailbox = true then (List.range u.size).map (fun i => (cellAt s.window.mailbox (u.start + i)).getD 0)
  else Memory.readBytes s.mem u.start u.size

/-- The public key has the fused digest, and the signature is good under it, RSASSA-PKCS1-v1_5 with RSA-3072 and SHA-256:
as a number below the modulus, raised to the exponent it gives the encoded digest of the image (R325; log 71). -/
def imageGood (key image sig : List Byte) : Prop :=
  sha256 key = Config.fusedDigest ∧ sig.length = 384 ∧ bigEndian sig < Config.keyModulus key
    ∧ powMod (Config.keyModulus key) 3072 (bigEndian sig) (Config.keyExponent key) = encodedDigest image

end Sys2Proof.Claims

open Sys2Proof Sys2Proof.Machine Sys2Proof.Claims

/-- A peer's request on a port of its world that reaches a line of Lunath is performed and answered, from the window of
the line's die: a read with the line's bytes, a write with its enabled bytes stored, an atomic with the old value; a
request that does not is answered with a drop, from the port's window, and changes no byte; one for which there is no
room, or that comes before an entry that the port has NACKed, is NACKed; a port carries none of the other world (R59,
R314-R316, R318, R324, R404). What counts as room is the model's reading (log 79). -/
def Sys2Proof.Claims.PeerRequests : Prop :=
  ∀ (s : State) (p : Packet), up s →
    (s.steward.securePorts.getLsbD (portFor s p).toNat ≠ p.sec →
      Idle (.fabricReadRequest p) s ∧ Idle (.fabricWrite p) s ∧ Idle (.fabricAtomic p) s)
    ∧ (s.steward.securePorts.getLsbD (portFor s p).toNat = p.sec →
    let port := portFor s p
    let good (write : Bool) (a : Nat) := s.packetLine p write = .ok a
    let bad (write : Bool) := ∃ b, s.packetLine p write = .error b
    (∀ e write, e = .fabricReadRequest p ∧ write = false ∨ e = .fabricWrite p ∧ write = true →
      (∀ a, good write a → ¬ accepted s port e (hasRoom s p (some a)) → Nacked e s port)
      ∧ (bad write → ¬ accepted s port e (hasRoom s p none) → Nacked e s port)
      ∧ (bad write → accepted s port e (hasRoom s p none) → ∃ t, Answers e s t
          ∧ sameBytes s t ∧ joins s t (dropsBy s p) none (replied s p 5 [])))
    ∧ (let e : Instr := .fabricAtomic p
      (∀ a, good true a → good false a → ¬ accepted s port e (hasRoom s p (some a)) → Nacked e s port)
      ∧ (bad true ∨ bad false → ¬ accepted s port e (hasRoom s p none) → Nacked e s port)
      ∧ (bad true ∨ bad false → accepted s port e (hasRoom s p none) → ∃ t, Answers e s t
          ∧ sameBytes s t ∧ joins s t (dropsBy s p) none (replied s p 5 [])))
    ∧ (noStash s → Memory.wf s.mem = true →
    (∀ a, good false a → accepted s port (.fabricReadRequest p) (hasRoom s p (some a)) →
      ∃ t, Answers (.fabricReadRequest p) s t ∧ sameBytes s t
        ∧ joins s t (answersBy a) none (replied s p 3 (Memory.readBytes s.mem a 128)))
    ∧ (∀ a, good true a → p.data.length = 128 → accepted s port (.fabricWrite p) (hasRoom s p (some a)) →
        ∃ t, Answers (.fabricWrite p) s t
        ∧ joins s t (answersBy a) none (replied s p 4 [])
        ∧ (∀ j, j < 128 → byteAt t .lunath (a + j)
            = if p.be.getLsbD j then p.data.getD j 0 else byteAt s .lunath (a + j))
        ∧ (∀ x, x < a ∨ a + 128 ≤ x → byteAt t .lunath x = byteAt s .lunath x)
        ∧ ∀ k x, byteAt t (.store k) x = byteAt s (.store k) x)
    ∧ ∀ a, good true a → good false a → accepted s port (.fabricAtomic p) (hasRoom s p (some a)) →
        let n := if p.aw = 1 then 8 else 4
        let o := ((List.range 128).find? p.be.getLsbD).getD 0
        let old := leNat (Memory.readBytes s.mem (a + o) n)
        ∃ t fmt sub_, Answers (.fabricAtomic p) s t ∧ joins s t (answersBy a) none (replied s p 4 (natLe 8 old))
          ∧ fmt ∈ (if p.aw = 1 then [0, 7] else [5, 6, 10]) ∧ sub_ ∈ [0, 1, 2]
          ∧ wrote s t (a + o) (natLe n (atomNew fmt p.aop.toNat sub_ n old
              (leNat (p.data.take n)) (leNat ((p.data.drop 8).take n))))))

/-- A response gives its coach the data, the old value or all ones with FTO and takes the request out, unless its port
NACKs it: while a link that it crosses retrains, or before an entry that the port has NACKed; an event for a tag without
such a request changes nothing but that a late response has been discarded; the host's error completions and passed
limits are time-outs (R59, R316, R319, R395, R401, R404). -/
def Sys2Proof.Claims.ResponsesArrive : Prop :=
  ∀ (s : State) (tag : Nat) (r : Request) (c : Coach), up s → s.coach? r.coach = some c →
    (awaited s tag true r →
      let port := s.steward.planes.getD r.plane 0
      let passes (e : Instr) := accepted s port e (responseRoom s r c)
      (∀ data, r.kind = 0 ∨ r.kind = 3 → let e : Instr := .fabricReadData tag data
        (passes e → ∃ t, Answers e s t ∧ answeredBy s t c r data false) ∧ (¬ passes e → Nacked e s port)
        ∧ ∀ old, Idle (.fabricAck tag old) s)
      ∧ (∀ old : DWord, r.kind ≠ 0 → r.kind ≠ 3 → let e : Instr := .fabricAck tag old
        (passes e → ∃ t, Answers e s t ∧ answeredBy s t c r (natLe 8 old.toNat) false) ∧ (¬ passes e → Nacked e s port)
        ∧ ∀ data, Idle (.fabricReadData tag data) s)
      ∧ (passes (.fabricDrop tag) →
          ∃ t, Answers (.fabricDrop tag) s t ∧ answeredBy s t c r (List.replicate r.count 0xFF) true)
      ∧ (¬ passes (.fabricDrop tag) → Nacked (.fabricDrop tag) s port))
    ∧ (awaited s tag false r → ∀ data,
      (∃ t, Answers (.hostCompletion tag true data) s t ∧ answeredBy s t c r data false)
      ∧ ∃ t, Answers (.hostCompletion tag false data) s t ∧ answeredBy s t c r (List.replicate r.count 0xFF) true)
    ∧ ((∃ n, r.limit = some n ∧ n ≤ s.time.toNat) → r ∈ s.requests → (∀ k ∈ s.requests, k.tag = r.tag → k = r) →
        ∃ t, Answers (.fabricResponseTimeout r.tag) s t ∧ answeredBy s t c r (List.replicate r.count 0xFF) true
          ∧ r.tag ∈ t.staleTags)
    ∧ ((∀ k ∈ s.requests, k.tag ≠ tag) → ∀ data (old : DWord) ok,
        let t := { s with staleTags := s.staleTags.filter (· != tag) }
        Answers (.fabricReadData tag data) s t ∧ Answers (.fabricAck tag old) s t ∧ Answers (.fabricDrop tag) s t
          ∧ Idle (.fabricResponseTimeout tag) s ∧ Idle (.hostCompletion tag ok data) s)

/-- The host reads and writes Lunath through BAR2, at the offset itself or in the 64 GiB unit that APBASE names: a read
completes with the bytes, a write stores them, outside the TDIES bytes of the contexts; an access to a secure region is
logged and not performed, and one beyond Lunath, of a lost die or of poison is aborted (R320, R323, R407, R412). -/
def Sys2Proof.Claims.HostMemory : Prop :=
  ∀ (s : State) (off : Nat), up s → noStash s → Memory.wf s.mem = true → let a := s.apertureAt off
    (Config.bar2Resized = true → a = off)
    ∧ (Config.bar2Resized = false → off < 2 ^ 36 → a = s.window.apbase.toNat % 16 * 2 ^ 36 + off)
    ∧ (∀ n, reachable s a n → Answers (.hostBar2Read off n) s
      { s with outbox := s.outbox ++ [.bar2Completion (some (Memory.readBytes s.mem a n))] })
    ∧ (∀ n, s.hostBreach a n = true → Answers (.hostBar2Read off n) s { s with
        steward := { s.steward with log := s.steward.log ++ [natLe 8 a] }
        outbox := s.outbox ++ [.bar2Completion none] })
    ∧ (∀ n, s.hostBreach a n = false → 2 ^ 40 < a + n →
        Answers (.hostBar2Read off n) s { s with outbox := s.outbox ++ [.bar2Completion none] })
    ∧ ∀ data : List Byte,
      (reachable s a data.length → (∀ j, j < data.length → s.tdiesAt (a + j) = none) →
        ∃ t, Answers (.hostBar2Write off data) s t ∧ wrote s t a data)
      ∧ (s.hostBreach a data.length = true → Answers (.hostBar2Write off data) s
          { s with steward := { s.steward with log := s.steward.log ++ [natLe 8 a] } })
      ∧ (s.hostBreach a data.length = false → 2 ^ 40 < a + data.length → Idle (.hostBar2Write off data) s)

/-- A cold boot clears the package; with power on and no firmware it then runs the image that the host has put into the
mailbox and the aperture, if its key and its signature are good, else it reports status 1 and enables nothing; power off
clears it; the loss of the I/O die drops every launch without a word, and the host then reads all ones and writes nothing;
the mailbox answers with the health word and the signed attestation report (R325, R326, R353, R409). -/
def Sys2Proof.Claims.BootAndMailbox : Prop :=
  ∀ s : State,
    (∀ u v : Upload, let waits := s.powered = true ∧ s.booted = false ∧ s.steward.hostDown = false
      let image := putThere s u
      let good := imageGood (Config.bootKey s.window.mailbox s.mem) image (putThere s v)
      (¬ waits → ∃ t, Answers (.coldBoot u v) s t ∧ t.powered = true ∧ t.booted = false ∧ t.wdog = 0x01A13B86
        ∧ t.steward.hostDown = false ∧ cleared s t)
      ∧ (waits → good → ∃ t, Answers (.coldBoot u v) s t ∧ t.booted = true ∧ t.steward.firmware = image
        ∧ t.wdog = (Config.bootWdog image).getD s.wdog ∧ t.mem = s.mem)
      ∧ (waits → ¬ good → ∃ t, Answers (.coldBoot u v) s t ∧ t.booted = false ∧ t.wdog = s.wdog ∧ t.mem = s.mem
        ∧ ∀ j, j < 8 → cellAt t.window.mailbox j = some (if j = 0 then 1 else 0)))
    ∧ (∃ t, Answers .packagePowerOff s t ∧ t.powered = false ∧ t.booted = false ∧ cleared s t)
    ∧ (s.powered = false → Idle .ioDieFailure s)
    ∧ (s.powered = true → ∃ t, Answers .ioDieFailure s t ∧ t.powered = true ∧ t.booted = false ∧ t.launches = [] ∧ t.gangs = []
      ∧ t.crews = [] ∧ t.coaches = [] ∧ t.requests = [] ∧ t.senders = [] ∧ t.mem = s.mem
      ∧ (t.outbox = s.outbox ∨ t.outbox = s.outbox ++ [.linkDown])
      ∧ (∀ off, t.windowReg off = BitVec.allOnes 64)
      ∧ (∀ off n, Answers (.hostBar2Read off n) t
          { t with outbox := t.outbox ++ [.bar2Completion (some (List.replicate n 0xFF))] })
      ∧ ∀ off data v, Idle (.hostBar2Write off data) t ∧ Idle (.configRegisterWrite (BitVec.ofNat 24 off) v) t)
    ∧ (up s →
      (∃ t, Answers .mailboxHealth s t ∧ bit t.window.irqstat 18 = true ∧ .msix 18 ∈ t.outbox
        ∧ ∀ j, j < 8 → cellAt t.window.mailbox j = some (BitVec.ofNat 8 (s.steward.health.toNat / 256 ^ j)))
      ∧ ∀ nonce : List Byte, nonce.length = 32 → ∃ t r, Answers (.mailboxAttest nonce) s t
        ∧ bit t.window.irqstat 18 = true ∧ .msix 18 ∈ t.outbox ∧ r.length = 128
        ∧ (r.take 8 = natLe 8 0x4154535458444E5A) ∧ ((r.drop 8).take 8 = natLe 8 (2 + s.window.rev.toNat * 2 ^ 16))
        ∧ (r.drop 16).take 16 = (List.range 16).map Config.serialByte ∧ (r.drop 32).take 32 = nonce
        ∧ (r.drop 64).take 32 = sha256 s.steward.firmware
        ∧ (r.drop 96).take 32 = sha256 (Config.fuseMap (s.steward.fusedOff.map coreIndex))
        ∧ ∃ sig : List Byte, sig.length = 384
          ∧ bigEndian sig = powMod Config.attestModulus 3072 (encodedDigest r) Config.attestExponent % 2 ^ 3072
          ∧ ∀ j, j < 512 → cellAt t.window.mailbox j = some (if j < 128 then r.getD j 0 else sig.getD (j - 128) 0))

/-- A withdrawn core takes no gang and the launches on it end with MACHINE; a lost die leaves the healthy set and ends
the launches that use it; a failed SRAM die halves the local stores of its cores and ends the launches that hold the lost
half; a port that is down loses its plane to the next one up, once no window holds a packet of it; each is reported
(R353, R403, R406, R410). -/
def Sys2Proof.Claims.BlocksFail : Prop :=
  ∀ s : State, up s →
    (∀ k, ∃ t, Answers (.coreWithdrawn k) s t ∧ (∀ j, j ∈ t.steward.withdrawn ↔ j = k ∨ j ∈ s.steward.withdrawn)
      ∧ reportedAt s t 1 (coreIndex k)
      ∧ endsThose s t (fun l => ∃ w ∈ s.crews, w.q = l.q ∧ w.core = k))
    ∧ (∀ d, (s.dieLost d = true → Idle (.dieLoss d) s)
      ∧ (s.dieLost d = false → ∃ t, Answers (.dieLoss d) s t ∧ reportedAt s t 2 d.toNat
        ∧ bit t.steward.health (8 + d.toNat) = true
        ∧ (∀ n, n < 8 → t.steward.healthyDies.getLsbD n = (s.steward.healthyDies.getLsbD n && n != d.toNat))
        ∧ endsThose s t (fun l => l.dies.getLsbD d.toNat = true)))
    ∧ (∀ d, ∃ t, Answers (.sramDieFailure d) s t ∧ reportedAt s t 1 (1536 + d.toNat)
      ∧ t.steward.sramFailed.getLsbD d.toNat = true
      ∧ (∀ k : CoreId, k.die = d → s.steward.fusedOff.contains k = false →
          t.capacity k = (if 28 ≤ k.pos.toNat then 512 else 1024) * 1024 / 2)
      ∧ ∀ w ∈ s.crews, w.core.die = d → w.up = true →
          (if 28 ≤ w.core.pos.toNat then 512 else 1024) * 1024 / 2 < w.base + w.scratch →
          (∃ c ∈ s.coaches, c.id.q = w.q ∧ c.id.gang = w.gang ∧ c.id.crew = w.crew) → ∀ l, s.launch? w.q = some l →
          ∃ m, t.launch? w.q = some m ∧ m.terminal ≠ none)
    ∧ (∀ p, (s.steward.portsDown.getLsbD p.toNat = true → Idle (.portDown p) s)
      ∧ (s.steward.portsDown.getLsbD p.toNat = false → ∃ t, Answers (.portDown p) s t ∧ reportedAt s t 4 p.toNat
        ∧ ∀ n, n < 16 → t.steward.portsDown.getLsbD n = (s.steward.portsDown.getLsbD n || n == p.toNat)))
    ∧ ∀ plane : BitVec 4, let p := s.portOf plane.toNat
      let held := ∃ k ∈ s.senders, ∃ x ∈ k.packets, x.line.toNat % 16 = plane.toNat
      (s.steward.portsDown.getLsbD p.toNat = false ∨ held → Idle (.planeMove plane) s)
      ∧ (s.steward.portsDown.getLsbD p.toNat = true → s.nextPort p = none → Idle (.planeMove plane) s)
      ∧ (s.steward.portsDown.getLsbD p.toNat = true → ¬ held → plane.toNat < s.steward.planes.length → ∀ n,
          s.nextPort p = some n → ∃ t, Answers (.planeMove plane) s t ∧ t.portOf plane.toNat = n
            ∧ t.steward.portsDown.getLsbD n.toNat = false
            ∧ t.steward.securePorts.getLsbD n.toNat = s.steward.securePorts.getLsbD p.toNat)

/-- A link asked to narrow retrains unless it is the narrowest; a retraining ends one step narrower, and the third that
fails takes a port down or loses a die; a die's frequency changes between 11 and 32 thirty-seconds, after a retraining
of its link (R327, R404, R405). -/
def Sys2Proof.Claims.LinksAndClocks : Prop :=
  ∀ s : State, up s →
    (∀ id, let k := s.link id
      (k.retraining = true ∨ 2 ≤ k.width → Idle (.linkWidthRequest id) s)
      ∧ (k.retraining = false → k.width < 2 → ∃ t, Answers (.linkWidthRequest id) s t
          ∧ t.link id = { k with retraining := true } ∧ sameBytes s t)
      ∧ (k.retraining = false → ∀ b, Idle (.linkRetrainEnd id b) s)
      ∧ (k.retraining = true → k.id = id →
        (∃ t, Answers (.linkRetrainEnd id true) s t
          ∧ t.link id = { k with width := k.width + 1, retraining := false, failed := 0 })
        ∧ (k.failed < 2 → ∃ t, Answers (.linkRetrainEnd id false) s t ∧ t.link id = { k with failed := k.failed + 1 })
        ∧ (2 ≤ k.failed → ∃ t, Answers (.linkRetrainEnd id false) s t
          ∧ (∀ p, id = .port p → t.steward.portsDown.getLsbD p.toNat = true)
          ∧ ∀ d, id = .die d → t.dieLost d = true)))
    ∧ ∀ (d : BitVec 3) (n : BitVec 6), let k := s.die d
      (n.toNat < 11 ∨ 32 < n.toNat ∨ s.dieLost d = true → Idle (.frequencyChange d n) s)
      ∧ (11 ≤ n.toNat → n.toNat ≤ 32 → s.dieLost d = false → k.id = d → ∃ t, Answers (.frequencyChange d n) s t
        ∧ sameBytes s t
        ∧ t.die d = if (s.link (.die d)).retraining then { k with pendingFreq := some n.toNat } else { k with freq := n.toNat })

/-- A double error poisons what it strikes and a single one is corrected and counted in its block, with no byte changed,
and a clean copy is dropped; a patrol beyond the spare rows or of a stack with a poisoned line is reported; the pod
table, PKGNO and the worlds of idle blocks change as the steward says; the scrubber re-bases the times of a line (R309,
R314, R321, R324, R353, R396-R398, R400), of which the time that an acquire learns is the model's own (log 59). -/
def Sys2Proof.Claims.ErrorsAndTables : Prop :=
  ∀ s : State, up s →
    (∀ (place : ErrorPlace) (p : Poison), ErrorPlace.poison place = some p →
      (∃ t, Answers (.softError place true) s t ∧ (∀ x, x ∈ t.poison ↔ x = p ∨ x ∈ s.poison) ∧ sameBytes s t)
      ∧ (let b := s.errorBlock place
        let ticks := s.time.toNat :: s.correctionsOf b
        ∃ t, Answers (.softError place false) s t ∧ t.poison = s.poison ∧ t.correctionsOf b = ticks ∧ sameBytes s t
          ∧ (Config.rateAbove ticks = true → reportedAt s t 0 (2048 * b.1 + b.2))))
    ∧ (∀ k line b, ∃ t, Answers (.softError (.dataCache k line) b) s t
      ∧ (∀ c ∈ (t.core k).copies, c.line ≠ line) ∧ t.poison = s.poison ∧ sameBytes s t)
    ∧ (∀ k a b, ∃ t, Answers (.softError (.instructionCache k a) b) s t
      ∧ (∀ e ∈ (t.core k).icache, e.1 ≠ a) ∧ t.poison = s.poison ∧ sameBytes s t)
    ∧ (∀ ctx page b, Answers (.softError (.translationCache ctx page) b) s
        { s with tlb := s.tlb.filter (fun e => !(e.ctx == ctx && e.page == page)) })
    ∧ (∀ k e b, ∃ t, Answers (.softError (.latch k e) b) s t
      ∧ (t.core k).latch = (s.core k).latch.set e.toNat none ∧ t.poison = s.poison ∧ sameBytes s t)
    ∧ (∀ stack : BitVec 4,
      let found := ∃ n, Poison.line n ∈ s.poison ∧ 2 * (homeDie (128 * n)).toNat + n / 2 % 2 = stack.toNat
      (∃ t, Answers (.lunathPatrol stack true) s t ∧ reportedAt s t 3 stack.toNat)
      ∧ (found → ∃ t, Answers (.lunathPatrol stack false) s t ∧ reportedAt s t 3 stack.toNat)
      ∧ (¬ found → Idle (.lunathPatrol stack false) s))
    ∧ (∀ v : DWord, Answers (.podTableChange (.base v)) s { s with
        window := { s.window with podbase := v &&& 0x000FFFFFFFFFF000, podWritten := true } })
    ∧ (∀ n : BitVec 9, Answers (.podTableChange (.number n)) s { s with window := { s.window with pkgno := n } })
    ∧ (∀ (n : BitVec 9) (v : DWord), noStash s → Memory.wf s.mem = true → ∃ t,
        Answers (.podTableChange (.entry n v)) s t
          ∧ wrote s t (s.window.podbase.toNat / 2 ^ 12 % 2 ^ 40 * 2 ^ 12 + 8 * n.toNat) (natLe 8 v.toNat))
    ∧ (∀ b secure, s.blockIdle b = false → Idle (.worldAssignmentChange b secure) s)
    ∧ (∀ (r : BitVec 6) (secure : Bool), s.launches = [] → ∃ t, Answers (.worldAssignmentChange (.region r) secure) s t
        ∧ ∀ n, n < 64 → t.steward.secureRegions.getLsbD n = if n = r.toNat then secure else s.steward.secureRegions.getLsbD n)
    ∧ (∀ (k : CoreId) (secure : Bool), (∀ w ∈ s.crews, w.core ≠ k) →
        ∃ t, Answers (.worldAssignmentChange (.core k) secure) s t
          ∧ ∀ j, t.steward.secureCores.contains j = if j = k then secure else s.steward.secureCores.contains j)
    ∧ (∀ (q : BitVec 6) (secure : Bool), q.toNat < s.queues.length → s.launch? q = none →
        ∃ t, Answers (.worldAssignmentChange (.queue q) secure) s t ∧ (t.queue q).secure = secure
          ∧ (∀ n, n < 64 → n ≠ 7 → (t.queue q).qcfg.getLsbD n = (s.queue q).qcfg.getLsbD n)
          ∧ ∀ r, r ≠ q → t.queue r = s.queue r)
    ∧ (∀ (p : BitVec 4) (secure : Bool), s.requests = [] → (∀ k ∈ s.senders, ∀ x ∈ k.packets, portFor s x ≠ p) →
        ∃ t, Answers (.worldAssignmentChange (.port p) secure) s t
          ∧ ∀ n, n < 16 → t.steward.securePorts.getLsbD n = if n = p.toNat then secure else s.steward.securePorts.getLsbD n)
    ∧ ∀ (d : BitVec 3) (line : Nat), let x := s.stamp line
      let dt := (s.die d).dt
      let r := rebased dt x.rts
      let far := 2 ^ 14 ≤ (x.cov - dt).toNat ∧ 2 ^ 14 ≤ (dt - x.cov).toNat ∧ (r ≠ x.rts ∨ (dt - x.cov).toNat < 2 ^ 15)
      let cov := if far then dt - BitVec.ofNat 16 (2 ^ 14) else x.cov
      (homeDie (128 * line) ≠ d ∨ r = x.rts ∧ cov = x.cov → Idle (.scrubberVisit d line) s)
      ∧ (homeDie (128 * line) = d → r ≠ x.rts ∨ cov ≠ x.cov → x.line = line →
          ∃ t, Answers (.scrubberVisit d line) s t ∧ sameBytes s t
            ∧ t.stamp line = { x with wts := if r = x.rts then x.wts else r, rts := r, cov := cov })

/-- TICK completes from every state: it counts TIME on by one, makes WDOG's limit the one in effect, gives each die's DT
the latest of itself, TIME and its cores' times, and re-bases the die's times to it, advances every core's time by one,
re-based to the DT of its die, and drops leases that are 2^14 away from it, and advances WDC of every coach that is
watched (R5, R307, R309, R375, R376, R396). Dirty copies of other dies' lines that an L2 then happens to replace go
home: with none held, nothing follows.
That a write of WDOG counts from the next tick, and that an L2 may replace a line at a tick, are the model's readings
(log 15, log 73). -/
def Obligations.TickPasses : Prop :=
  ∀ s : State, ∃ t u, exec .tick s = .next u ∧ u = t.evictSome ∧ (s.remote = [] → u = t)
    ∧ ((∀ k ∈ s.crews, k.lines = []) → sameBytes s u)
    ∧ u.time = s.time + 1 ∧ u.coaches = t.coaches ∧ t.cycle = 0 ∧ t.wdogLive = s.wdog
    ∧ t.coaches = s.coaches.map (fun c => if s.watched c then { c with wdc := c.wdc + 1 } else c)
    ∧ (∀ d ∈ s.dies, ∃ e ∈ t.dies, e.id = d.id
      ∧ e.dt = (rebased d.dt (t.time.setWidth 16) :: (s.cores.filter (fun k => k.id.die == d.id)).map (fun k => k.pts + 1)).foldl smax d.dt
      ∧ e.mts = rebased e.dt d.mts ∧ e.last = rebased e.dt d.last)
    ∧ (∀ k ∈ s.cores, ∃ j ∈ t.cores, j.id = k.id
      ∧ j.pts = rebased (t.die k.id.die).dt (k.pts + 1)
      ∧ ∀ c ∈ j.copies, c ∈ k.copies ∧ ∀ w r, c.lease = some (w, r) →
          (r - j.pts).toNat < 2 ^ 14 ∨ (j.pts - r).toNat < 2 ^ 14)
    ∧ t.launches = s.launches ∧ t.gangs = s.gangs ∧ t.crews = s.crews ∧ t.poison = s.poison ∧ t.requests = s.requests

namespace Sys2Proof.Claims

open Sys2Proof Sys2Proof.Machine

/-! ### The machine as a whole: reset, decoding and the step (R4, R5, R40, R58, R122-R125, R354) -/

/-- Nothing comes before the issue of coach `c`: no event has arrived, the package runs, no event of its own is due, and
`c` is the coach to issue (R40, R58). -/
def Turn (s : State) (c : Coach) (l : Launch) : Prop :=
  s.inbox = [] ∧ up s ∧ s.agenda = none ∧ s.nextCoach = some c ∧ s.coach? c.id = some c ∧ s.launch? c.id.q = some l

/-- Bytes of a little-endian number in Lunath. -/
def numberAt (s : State) (a n : Nat) : Nat := leNat (Memory.readBytes s.mem a n)

end Sys2Proof.Claims

open Sys2Proof Sys2Proof.Machine Sys2Proof.Claims

/-- After reset TIME is 0, WDOG 0x01A13B86, BACKOFF and FBACKOFF 0x00103008, no firmware has been accepted, so nothing
runs (R5, R60, R325, R375); a placed coach has MODE 0x41, no stack and every lane, but for half 1 of a last Fupen coach
of an odd number (R44, R76, R117). Every byte of Lunath reads 0 and memory has its canonical form: that, and empty
queues, are the model's choices (log 2, log 13), and whether the driver has set that half is free (log 41). -/
def Obligations.ResetState : Prop :=
  let s := State.reset
  s.time = 0 ∧ s.wdog = 0x01A13B86 ∧ s.window.fbackoff = 0x00103008 ∧ (∀ k, (s.core k).backoff = 0x00103008)
    ∧ s.booted = false ∧ s.launches = [] ∧ s.gangs = [] ∧ s.crews = [] ∧ s.coaches = []
    ∧ (∀ q, s.queue q = { qbase := 0, qcfg := 0, qpub := 0, qcons := 0, err := false, seen := 0 })
    ∧ Memory.wf s.mem = true ∧ (∀ a, byteAt s .lunath a = 0)
    ∧ ∀ (l : Launch) id k now, let c := l.newCoach id k now
      c.mode = 0x41 ∧ c.stack = [] ∧ c.depth = 0 ∧ (c.ex = 0 ∨ l.cmp16 = true ∧ c.ex = 0xFFFF0000) ∧ c.cm = lowMask l.width ∧ c.rpc = BitVec.allOnes 64
        ∧ c.cstat = 0 ∧ c.mxs = 0 ∧ c.lpost = none

/-- The manual's own words decode to the instructions it prints beside them (R125, worked examples). -/
def Obligations.DecodeWords : Prop :=
  (∃ w0, decode [0x0000ABC0] = .ok (.trap w0) ∧ w0.k6 = 0 ∧ (w0.a ++ w0.d : BitVec 16) = 0x2A)
  ∧ (∃ w0 w1, decode [0x0014139D, 0x0000FF01] = .ok (.gred w0 w1) ∧ w0.d = 4 ∧ w0.a = 5 ∧ w0.k6 = 0 ∧ w1.b = 1 ∧ w1.c = 255)
  ∧ (∃ w0 w1, decode [0x14201D01, 0x0100FF09] = .ok (.vaddF64 w0 w1) ∧ w0.d = 7 ∧ w0.a = 8 ∧ w1.b = 9 ∧ w1.sat = 1)
  ∧ (∃ w0 w1 lit, decode [0x00040096, 0x0000FFFF, 0x00040004] = .ok (.ifM w0 w1 lit) ∧ w0.a = 1 ∧ lit = 0x00040004)
  ∧ (∃ w0, decode [0x00001F90] = .ok (.post w0) ∧ (w0.a ++ w0.d : BitVec 16) = 7)
  ∧ (∃ w0, decode [0x000003C4] = .ok (.rft w0))
  ∧ decode [0x00000003] = .error .lenCode ∧ decode [0x000000CC] = .error .unassigned

/-- When nothing comes before it, the next coach's words are fetched and a step executes the instruction that they
decode to, with that coach selected, and with nothing else changed where no stash holds a line that the fetch recalls;
words that are none, and a fetch that fails, execute their own events (R40, R354, R356). -/
def Sys2Proof.Claims.StepRunsInstruction : Prop :=
  ∀ s c l, Turn s c l →
    (∀ ws i, (s.select c).fetch l c = .ok ws → decode ws = .ok i → ∃ s1, step s = exec i s1 ∧ s1.current = some c
      ∧ ((∀ k ∈ s.crews, k.lines = []) → s1.launch? c.id.q = some l
        ∧ s1 = { s with
          cur := some c.id, turn := coreIndex c.core, fresh := s.fresh + 1, cycle := s.cycle + 1, cycles := s.cycles + 1
          cores := s1.cores, tlb := s1.tlb }
        ∧ ∀ k, s1.core k = { s.core k with icache := (s1.core k).icache, prev := (s1.core k).prev }))
    ∧ (∀ t, (s.select c).fetch l c = .error t → step s = exec .instructionFetchFault (s.select c))
    ∧ ∀ w rest, (s.select c).fetch l c = .ok (w :: rest) → decode (w :: rest) = .error .lenCode
        ∨ decode (w :: rest) = .error .unassigned → ∃ s1, step s = exec (.wordNotAnInstruction w) s1 ∧ s1.current = some c

/-- A step takes the oldest event that has arrived, and drops one that is not of the outside world; a package without
power does nothing else; then the device's own next event happens: a complete phase first, at the end of a tick then the
waits that have ended, the watchdog and the tick, and before it what launches, gangs and coaches have due; and with none
of these, and no coach to issue, time passes. -/
def Sys2Proof.Claims.StepTakesEvents : Prop :=
  ∀ s : State,
    (∀ e rest, s.inbox = e :: rest →
      (isOutside e = true → step s = exec e { s with inbox := rest, fresh := s.fresh + 1 })
      ∧ (isOutside e = false → step s = .next { s with inbox := rest }))
    ∧ (s.inbox = [] → s.powered = false → step s = .next s)
    ∧ (s.inbox = [] → s.powered = true →
      (∀ e, s.agenda = some e → step s = exec e { s with fresh := s.fresh + 1 })
      ∧ (s.agenda = none → (s.booted = false ∨ s.nextCoach = none) → step s = exec s.tickEvent s)
      ∧ (s.booted = false → s.tickEvent = .tick ∧ (Config.tickCycles ≤ s.cycle → s.agenda = some .tick))
      ∧ (s.booted = true →
        (∀ e, s.gangs.findSome? s.phaseEvent = some e → s.agenda = some e)
        ∧ (s.gangs.findSome? s.phaseEvent = none →
          (Config.tickCycles ≤ s.cycle → s.agenda = some (s.lateEvent.getD s.tickEvent))
          ∧ (s.cycle < Config.tickCycles → s.agenda = firstDue [s.launchEvent, s.gangEvent, s.coachEvent]))))

/-- Decoding the words of any instruction gives it back, with every field at every value. -/
def Obligations.DecodeEncode : Prop :=
  ∀ i o f, view i = some (o, f) → decode (encode i) = .ok i

/-- Every step keeps the canonical form in which the model holds Lunath: addresses rise and no listed byte reads as an
unlisted one. The form is the model's DESIGN CHOICE (log 2); R94 gives the memory, not the form. -/
def Obligations.MemoryStaysCanonical : Prop :=
  ∀ s t : State, Memory.wf s.mem = true → step s = .next t → Memory.wf t.mem = true

/-- The machine never stops: from every state a step gives a next state, whatever instruction or event it runs. -/
def Obligations.EveryStepGoesOn : Prop :=
  ∀ s : State, goesOn s

/-! ### The statements that join several of these parts -/

/-- Every scalar arithmetic instruction completes with the result of R159. -/
def Obligations.ScalarResults : Prop :=
  ScalarArithmetic ∧ ScalarBits ∧ ScalarCompareSelect ∧ NopAdvances ∧ ScalarCodes

/-- VTOX, XTOV and the X register file with X255. -/
def Obligations.ScalarTransfers : Prop :=
  LaneTransfers ∧ ScalarRegisterFile

/-- MTOX, XTOM, ANYM and ALLM complete with the masks and tests of R164 and R175. -/
def Obligations.MaskResults : Prop :=
  MaskMoves ∧ MaskTests

/-- SRR, SRW, SSR and SSW on every register number, with their traps. -/
def Obligations.SpecialRegisters : Prop :=
  SystemRegisters ∧ SecureRegisters

/-- Calls, divergent branches and loops complete with the effect of R28 and R167-R171. That an ELSE goes to its rpc
without a check of that address is the model's reading (log 88). -/
def Obligations.StructuredControl : Prop :=
  CallReturnJump ∧ DivergentBranches ∧ PathEnds ∧ Loops

/-- EXIT, YIELD and SLEEP complete in every form. A SLEEP keeps its PC until it expires: the model's reading (log 16). -/
def Obligations.CoachLife : Prop :=
  ExitLanes ∧ YieldAndSleep

/-- Every integer vector instruction computes each element, with its tag. That VMAD's affine factor may stand on either
side of its uniform one for the tag A is the model's reading (log 88). -/
def Obligations.VectorInteger : Prop :=
  VectorIntegerElements ∧ VectorIntegerWords

/-- VBFI, VSEL, VMOV, VLANE, VCMP and FCMP complete with their results. -/
def Obligations.VectorMovesAndCompares : Prop :=
  VectorMoves ∧ VectorCompares

/-- Every float vector instruction delivers each element by the resolved modes. -/
def Obligations.VectorFloat : Prop :=
  VectorFloatElements ∧ VectorFloatFunctions

/-- What a vector write leaves and what a vector operand delivers, latches included. That the copy of a latch's origin has
tag G, and that the entries are of the last coach, are the model's readings (log 40). -/
def Obligations.VectorRegisterFile : Prop :=
  VectorWrite ∧ LatchOperands

/-- CVT, UNPK, QTAG and PACK convert each lane. -/
def Obligations.ConvertAndPack : Prop :=
  ConvertLanes ∧ PackLanes

/-- QAMAX, QEXP, QCVT, DQCVT, CBLUT and CBENC complete with their lanes. That DQCVT rounds the product of a codebook entry
and a scale that binary32 cannot hold is the model's choice (log 49, log 88). -/
def Obligations.Quantisation : Prop :=
  AmaxAndScale ∧ QuantiseLanes ∧ CodebookLanes

/-- CBLD and CHLD fill a slot; CHARG and CHRUN run a chain. -/
def Obligations.SlotsAndChains : Prop :=
  SlotLoads ∧ ChainRuns

/-- LD completes in every form with the bytes at its locations and changes none. -/
def Obligations.Loads : Prop :=
  LoadCompletes ∧ LoadReadsMemory

/-- ST completes in every form, stores its elements and changes no other byte. -/
def Obligations.Stores : Prop :=
  StoreCompletes ∧ StoreFrame

/-- ATOM and CAS complete and update exactly their locations, or send their requests and wait. How many requests an
instruction sends while there is room for some is the model's reading (log 64). -/
def Obligations.Atomics : Prop :=
  AtomicCompletes ∧ AtomicUpdates ∧ AtomicRequests

/-- PMAKE, PDERIV, PADD, PGET and PSCOPE complete, or trap by their reasons. -/
def Obligations.Pointers : Prop :=
  PointerMake ∧ PointerDerive ∧ PointerScope

/-- PREF never traps; STBIND and STUNB bind and free; act 0 skips. -/
def Obligations.PrefetchAndStash : Prop :=
  PrefetchCompletes ∧ StashBindings ∧ SkippedWithoutLanes

/-- MMODE, MXZERO, MXSCL and MXAMAX on the accumulator tile. That MXSCL of an S32 tile is OPERAND 0x0106 with an INFO of 0
is the model's reading (log 42). -/
def Obligations.MatrixTile : Prop :=
  MatrixMode ∧ MatrixTiles

/-- MXMUL and MXMULG start, and each K-group adds to every element of the tile. Both streams move with the K-groups, and
poison is met group by group, and an accumulator keeps its own bits where the sum of its group is 0 or where it is a NaN
itself: the model's readings (log 48, log 69, log 88). -/
def Obligations.MatrixProducts : Prop :=
  MatrixProductStarts ∧ MatrixGroupStep

/-- TLRSET loads a record and FESET sets full-empty bits, or trap. A wait for the TL slot comes before TLRSET's checks:
the model's reading (log 50). -/
def Obligations.DraySlots : Prop :=
  DrayRecords ∧ FullEmptySet

/-- DRLD, DRST and DRCP start, move line by line and end. A wait for the TL slot comes before the checks: the model's
reading (log 50). -/
def Obligations.DrayCommands : Prop :=
  DrayStarts ∧ DraySlotTaken ∧ DrayLineStep

/-- GBAR, GARV, GRED, GWAIT and GQRY arrive, hold, wait or go on. A held entry takes the parity of the current phase: the
model's reading (log 17). -/
def Obligations.GroupArrival : Prop :=
  GroupBarriers ∧ GroupQueries

/-- POST, MIGRATE, WAITV and the ends of waits. That act 0 skips POST and MIGRATE, and the length of a YIELD with no other
coach, are the model's readings (log 36, log 16). -/
def Obligations.PostsAndWaits : Prop :=
  PostAndMigrate ∧ WaitOnValue ∧ WaitsEnd

/-- A trap enters the handler with its record, or ends its launch. In a withheld record the words that R352 does not name
are the model's choice (log 37), and what becomes of requests under way is its reading (log 77). -/
def Obligations.TrapEntry : Prop :=
  HandlerEntry ∧ TerminalTraps

/-- TRAP, BRK and HALTC, undecoded words, words that break an ENCODING check and failed fetches raise their traps. -/
def Obligations.SoftwareTraps : Prop :=
  SoftwareTrapEffects ∧ UndecodedWords ∧ IssueChecks

/-- RFT restores the record and goes back to an interrupted wait; SWCALL calls the steward and returns. Which waits issue
again, which requests and answers an RFT keeps (log 55, log 77), and the time that an acquire at package scope takes (log
59), are the model's readings. -/
def Obligations.WorldAndReturn : Prop :=
  ReturnFromTrap ∧ WorldCalls

/-- Launches are taken, started, placed, stepped and ended. The order of gangs and the status of a record that cannot be
written are the model's choices (log 12, log 28), as are what a completion word waits for besides its launch's requests
(log 73), the stop of a queue whose waybill cannot be read (log 90), and that a launch too large for the healthy dies
ends at its taking, whatever MINDIE is (log 70). -/
def Obligations.LaunchLife : Prop :=
  LaunchesBegin ∧ LaunchesEnd

/-- Gangs are stopped, saved, resumed and migrated. What a resume restores beside the slot, and the addresses of the
failing slot parts, are the model's readings (log 22, log 23), as is how a changed slot is told (log 78). -/
def Obligations.GangLife : Prop :=
  GangsStop ∧ GangsMove

/-- Requests of peers and of the host, and responses to the package's own. The type of an atomic in a packet, and the
steward's entry for a host breach, are the model's choices (log 30, log 29), as are the size of BAR2 and how a late
response is told (log 74, log 63). That responses are kept apart for an instruction that a trap interrupted (log 77, log
55), that the response of a store or an atomic is progress (log 52), and that a request whose response finds no place is
NACKed (log 79), are its readings. -/
def Obligations.OutsideRequests : Prop :=
  PeerRequests ∧ ResponsesArrive ∧ HostMemory

/-- Boot, mailbox, failures, links, clocks, errors and tables. What a boot keeps, where a mailbox reply lies, what a
failed retraining leaves and when a block is idle are the model's choices (log 32, log 29, log 31, log 33), as are the
text of the signatures and of SHA-256, the layout of an uploaded image, whether the host sees its link go down, the
limit written at boot, and which conditions count as reported (log 71, log 74, log 89, log 75, log 76). -/
def Obligations.PackageEvents : Prop :=
  BootAndMailbox ∧ BlocksFail ∧ LinksAndClocks ∧ ErrorsAndTables

/-- A step runs the decoded instruction of the next coach, or the next event. The order of a step's sources is the model's
choice (log 4, log 5, log 8). -/
def Obligations.StepDispatch : Prop :=
  StepRunsInstruction ∧ StepTakesEvents
end

