-- ==== Sys2Proof/Laws/Access.lean ====
section
/-! SUPPORT. What accesses that pass their checks give: their places, and room in a sender's window. -/

namespace Sys2Proof.Claims

open Sys2Proof Sys2Proof.Machine

variable {s : State} {l : Launch} {c : Coach}

theorem failureTrap_nil (m : AccessMode) : failureTrap m [] = none := rfl

/-- No POINTER check of steps 1 to 3 fails. -/
theorem Passes.pointer {e : Elem} (h : Passes s l c e) (code : Nat) : pointerCheck l code e = none := by
  unfold pointerCheck
  split
  · rw [h.formed]; rfl
  · cases hw : e.write
    · rfl
    · have := h.writable hw
      simp [this.1, this.2]
  · dsimp only
    split
    · rename_i h2
      have := h.crews h2.1
      omega
    · rfl
  · dsimp only
    split
    · rename_i h1
      rw [if_pos (h.scratch h1)]
    · rfl
  · rw [if_pos h.range]
  · rw [if_neg]
    have := h.aligned
    omega
  · rfl

theorem earlyTrap_none {m : AccessMode} {es : List Elem} (h : ∀ e ∈ es, Passes s l c e) (codes : List Nat) :
    earlyTrap l m es codes = none := by
  induction codes with
  | nil => rfl
  | cons k t ih =>
    have hnil : (es.filterMap (fun e => (pointerCheck l k e).map (fun a => e.fail 5 k a e.info))) = [] := by
      rw [List.filterMap_eq_nil_iff]
      intro e he
      rw [(h e he).pointer]
      rfl
    unfold earlyTrap
    rw [hnil, failureTrap_nil]
    exact ih

theorem walkTrap_none {m : AccessMode} {es : List Elem} (h : ∀ e ∈ es, Passes s l c e) (ks : List (Nat × Option Nat)) :
    walkTrap m (es.map (fun e => (e, s.elemLoc (l.party (some c.core)) c e))) ks = none := by
  induction ks with
  | nil => rfl
  | cons k t ih =>
    unfold walkTrap
    rw [List.filterMap_eq_nil_iff.2, failureTrap_nil]
    · exact ih
    · intro r hr
      obtain ⟨e, he, rfl⟩ := List.mem_map.1 hr
      obtain ⟨loc, hl, -⟩ := (h e he).placed
      dsimp only
      rw [hl]

/-- The element and the place of each located access. -/
theorem mem_places {es : List Elem} {r : Elem × Loc} (h : r ∈ places s l c es) :
    r.1 ∈ es ∧ s.elemLoc (l.party (some c.core)) c r.1 = .ok r.2 := by
  unfold places located at h
  obtain ⟨x, hx, hr⟩ := List.mem_filterMap.1 h
  obtain ⟨e, he, rfl⟩ := List.mem_map.1 hx
  dsimp only at hr
  split at hr
  · rename_i loc hl
    cases hr
    exact ⟨he, hl⟩
  · cases hr

theorem lateTrap_none {m : AccessMode} {es : List Elem} (h : ∀ e ∈ es, Passes s l c e) (hfe : m.fe = false)
    (hw : m.worldBad = false) (hb : m.hostBad = false) (hc : m.completion = true → ∀ e ∈ es, completionBad e.p = false) (ks : List LateCheck) :
    s.lateTrap l c m (places s l c es) ks = none := by
  induction ks with
  | nil => rfl
  | cons k t ih =>
    have hnil : ((places s l c es).filterMap (fun r => s.lateCheck l c m k r.1 r.2)) = [] := by
      rw [List.filterMap_eq_nil_iff]
      intro r hr
      obtain ⟨he, hl⟩ := mem_places hr
      obtain ⟨loc, hl2, hs, hp, hz⟩ := (h r.1 he).placed
      obtain rfl : r.2 = loc := by rw [hl] at hl2; cases hl2; rfl
      unfold State.lateCheck
      cases k
      · simp [hw]
      · simp [hs]
      · dsimp only; split <;> simp [hfe]
      · simp [hb]
      · cases hm : m.completion
        · simp
        · simp [hc hm r.1 he]
      · dsimp only
        split
        · rename_i hx
          rw [hp (by rw [hx]; rfl)]
          split <;> rfl
        · rfl
      · exact congrArg (Option.map _) hz
    unfold State.lateTrap
    rw [hnil, failureTrap_nil]
    exact ih

/-- Accesses that pass their checks are resolved to their places. -/
theorem resolve_ok {m : AccessMode} {es : List Elem} (h : ∀ e ∈ es, Passes s l c e) (hfe : m.fe = false)
    (hw : m.worldBad = false) (hb : m.hostBad = false) (hc : m.completion = true → ∀ e ∈ es, completionBad e.p = false) :
    s.resolve l c m es = .ok (places s l c es) := by
  unfold State.resolve
  rw [earlyTrap_none h]
  dsimp only
  rw [walkTrap_none h]
  dsimp only
  have := lateTrap_none h hfe hw hb hc [.world, .scope, .fe, .hostAtomic, .completion, .peer, .hazard]
  unfold places at this
  rw [this]
  rfl

/-- A window with room takes an entry. -/
theorem enterQueue_roomy {join : Nat} (h : roomy s c join) :
    s.enterQueue (joinSender c.core join) (c.id, c.pc) = some (admitted s c join) := by
  unfold roomy at h
  unfold admitted State.enterQueue
  dsimp only
  split
  · rfl
  · rfl

/-- A coach whose engines work. -/
theorem served_engaged (h : engaged s c l) : s.served c = some l := by
  obtain ⟨hl, ht, g, hg, hs⟩ := h
  unfold State.served
  rw [hg, hl]
  have hb : (g.status == GangStatus.saved) = false := by simpa using hs
  simp [hb, ht]

end Sys2Proof.Claims
end

