-- ==== Sys2Proof/Laws/Memory.lean ====
section
/-! SUPPORT. Laws of byte memories: reading after writing, and the canonical form that every operation on
Lunath keeps. -/

namespace Sys2Proof.Machine

open Sys2Proof

/-! ### Listed addresses -/

theorem cellsAbove_iff (a : Nat) (m : List Host.Cell) :
    cellsAbove a m = true ↔ ∀ c ∈ m, a < c.1 := by
  simp [cellsAbove]

theorem cellsRise_cons (c : Host.Cell) (t : List Host.Cell) :
    cellsRise (c :: t) = true ↔ (∀ d ∈ t, c.1 < d.1) ∧ cellsRise t = true := by
  simp [cellsRise, cellsAbove_iff]

/-- An address below every listed one is not listed. -/
theorem cellAt_below {m : List Host.Cell} {a : Nat} (h : ∀ c ∈ m, a < c.1) : cellAt m a = none := by
  cases m with
  | nil => rfl
  | cons c t =>
    have := h c (by simp)
    obtain ⟨b, v⟩ := c
    simp only [cellAt] at *
    rw [if_neg (by omega), if_neg (by omega)]

theorem mem_putCell {m : List Host.Cell} {a : Nat} {v : Byte} {c : Host.Cell} (h : c ∈ putCell m a v) :
    c = (a, v) ∨ c ∈ m := by
  induction m with
  | nil => simpa [putCell] using h
  | cons d t ih =>
    obtain ⟨b, w⟩ := d
    simp only [putCell] at h
    split at h
    · rcases List.mem_cons.1 h with rfl | h
      · exact .inl rfl
      · exact .inr (List.mem_cons_of_mem _ h)
    · split at h
      · rcases List.mem_cons.1 h with rfl | h
        · exact .inr (by simp)
        · exact (ih h).imp_right (List.mem_cons_of_mem _)
      · simpa using h

theorem mem_eraseCell {m : List Host.Cell} {a : Nat} {c : Host.Cell} (h : c ∈ eraseCell m a) : c ∈ m := by
  induction m with
  | nil => simp [eraseCell] at h
  | cons d t ih =>
    obtain ⟨b, w⟩ := d
    simp only [eraseCell] at h
    split at h
    · exact List.mem_cons_of_mem _ h
    · split at h
      · rcases List.mem_cons.1 h with rfl | h
        · simp
        · exact List.mem_cons_of_mem _ (ih h)
      · exact h

theorem putCell_rise {m : List Host.Cell} (a : Nat) (v : Byte) (h : cellsRise m = true) :
    cellsRise (putCell m a v) = true := by
  induction m with
  | nil => simp [putCell, cellsRise, cellsAbove]
  | cons d t ih =>
    obtain ⟨b, w⟩ := d
    obtain ⟨h1, h2⟩ := (cellsRise_cons _ _).1 h
    simp only [putCell]
    split
    · subst_vars
      exact (cellsRise_cons _ _).2 ⟨h1, h2⟩
    · split
      · refine (cellsRise_cons _ _).2 ⟨fun c hc => ?_, ih h2⟩
        rcases mem_putCell hc with rfl | hc
        · assumption
        · exact h1 c hc
      · refine (cellsRise_cons _ _).2 ⟨fun c hc => ?_, h⟩
        rcases List.mem_cons.1 hc with rfl | hc
        · simp only; omega
        · have := h1 c hc
          simp only at *; omega

theorem eraseCell_rise {m : List Host.Cell} (a : Nat) (h : cellsRise m = true) :
    cellsRise (eraseCell m a) = true := by
  induction m with
  | nil => rfl
  | cons d t ih =>
    obtain ⟨b, w⟩ := d
    obtain ⟨h1, h2⟩ := (cellsRise_cons _ _).1 h
    simp only [eraseCell]
    split
    · exact h2
    · split
      · exact (cellsRise_cons _ _).2 ⟨fun c hc => h1 c (mem_eraseCell hc), ih h2⟩
      · exact h

/-! ### Reading after writing -/

theorem cellAt_putCell (m : List Host.Cell) (a b : Nat) (v : Byte) :
    cellsRise m = true → cellAt (putCell m a v) b = if b = a then some v else cellAt m b := by
  induction m with
  | nil =>
    intro _
    simp only [putCell, cellAt, eq_comm (a := b)]
    split
    · rfl
    · split <;> rfl
  | cons d t ih =>
    obtain ⟨k, w⟩ := d
    intro h
    obtain ⟨h1, h2⟩ := (cellsRise_cons _ _).1 h
    simp only [putCell]
    split
    · subst_vars
      simp only [cellAt]
      by_cases hb : b = k
      · simp [hb]
      · simp only [if_neg hb, if_neg (Ne.symm hb)]
    · split
      · simp only [cellAt, ih h2]
        by_cases hb : b = a
        · subst hb
          rw [if_neg (by omega), if_pos (by assumption), if_pos rfl, if_pos rfl]
        · simp [hb]
      · by_cases hb : b = a
        · subst hb
          simp [cellAt]
        · simp only [cellAt]
          rw [if_neg (by omega), if_neg hb]
          by_cases hab : a < b
          · rw [if_pos hab]
          · rw [if_neg hab, if_neg (by omega), if_neg (by omega)]

theorem cellAt_eraseCell (m : List Host.Cell) (a b : Nat) :
    cellsRise m = true → cellAt (eraseCell m a) b = if b = a then none else cellAt m b := by
  induction m with
  | nil => intro _; simp [eraseCell, cellAt]
  | cons d t ih =>
    obtain ⟨k, w⟩ := d
    intro h
    obtain ⟨h1, h2⟩ := (cellsRise_cons _ _).1 h
    simp only [eraseCell]
    split
    · subst_vars
      by_cases hb : b = k
      · subst hb
        rw [if_pos rfl]
        exact cellAt_below h1
      · rw [if_neg hb]
        simp only [cellAt]
        rw [if_neg (by omega)]
        by_cases hk : k < b
        · rw [if_pos hk]
        · rw [if_neg hk]
          exact cellAt_below (fun c hc => by have := h1 c hc; simp only at this; omega)
    · split
      · simp only [cellAt, ih h2]
        by_cases hb : b = a
        · subst hb
          simp only [if_true]
          rw [if_neg (by omega), if_pos (by assumption)]
        · simp [hb]
      · by_cases hb : b = a
        · subst hb
          simp only [cellAt, if_true]
          rw [if_neg (by omega), if_neg (by omega)]
        · rw [if_neg hb]

/-- A byte written is read back, and every other byte reads as before. -/
theorem Memory.read_write {m : List Host.Cell} (a b : Nat) (v : Byte) (h : cellsRise m = true) :
    Memory.read (Memory.write m a v) b = if b = a then v else Memory.read m b := by
  unfold Memory.read Memory.write
  split
  · subst_vars
    rw [cellAt_eraseCell m a b h]
    split <;> simp
  · rw [cellAt_putCell m a b v h]
    split <;> simp

/-! ### The canonical form -/

theorem Memory.wf_rise {m : List Host.Cell} (h : Memory.wf m = true) : cellsRise m = true := by
  simp only [Memory.wf, Bool.and_eq_true] at h
  exact h.1

/-- The empty memory is canonical. -/
theorem Memory.wf_nil : Memory.wf [] = true := rfl

/-- Writing a byte keeps the canonical form. -/
theorem Memory.write_wf {m : List Host.Cell} (a : Nat) (v : Byte) (h : Memory.wf m = true) :
    Memory.wf (Memory.write m a v) = true := by
  simp only [Memory.wf, Bool.and_eq_true, List.all_eq_true] at h ⊢
  unfold Memory.write
  split
  · exact ⟨eraseCell_rise a h.1, fun c hc => h.2 c (mem_eraseCell hc)⟩
  · refine ⟨putCell_rise a v h.1, fun c hc => ?_⟩
    rcases mem_putCell hc with rfl | hc
    · simpa using ‹¬v = Memory.unlisted›
    · exact h.2 c hc

/-- Writing bytes keeps the canonical form. -/
theorem Memory.writeBytes_wf (bs : List Byte) : ∀ {m : List Host.Cell} (a : Nat), Memory.wf m = true →
    Memory.wf (Memory.writeBytes m a bs) = true := by
  induction bs with
  | nil => exact fun _ h => h
  | cons v t ih => exact fun a h => ih (a + 1) (Memory.write_wf a v h)

/-- Bytes written are read back, and bytes outside them read as before. -/
theorem Memory.read_writeBytes (bs : List Byte) : ∀ {m : List Host.Cell} (a b : Nat), Memory.wf m = true →
    Memory.read (Memory.writeBytes m a bs) b
      = if a ≤ b ∧ b < a + bs.length then bs.getD (b - a) 0 else Memory.read m b := by
  induction bs with
  | nil =>
    intro m a b _
    rw [if_neg (by simp only [List.length_nil]; omega)]
    rfl
  | cons v t ih =>
    intro m a b h
    simp only [Memory.writeBytes, ih (a + 1) b (Memory.write_wf a v h), List.length_cons]
    rw [Memory.read_write a b v (Memory.wf_rise h)]
    by_cases hb : b = a
    · subst hb
      rw [if_neg (by omega), if_pos rfl, if_pos (by omega)]
      simp
    · by_cases hin : a ≤ b ∧ b < a + (t.length + 1)
      · rw [if_pos (by omega), if_pos hin]
        obtain ⟨n, rfl⟩ : ∃ n, b = a + 1 + n := ⟨b - a - 1, by omega⟩
        have e1 : a + 1 + n - (a + 1) = n := by omega
        have e2 : a + 1 + n - a = n + 1 := by omega
        simp [e1, e2]
      · rw [if_neg (by omega), if_neg hin, if_neg hb]

/-! ### Little-endian values -/

theorem natLe_length (n v : Nat) : (natLe n v).length = n := by
  induction n generalizing v with
  | zero => rfl
  | succ n ih => simp [natLe, ih]

theorem leNat_natLe (n : Nat) : ∀ v, leNat (natLe n v) = v % 256 ^ n := by
  induction n with
  | zero => intro v; simp [natLe, leNat, Nat.mod_one]
  | succ n ih =>
    intro v
    simp only [natLe, leNat, ih, BitVec.toNat_ofNat]
    have : (256 : Nat) ^ (n + 1) = 256 * 256 ^ n := by rw [Nat.pow_succ]; omega
    rw [this, Nat.mod_mul]

/-! ### Local stores -/

theorem putCells_rise (bs : List Byte) : ∀ {m : List Host.Cell} (a : Nat), cellsRise m = true →
    cellsRise (putCells m a bs) = true := by
  induction bs with
  | nil => exact fun _ h => h
  | cons v t ih => exact fun a h => ih (a + 1) (putCell_rise a v h)

/-! ### Reset -/

/-- The memory after reset is canonical. -/
theorem reset_mem_wf : Memory.wf State.reset.mem = true := rfl

end Sys2Proof.Machine
end

