-- ==== Sys2Proof/Laws/State.lean ====
section
/-! SUPPORT. What each update of one part of the state leaves as it was: one lemma a field. -/

namespace Sys2Proof.Machine

open Sys2Proof

@[simp] theorem State.setCoach_powered (s : State) (c : Coach) : (s.setCoach c).powered = s.powered := rfl
@[simp] theorem State.setCoach_booted (s : State) (c : Coach) : (s.setCoach c).booted = s.booted := rfl
@[simp] theorem State.setCoach_time (s : State) (c : Coach) : (s.setCoach c).time = s.time := rfl
@[simp] theorem State.setCoach_cycle (s : State) (c : Coach) : (s.setCoach c).cycle = s.cycle := rfl
@[simp] theorem State.setCoach_cycles (s : State) (c : Coach) : (s.setCoach c).cycles = s.cycles := rfl
@[simp] theorem State.setCoach_wdog (s : State) (c : Coach) : (s.setCoach c).wdog = s.wdog := rfl
@[simp] theorem State.setCoach_wdogLive (s : State) (c : Coach) : (s.setCoach c).wdogLive = s.wdogLive := rfl
@[simp] theorem State.setCoach_mem (s : State) (c : Coach) : (s.setCoach c).mem = s.mem := rfl
@[simp] theorem State.setCoach_window (s : State) (c : Coach) : (s.setCoach c).window = s.window := rfl
@[simp] theorem State.setCoach_steward (s : State) (c : Coach) : (s.setCoach c).steward = s.steward := rfl
@[simp] theorem State.setCoach_queues (s : State) (c : Coach) : (s.setCoach c).queues = s.queues := rfl
@[simp] theorem State.setCoach_launches (s : State) (c : Coach) : (s.setCoach c).launches = s.launches := rfl
@[simp] theorem State.setCoach_gangs (s : State) (c : Coach) : (s.setCoach c).gangs = s.gangs := rfl
@[simp] theorem State.setCoach_crews (s : State) (c : Coach) : (s.setCoach c).crews = s.crews := rfl
@[simp] theorem State.setCoach_cores (s : State) (c : Coach) : (s.setCoach c).cores = s.cores := rfl
@[simp] theorem State.setCoach_dies (s : State) (c : Coach) : (s.setCoach c).dies = s.dies := rfl
@[simp] theorem State.setCoach_stamps (s : State) (c : Coach) : (s.setCoach c).stamps = s.stamps := rfl
@[simp] theorem State.setCoach_remote (s : State) (c : Coach) : (s.setCoach c).remote = s.remote := rfl
@[simp] theorem State.setCoach_tlb (s : State) (c : Coach) : (s.setCoach c).tlb = s.tlb := rfl
@[simp] theorem State.setCoach_prefetch (s : State) (c : Coach) : (s.setCoach c).prefetch = s.prefetch := rfl
@[simp] theorem State.setCoach_offered (s : State) (c : Coach) : (s.setCoach c).offered = s.offered := rfl
@[simp] theorem State.setCoach_senders (s : State) (c : Coach) : (s.setCoach c).senders = s.senders := rfl
@[simp] theorem State.setCoach_links (s : State) (c : Coach) : (s.setCoach c).links = s.links := rfl
@[simp] theorem State.setCoach_requests (s : State) (c : Coach) : (s.setCoach c).requests = s.requests := rfl
@[simp] theorem State.setCoach_staleTags (s : State) (c : Coach) : (s.setCoach c).staleTags = s.staleTags := rfl
@[simp] theorem State.setCoach_poison (s : State) (c : Coach) : (s.setCoach c).poison = s.poison := rfl
@[simp] theorem State.setCoach_refused (s : State) (c : Coach) : (s.setCoach c).refused = s.refused := rfl
@[simp] theorem State.setCoach_inbox (s : State) (c : Coach) : (s.setCoach c).inbox = s.inbox := rfl
@[simp] theorem State.setCoach_outbox (s : State) (c : Coach) : (s.setCoach c).outbox = s.outbox := rfl
@[simp] theorem State.setCoach_cur (s : State) (c : Coach) : (s.setCoach c).cur = s.cur := rfl
@[simp] theorem State.setCoach_turn (s : State) (c : Coach) : (s.setCoach c).turn = s.turn := rfl
@[simp] theorem State.setCoach_fresh (s : State) (c : Coach) : (s.setCoach c).fresh = s.fresh := rfl

@[simp] theorem State.setCore_powered (s : State) (k : Core) : (s.setCore k).powered = s.powered := rfl
@[simp] theorem State.setCore_booted (s : State) (k : Core) : (s.setCore k).booted = s.booted := rfl
@[simp] theorem State.setCore_time (s : State) (k : Core) : (s.setCore k).time = s.time := rfl
@[simp] theorem State.setCore_cycle (s : State) (k : Core) : (s.setCore k).cycle = s.cycle := rfl
@[simp] theorem State.setCore_cycles (s : State) (k : Core) : (s.setCore k).cycles = s.cycles := rfl
@[simp] theorem State.setCore_wdog (s : State) (k : Core) : (s.setCore k).wdog = s.wdog := rfl
@[simp] theorem State.setCore_wdogLive (s : State) (k : Core) : (s.setCore k).wdogLive = s.wdogLive := rfl
@[simp] theorem State.setCore_mem (s : State) (k : Core) : (s.setCore k).mem = s.mem := rfl
@[simp] theorem State.setCore_window (s : State) (k : Core) : (s.setCore k).window = s.window := rfl
@[simp] theorem State.setCore_steward (s : State) (k : Core) : (s.setCore k).steward = s.steward := rfl
@[simp] theorem State.setCore_queues (s : State) (k : Core) : (s.setCore k).queues = s.queues := rfl
@[simp] theorem State.setCore_launches (s : State) (k : Core) : (s.setCore k).launches = s.launches := rfl
@[simp] theorem State.setCore_gangs (s : State) (k : Core) : (s.setCore k).gangs = s.gangs := rfl
@[simp] theorem State.setCore_crews (s : State) (k : Core) : (s.setCore k).crews = s.crews := rfl
@[simp] theorem State.setCore_coaches (s : State) (k : Core) : (s.setCore k).coaches = s.coaches := rfl
@[simp] theorem State.setCore_dies (s : State) (k : Core) : (s.setCore k).dies = s.dies := rfl
@[simp] theorem State.setCore_stamps (s : State) (k : Core) : (s.setCore k).stamps = s.stamps := rfl
@[simp] theorem State.setCore_remote (s : State) (k : Core) : (s.setCore k).remote = s.remote := rfl
@[simp] theorem State.setCore_tlb (s : State) (k : Core) : (s.setCore k).tlb = s.tlb := rfl
@[simp] theorem State.setCore_prefetch (s : State) (k : Core) : (s.setCore k).prefetch = s.prefetch := rfl
@[simp] theorem State.setCore_offered (s : State) (k : Core) : (s.setCore k).offered = s.offered := rfl
@[simp] theorem State.setCore_senders (s : State) (k : Core) : (s.setCore k).senders = s.senders := rfl
@[simp] theorem State.setCore_links (s : State) (k : Core) : (s.setCore k).links = s.links := rfl
@[simp] theorem State.setCore_requests (s : State) (k : Core) : (s.setCore k).requests = s.requests := rfl
@[simp] theorem State.setCore_staleTags (s : State) (k : Core) : (s.setCore k).staleTags = s.staleTags := rfl
@[simp] theorem State.setCore_poison (s : State) (k : Core) : (s.setCore k).poison = s.poison := rfl
@[simp] theorem State.setCore_refused (s : State) (k : Core) : (s.setCore k).refused = s.refused := rfl
@[simp] theorem State.setCore_inbox (s : State) (k : Core) : (s.setCore k).inbox = s.inbox := rfl
@[simp] theorem State.setCore_outbox (s : State) (k : Core) : (s.setCore k).outbox = s.outbox := rfl
@[simp] theorem State.setCore_cur (s : State) (k : Core) : (s.setCore k).cur = s.cur := rfl
@[simp] theorem State.setCore_turn (s : State) (k : Core) : (s.setCore k).turn = s.turn := rfl
@[simp] theorem State.setCore_fresh (s : State) (k : Core) : (s.setCore k).fresh = s.fresh := rfl

@[simp] theorem State.setLaunch_powered (s : State) (l : Launch) : (s.setLaunch l).powered = s.powered := rfl
@[simp] theorem State.setLaunch_booted (s : State) (l : Launch) : (s.setLaunch l).booted = s.booted := rfl
@[simp] theorem State.setLaunch_time (s : State) (l : Launch) : (s.setLaunch l).time = s.time := rfl
@[simp] theorem State.setLaunch_cycle (s : State) (l : Launch) : (s.setLaunch l).cycle = s.cycle := rfl
@[simp] theorem State.setLaunch_cycles (s : State) (l : Launch) : (s.setLaunch l).cycles = s.cycles := rfl
@[simp] theorem State.setLaunch_wdog (s : State) (l : Launch) : (s.setLaunch l).wdog = s.wdog := rfl
@[simp] theorem State.setLaunch_wdogLive (s : State) (l : Launch) : (s.setLaunch l).wdogLive = s.wdogLive := rfl
@[simp] theorem State.setLaunch_mem (s : State) (l : Launch) : (s.setLaunch l).mem = s.mem := rfl
@[simp] theorem State.setLaunch_window (s : State) (l : Launch) : (s.setLaunch l).window = s.window := rfl
@[simp] theorem State.setLaunch_steward (s : State) (l : Launch) : (s.setLaunch l).steward = s.steward := rfl
@[simp] theorem State.setLaunch_queues (s : State) (l : Launch) : (s.setLaunch l).queues = s.queues := rfl
@[simp] theorem State.setLaunch_gangs (s : State) (l : Launch) : (s.setLaunch l).gangs = s.gangs := rfl
@[simp] theorem State.setLaunch_crews (s : State) (l : Launch) : (s.setLaunch l).crews = s.crews := rfl
@[simp] theorem State.setLaunch_coaches (s : State) (l : Launch) : (s.setLaunch l).coaches = s.coaches := rfl
@[simp] theorem State.setLaunch_cores (s : State) (l : Launch) : (s.setLaunch l).cores = s.cores := rfl
@[simp] theorem State.setLaunch_dies (s : State) (l : Launch) : (s.setLaunch l).dies = s.dies := rfl
@[simp] theorem State.setLaunch_stamps (s : State) (l : Launch) : (s.setLaunch l).stamps = s.stamps := rfl
@[simp] theorem State.setLaunch_remote (s : State) (l : Launch) : (s.setLaunch l).remote = s.remote := rfl
@[simp] theorem State.setLaunch_tlb (s : State) (l : Launch) : (s.setLaunch l).tlb = s.tlb := rfl
@[simp] theorem State.setLaunch_prefetch (s : State) (l : Launch) : (s.setLaunch l).prefetch = s.prefetch := rfl
@[simp] theorem State.setLaunch_offered (s : State) (l : Launch) : (s.setLaunch l).offered = s.offered := rfl
@[simp] theorem State.setLaunch_senders (s : State) (l : Launch) : (s.setLaunch l).senders = s.senders := rfl
@[simp] theorem State.setLaunch_links (s : State) (l : Launch) : (s.setLaunch l).links = s.links := rfl
@[simp] theorem State.setLaunch_requests (s : State) (l : Launch) : (s.setLaunch l).requests = s.requests := rfl
@[simp] theorem State.setLaunch_staleTags (s : State) (l : Launch) : (s.setLaunch l).staleTags = s.staleTags := rfl
@[simp] theorem State.setLaunch_poison (s : State) (l : Launch) : (s.setLaunch l).poison = s.poison := rfl
@[simp] theorem State.setLaunch_refused (s : State) (l : Launch) : (s.setLaunch l).refused = s.refused := rfl
@[simp] theorem State.setLaunch_inbox (s : State) (l : Launch) : (s.setLaunch l).inbox = s.inbox := rfl
@[simp] theorem State.setLaunch_outbox (s : State) (l : Launch) : (s.setLaunch l).outbox = s.outbox := rfl
@[simp] theorem State.setLaunch_cur (s : State) (l : Launch) : (s.setLaunch l).cur = s.cur := rfl
@[simp] theorem State.setLaunch_turn (s : State) (l : Launch) : (s.setLaunch l).turn = s.turn := rfl
@[simp] theorem State.setLaunch_fresh (s : State) (l : Launch) : (s.setLaunch l).fresh = s.fresh := rfl

@[simp] theorem State.setGang_powered (s : State) (g : Gang) : (s.setGang g).powered = s.powered := rfl
@[simp] theorem State.setGang_booted (s : State) (g : Gang) : (s.setGang g).booted = s.booted := rfl
@[simp] theorem State.setGang_time (s : State) (g : Gang) : (s.setGang g).time = s.time := rfl
@[simp] theorem State.setGang_cycle (s : State) (g : Gang) : (s.setGang g).cycle = s.cycle := rfl
@[simp] theorem State.setGang_cycles (s : State) (g : Gang) : (s.setGang g).cycles = s.cycles := rfl
@[simp] theorem State.setGang_wdog (s : State) (g : Gang) : (s.setGang g).wdog = s.wdog := rfl
@[simp] theorem State.setGang_wdogLive (s : State) (g : Gang) : (s.setGang g).wdogLive = s.wdogLive := rfl
@[simp] theorem State.setGang_mem (s : State) (g : Gang) : (s.setGang g).mem = s.mem := rfl
@[simp] theorem State.setGang_window (s : State) (g : Gang) : (s.setGang g).window = s.window := rfl
@[simp] theorem State.setGang_steward (s : State) (g : Gang) : (s.setGang g).steward = s.steward := rfl
@[simp] theorem State.setGang_queues (s : State) (g : Gang) : (s.setGang g).queues = s.queues := rfl
@[simp] theorem State.setGang_launches (s : State) (g : Gang) : (s.setGang g).launches = s.launches := rfl
@[simp] theorem State.setGang_crews (s : State) (g : Gang) : (s.setGang g).crews = s.crews := rfl
@[simp] theorem State.setGang_coaches (s : State) (g : Gang) : (s.setGang g).coaches = s.coaches := rfl
@[simp] theorem State.setGang_cores (s : State) (g : Gang) : (s.setGang g).cores = s.cores := rfl
@[simp] theorem State.setGang_dies (s : State) (g : Gang) : (s.setGang g).dies = s.dies := rfl
@[simp] theorem State.setGang_stamps (s : State) (g : Gang) : (s.setGang g).stamps = s.stamps := rfl
@[simp] theorem State.setGang_remote (s : State) (g : Gang) : (s.setGang g).remote = s.remote := rfl
@[simp] theorem State.setGang_tlb (s : State) (g : Gang) : (s.setGang g).tlb = s.tlb := rfl
@[simp] theorem State.setGang_prefetch (s : State) (g : Gang) : (s.setGang g).prefetch = s.prefetch := rfl
@[simp] theorem State.setGang_offered (s : State) (g : Gang) : (s.setGang g).offered = s.offered := rfl
@[simp] theorem State.setGang_senders (s : State) (g : Gang) : (s.setGang g).senders = s.senders := rfl
@[simp] theorem State.setGang_links (s : State) (g : Gang) : (s.setGang g).links = s.links := rfl
@[simp] theorem State.setGang_requests (s : State) (g : Gang) : (s.setGang g).requests = s.requests := rfl
@[simp] theorem State.setGang_staleTags (s : State) (g : Gang) : (s.setGang g).staleTags = s.staleTags := rfl
@[simp] theorem State.setGang_poison (s : State) (g : Gang) : (s.setGang g).poison = s.poison := rfl
@[simp] theorem State.setGang_refused (s : State) (g : Gang) : (s.setGang g).refused = s.refused := rfl
@[simp] theorem State.setGang_inbox (s : State) (g : Gang) : (s.setGang g).inbox = s.inbox := rfl
@[simp] theorem State.setGang_outbox (s : State) (g : Gang) : (s.setGang g).outbox = s.outbox := rfl
@[simp] theorem State.setGang_cur (s : State) (g : Gang) : (s.setGang g).cur = s.cur := rfl
@[simp] theorem State.setGang_turn (s : State) (g : Gang) : (s.setGang g).turn = s.turn := rfl
@[simp] theorem State.setGang_fresh (s : State) (g : Gang) : (s.setGang g).fresh = s.fresh := rfl

@[simp] theorem State.setCrew_powered (s : State) (k : Crew) : (s.setCrew k).powered = s.powered := rfl
@[simp] theorem State.setCrew_booted (s : State) (k : Crew) : (s.setCrew k).booted = s.booted := rfl
@[simp] theorem State.setCrew_time (s : State) (k : Crew) : (s.setCrew k).time = s.time := rfl
@[simp] theorem State.setCrew_cycle (s : State) (k : Crew) : (s.setCrew k).cycle = s.cycle := rfl
@[simp] theorem State.setCrew_cycles (s : State) (k : Crew) : (s.setCrew k).cycles = s.cycles := rfl
@[simp] theorem State.setCrew_wdog (s : State) (k : Crew) : (s.setCrew k).wdog = s.wdog := rfl
@[simp] theorem State.setCrew_wdogLive (s : State) (k : Crew) : (s.setCrew k).wdogLive = s.wdogLive := rfl
@[simp] theorem State.setCrew_mem (s : State) (k : Crew) : (s.setCrew k).mem = s.mem := rfl
@[simp] theorem State.setCrew_window (s : State) (k : Crew) : (s.setCrew k).window = s.window := rfl
@[simp] theorem State.setCrew_steward (s : State) (k : Crew) : (s.setCrew k).steward = s.steward := rfl
@[simp] theorem State.setCrew_queues (s : State) (k : Crew) : (s.setCrew k).queues = s.queues := rfl
@[simp] theorem State.setCrew_launches (s : State) (k : Crew) : (s.setCrew k).launches = s.launches := rfl
@[simp] theorem State.setCrew_gangs (s : State) (k : Crew) : (s.setCrew k).gangs = s.gangs := rfl
@[simp] theorem State.setCrew_coaches (s : State) (k : Crew) : (s.setCrew k).coaches = s.coaches := rfl
@[simp] theorem State.setCrew_cores (s : State) (k : Crew) : (s.setCrew k).cores = s.cores := rfl
@[simp] theorem State.setCrew_dies (s : State) (k : Crew) : (s.setCrew k).dies = s.dies := rfl
@[simp] theorem State.setCrew_stamps (s : State) (k : Crew) : (s.setCrew k).stamps = s.stamps := rfl
@[simp] theorem State.setCrew_remote (s : State) (k : Crew) : (s.setCrew k).remote = s.remote := rfl
@[simp] theorem State.setCrew_tlb (s : State) (k : Crew) : (s.setCrew k).tlb = s.tlb := rfl
@[simp] theorem State.setCrew_prefetch (s : State) (k : Crew) : (s.setCrew k).prefetch = s.prefetch := rfl
@[simp] theorem State.setCrew_offered (s : State) (k : Crew) : (s.setCrew k).offered = s.offered := rfl
@[simp] theorem State.setCrew_senders (s : State) (k : Crew) : (s.setCrew k).senders = s.senders := rfl
@[simp] theorem State.setCrew_links (s : State) (k : Crew) : (s.setCrew k).links = s.links := rfl
@[simp] theorem State.setCrew_requests (s : State) (k : Crew) : (s.setCrew k).requests = s.requests := rfl
@[simp] theorem State.setCrew_staleTags (s : State) (k : Crew) : (s.setCrew k).staleTags = s.staleTags := rfl
@[simp] theorem State.setCrew_poison (s : State) (k : Crew) : (s.setCrew k).poison = s.poison := rfl
@[simp] theorem State.setCrew_refused (s : State) (k : Crew) : (s.setCrew k).refused = s.refused := rfl
@[simp] theorem State.setCrew_inbox (s : State) (k : Crew) : (s.setCrew k).inbox = s.inbox := rfl
@[simp] theorem State.setCrew_outbox (s : State) (k : Crew) : (s.setCrew k).outbox = s.outbox := rfl
@[simp] theorem State.setCrew_cur (s : State) (k : Crew) : (s.setCrew k).cur = s.cur := rfl
@[simp] theorem State.setCrew_turn (s : State) (k : Crew) : (s.setCrew k).turn = s.turn := rfl
@[simp] theorem State.setCrew_fresh (s : State) (k : Crew) : (s.setCrew k).fresh = s.fresh := rfl

@[simp] theorem State.setQueue_powered (s : State) (q : BitVec 6) (v : Queue) : (s.setQueue q v).powered = s.powered := rfl
@[simp] theorem State.setQueue_booted (s : State) (q : BitVec 6) (v : Queue) : (s.setQueue q v).booted = s.booted := rfl
@[simp] theorem State.setQueue_time (s : State) (q : BitVec 6) (v : Queue) : (s.setQueue q v).time = s.time := rfl
@[simp] theorem State.setQueue_cycle (s : State) (q : BitVec 6) (v : Queue) : (s.setQueue q v).cycle = s.cycle := rfl
@[simp] theorem State.setQueue_cycles (s : State) (q : BitVec 6) (v : Queue) : (s.setQueue q v).cycles = s.cycles := rfl
@[simp] theorem State.setQueue_wdog (s : State) (q : BitVec 6) (v : Queue) : (s.setQueue q v).wdog = s.wdog := rfl
@[simp] theorem State.setQueue_wdogLive (s : State) (q : BitVec 6) (v : Queue) : (s.setQueue q v).wdogLive = s.wdogLive := rfl
@[simp] theorem State.setQueue_mem (s : State) (q : BitVec 6) (v : Queue) : (s.setQueue q v).mem = s.mem := rfl
@[simp] theorem State.setQueue_window (s : State) (q : BitVec 6) (v : Queue) : (s.setQueue q v).window = s.window := rfl
@[simp] theorem State.setQueue_steward (s : State) (q : BitVec 6) (v : Queue) : (s.setQueue q v).steward = s.steward := rfl
@[simp] theorem State.setQueue_launches (s : State) (q : BitVec 6) (v : Queue) : (s.setQueue q v).launches = s.launches := rfl
@[simp] theorem State.setQueue_gangs (s : State) (q : BitVec 6) (v : Queue) : (s.setQueue q v).gangs = s.gangs := rfl
@[simp] theorem State.setQueue_crews (s : State) (q : BitVec 6) (v : Queue) : (s.setQueue q v).crews = s.crews := rfl
@[simp] theorem State.setQueue_coaches (s : State) (q : BitVec 6) (v : Queue) : (s.setQueue q v).coaches = s.coaches := rfl
@[simp] theorem State.setQueue_cores (s : State) (q : BitVec 6) (v : Queue) : (s.setQueue q v).cores = s.cores := rfl
@[simp] theorem State.setQueue_dies (s : State) (q : BitVec 6) (v : Queue) : (s.setQueue q v).dies = s.dies := rfl
@[simp] theorem State.setQueue_stamps (s : State) (q : BitVec 6) (v : Queue) : (s.setQueue q v).stamps = s.stamps := rfl
@[simp] theorem State.setQueue_remote (s : State) (q : BitVec 6) (v : Queue) : (s.setQueue q v).remote = s.remote := rfl
@[simp] theorem State.setQueue_tlb (s : State) (q : BitVec 6) (v : Queue) : (s.setQueue q v).tlb = s.tlb := rfl
@[simp] theorem State.setQueue_prefetch (s : State) (q : BitVec 6) (v : Queue) : (s.setQueue q v).prefetch = s.prefetch := rfl
@[simp] theorem State.setQueue_offered (s : State) (q : BitVec 6) (v : Queue) : (s.setQueue q v).offered = s.offered := rfl
@[simp] theorem State.setQueue_senders (s : State) (q : BitVec 6) (v : Queue) : (s.setQueue q v).senders = s.senders := rfl
@[simp] theorem State.setQueue_links (s : State) (q : BitVec 6) (v : Queue) : (s.setQueue q v).links = s.links := rfl
@[simp] theorem State.setQueue_requests (s : State) (q : BitVec 6) (v : Queue) : (s.setQueue q v).requests = s.requests := rfl
@[simp] theorem State.setQueue_staleTags (s : State) (q : BitVec 6) (v : Queue) : (s.setQueue q v).staleTags = s.staleTags := rfl
@[simp] theorem State.setQueue_poison (s : State) (q : BitVec 6) (v : Queue) : (s.setQueue q v).poison = s.poison := rfl
@[simp] theorem State.setQueue_refused (s : State) (q : BitVec 6) (v : Queue) : (s.setQueue q v).refused = s.refused := rfl
@[simp] theorem State.setQueue_inbox (s : State) (q : BitVec 6) (v : Queue) : (s.setQueue q v).inbox = s.inbox := rfl
@[simp] theorem State.setQueue_outbox (s : State) (q : BitVec 6) (v : Queue) : (s.setQueue q v).outbox = s.outbox := rfl
@[simp] theorem State.setQueue_cur (s : State) (q : BitVec 6) (v : Queue) : (s.setQueue q v).cur = s.cur := rfl
@[simp] theorem State.setQueue_turn (s : State) (q : BitVec 6) (v : Queue) : (s.setQueue q v).turn = s.turn := rfl
@[simp] theorem State.setQueue_fresh (s : State) (q : BitVec 6) (v : Queue) : (s.setQueue q v).fresh = s.fresh := rfl

@[simp] theorem State.setDie_powered (s : State) (d : Die) : (s.setDie d).powered = s.powered := rfl
@[simp] theorem State.setDie_booted (s : State) (d : Die) : (s.setDie d).booted = s.booted := rfl
@[simp] theorem State.setDie_time (s : State) (d : Die) : (s.setDie d).time = s.time := rfl
@[simp] theorem State.setDie_cycle (s : State) (d : Die) : (s.setDie d).cycle = s.cycle := rfl
@[simp] theorem State.setDie_cycles (s : State) (d : Die) : (s.setDie d).cycles = s.cycles := rfl
@[simp] theorem State.setDie_wdog (s : State) (d : Die) : (s.setDie d).wdog = s.wdog := rfl
@[simp] theorem State.setDie_wdogLive (s : State) (d : Die) : (s.setDie d).wdogLive = s.wdogLive := rfl
@[simp] theorem State.setDie_mem (s : State) (d : Die) : (s.setDie d).mem = s.mem := rfl
@[simp] theorem State.setDie_window (s : State) (d : Die) : (s.setDie d).window = s.window := rfl
@[simp] theorem State.setDie_steward (s : State) (d : Die) : (s.setDie d).steward = s.steward := rfl
@[simp] theorem State.setDie_queues (s : State) (d : Die) : (s.setDie d).queues = s.queues := rfl
@[simp] theorem State.setDie_launches (s : State) (d : Die) : (s.setDie d).launches = s.launches := rfl
@[simp] theorem State.setDie_gangs (s : State) (d : Die) : (s.setDie d).gangs = s.gangs := rfl
@[simp] theorem State.setDie_crews (s : State) (d : Die) : (s.setDie d).crews = s.crews := rfl
@[simp] theorem State.setDie_coaches (s : State) (d : Die) : (s.setDie d).coaches = s.coaches := rfl
@[simp] theorem State.setDie_cores (s : State) (d : Die) : (s.setDie d).cores = s.cores := rfl
@[simp] theorem State.setDie_stamps (s : State) (d : Die) : (s.setDie d).stamps = s.stamps := rfl
@[simp] theorem State.setDie_remote (s : State) (d : Die) : (s.setDie d).remote = s.remote := rfl
@[simp] theorem State.setDie_tlb (s : State) (d : Die) : (s.setDie d).tlb = s.tlb := rfl
@[simp] theorem State.setDie_prefetch (s : State) (d : Die) : (s.setDie d).prefetch = s.prefetch := rfl
@[simp] theorem State.setDie_offered (s : State) (d : Die) : (s.setDie d).offered = s.offered := rfl
@[simp] theorem State.setDie_senders (s : State) (d : Die) : (s.setDie d).senders = s.senders := rfl
@[simp] theorem State.setDie_links (s : State) (d : Die) : (s.setDie d).links = s.links := rfl
@[simp] theorem State.setDie_requests (s : State) (d : Die) : (s.setDie d).requests = s.requests := rfl
@[simp] theorem State.setDie_staleTags (s : State) (d : Die) : (s.setDie d).staleTags = s.staleTags := rfl
@[simp] theorem State.setDie_poison (s : State) (d : Die) : (s.setDie d).poison = s.poison := rfl
@[simp] theorem State.setDie_refused (s : State) (d : Die) : (s.setDie d).refused = s.refused := rfl
@[simp] theorem State.setDie_inbox (s : State) (d : Die) : (s.setDie d).inbox = s.inbox := rfl
@[simp] theorem State.setDie_outbox (s : State) (d : Die) : (s.setDie d).outbox = s.outbox := rfl
@[simp] theorem State.setDie_cur (s : State) (d : Die) : (s.setDie d).cur = s.cur := rfl
@[simp] theorem State.setDie_turn (s : State) (d : Die) : (s.setDie d).turn = s.turn := rfl
@[simp] theorem State.setDie_fresh (s : State) (d : Die) : (s.setDie d).fresh = s.fresh := rfl

@[simp] theorem State.setStamp_powered (s : State) (t : LineStamp) : (s.setStamp t).powered = s.powered := rfl
@[simp] theorem State.setStamp_booted (s : State) (t : LineStamp) : (s.setStamp t).booted = s.booted := rfl
@[simp] theorem State.setStamp_time (s : State) (t : LineStamp) : (s.setStamp t).time = s.time := rfl
@[simp] theorem State.setStamp_cycle (s : State) (t : LineStamp) : (s.setStamp t).cycle = s.cycle := rfl
@[simp] theorem State.setStamp_cycles (s : State) (t : LineStamp) : (s.setStamp t).cycles = s.cycles := rfl
@[simp] theorem State.setStamp_wdog (s : State) (t : LineStamp) : (s.setStamp t).wdog = s.wdog := rfl
@[simp] theorem State.setStamp_wdogLive (s : State) (t : LineStamp) : (s.setStamp t).wdogLive = s.wdogLive := rfl
@[simp] theorem State.setStamp_mem (s : State) (t : LineStamp) : (s.setStamp t).mem = s.mem := rfl
@[simp] theorem State.setStamp_window (s : State) (t : LineStamp) : (s.setStamp t).window = s.window := rfl
@[simp] theorem State.setStamp_steward (s : State) (t : LineStamp) : (s.setStamp t).steward = s.steward := rfl
@[simp] theorem State.setStamp_queues (s : State) (t : LineStamp) : (s.setStamp t).queues = s.queues := rfl
@[simp] theorem State.setStamp_launches (s : State) (t : LineStamp) : (s.setStamp t).launches = s.launches := rfl
@[simp] theorem State.setStamp_gangs (s : State) (t : LineStamp) : (s.setStamp t).gangs = s.gangs := rfl
@[simp] theorem State.setStamp_crews (s : State) (t : LineStamp) : (s.setStamp t).crews = s.crews := rfl
@[simp] theorem State.setStamp_coaches (s : State) (t : LineStamp) : (s.setStamp t).coaches = s.coaches := rfl
@[simp] theorem State.setStamp_cores (s : State) (t : LineStamp) : (s.setStamp t).cores = s.cores := rfl
@[simp] theorem State.setStamp_dies (s : State) (t : LineStamp) : (s.setStamp t).dies = s.dies := rfl
@[simp] theorem State.setStamp_remote (s : State) (t : LineStamp) : (s.setStamp t).remote = s.remote := rfl
@[simp] theorem State.setStamp_tlb (s : State) (t : LineStamp) : (s.setStamp t).tlb = s.tlb := rfl
@[simp] theorem State.setStamp_prefetch (s : State) (t : LineStamp) : (s.setStamp t).prefetch = s.prefetch := rfl
@[simp] theorem State.setStamp_offered (s : State) (t : LineStamp) : (s.setStamp t).offered = s.offered := rfl
@[simp] theorem State.setStamp_senders (s : State) (t : LineStamp) : (s.setStamp t).senders = s.senders := rfl
@[simp] theorem State.setStamp_links (s : State) (t : LineStamp) : (s.setStamp t).links = s.links := rfl
@[simp] theorem State.setStamp_requests (s : State) (t : LineStamp) : (s.setStamp t).requests = s.requests := rfl
@[simp] theorem State.setStamp_staleTags (s : State) (t : LineStamp) : (s.setStamp t).staleTags = s.staleTags := rfl
@[simp] theorem State.setStamp_poison (s : State) (t : LineStamp) : (s.setStamp t).poison = s.poison := rfl
@[simp] theorem State.setStamp_refused (s : State) (t : LineStamp) : (s.setStamp t).refused = s.refused := rfl
@[simp] theorem State.setStamp_inbox (s : State) (t : LineStamp) : (s.setStamp t).inbox = s.inbox := rfl
@[simp] theorem State.setStamp_outbox (s : State) (t : LineStamp) : (s.setStamp t).outbox = s.outbox := rfl
@[simp] theorem State.setStamp_cur (s : State) (t : LineStamp) : (s.setStamp t).cur = s.cur := rfl
@[simp] theorem State.setStamp_turn (s : State) (t : LineStamp) : (s.setStamp t).turn = s.turn := rfl
@[simp] theorem State.setStamp_fresh (s : State) (t : LineStamp) : (s.setStamp t).fresh = s.fresh := rfl

@[simp] theorem State.setSender_powered (s : State) (k : Sender) : (s.setSender k).powered = s.powered := rfl
@[simp] theorem State.setSender_booted (s : State) (k : Sender) : (s.setSender k).booted = s.booted := rfl
@[simp] theorem State.setSender_time (s : State) (k : Sender) : (s.setSender k).time = s.time := rfl
@[simp] theorem State.setSender_cycle (s : State) (k : Sender) : (s.setSender k).cycle = s.cycle := rfl
@[simp] theorem State.setSender_cycles (s : State) (k : Sender) : (s.setSender k).cycles = s.cycles := rfl
@[simp] theorem State.setSender_wdog (s : State) (k : Sender) : (s.setSender k).wdog = s.wdog := rfl
@[simp] theorem State.setSender_wdogLive (s : State) (k : Sender) : (s.setSender k).wdogLive = s.wdogLive := rfl
@[simp] theorem State.setSender_mem (s : State) (k : Sender) : (s.setSender k).mem = s.mem := rfl
@[simp] theorem State.setSender_window (s : State) (k : Sender) : (s.setSender k).window = s.window := rfl
@[simp] theorem State.setSender_steward (s : State) (k : Sender) : (s.setSender k).steward = s.steward := rfl
@[simp] theorem State.setSender_queues (s : State) (k : Sender) : (s.setSender k).queues = s.queues := rfl
@[simp] theorem State.setSender_launches (s : State) (k : Sender) : (s.setSender k).launches = s.launches := rfl
@[simp] theorem State.setSender_gangs (s : State) (k : Sender) : (s.setSender k).gangs = s.gangs := rfl
@[simp] theorem State.setSender_crews (s : State) (k : Sender) : (s.setSender k).crews = s.crews := rfl
@[simp] theorem State.setSender_coaches (s : State) (k : Sender) : (s.setSender k).coaches = s.coaches := rfl
@[simp] theorem State.setSender_cores (s : State) (k : Sender) : (s.setSender k).cores = s.cores := rfl
@[simp] theorem State.setSender_dies (s : State) (k : Sender) : (s.setSender k).dies = s.dies := rfl
@[simp] theorem State.setSender_stamps (s : State) (k : Sender) : (s.setSender k).stamps = s.stamps := rfl
@[simp] theorem State.setSender_remote (s : State) (k : Sender) : (s.setSender k).remote = s.remote := rfl
@[simp] theorem State.setSender_tlb (s : State) (k : Sender) : (s.setSender k).tlb = s.tlb := rfl
@[simp] theorem State.setSender_prefetch (s : State) (k : Sender) : (s.setSender k).prefetch = s.prefetch := rfl
@[simp] theorem State.setSender_offered (s : State) (k : Sender) : (s.setSender k).offered = s.offered := rfl
@[simp] theorem State.setSender_links (s : State) (k : Sender) : (s.setSender k).links = s.links := rfl
@[simp] theorem State.setSender_requests (s : State) (k : Sender) : (s.setSender k).requests = s.requests := rfl
@[simp] theorem State.setSender_staleTags (s : State) (k : Sender) : (s.setSender k).staleTags = s.staleTags := rfl
@[simp] theorem State.setSender_poison (s : State) (k : Sender) : (s.setSender k).poison = s.poison := rfl
@[simp] theorem State.setSender_refused (s : State) (k : Sender) : (s.setSender k).refused = s.refused := rfl
@[simp] theorem State.setSender_inbox (s : State) (k : Sender) : (s.setSender k).inbox = s.inbox := rfl
@[simp] theorem State.setSender_outbox (s : State) (k : Sender) : (s.setSender k).outbox = s.outbox := rfl
@[simp] theorem State.setSender_cur (s : State) (k : Sender) : (s.setSender k).cur = s.cur := rfl
@[simp] theorem State.setSender_turn (s : State) (k : Sender) : (s.setSender k).turn = s.turn := rfl
@[simp] theorem State.setSender_fresh (s : State) (k : Sender) : (s.setSender k).fresh = s.fresh := rfl

@[simp] theorem State.send_powered (s : State) (n : BitVec 4) (p : Packet) : (s.send n p).powered = s.powered := rfl
@[simp] theorem State.send_booted (s : State) (n : BitVec 4) (p : Packet) : (s.send n p).booted = s.booted := rfl
@[simp] theorem State.send_time (s : State) (n : BitVec 4) (p : Packet) : (s.send n p).time = s.time := rfl
@[simp] theorem State.send_cycle (s : State) (n : BitVec 4) (p : Packet) : (s.send n p).cycle = s.cycle := rfl
@[simp] theorem State.send_cycles (s : State) (n : BitVec 4) (p : Packet) : (s.send n p).cycles = s.cycles := rfl
@[simp] theorem State.send_wdog (s : State) (n : BitVec 4) (p : Packet) : (s.send n p).wdog = s.wdog := rfl
@[simp] theorem State.send_wdogLive (s : State) (n : BitVec 4) (p : Packet) : (s.send n p).wdogLive = s.wdogLive := rfl
@[simp] theorem State.send_mem (s : State) (n : BitVec 4) (p : Packet) : (s.send n p).mem = s.mem := rfl
@[simp] theorem State.send_window (s : State) (n : BitVec 4) (p : Packet) : (s.send n p).window = s.window := rfl
@[simp] theorem State.send_steward (s : State) (n : BitVec 4) (p : Packet) : (s.send n p).steward = s.steward := rfl
@[simp] theorem State.send_queues (s : State) (n : BitVec 4) (p : Packet) : (s.send n p).queues = s.queues := rfl
@[simp] theorem State.send_launches (s : State) (n : BitVec 4) (p : Packet) : (s.send n p).launches = s.launches := rfl
@[simp] theorem State.send_gangs (s : State) (n : BitVec 4) (p : Packet) : (s.send n p).gangs = s.gangs := rfl
@[simp] theorem State.send_crews (s : State) (n : BitVec 4) (p : Packet) : (s.send n p).crews = s.crews := rfl
@[simp] theorem State.send_coaches (s : State) (n : BitVec 4) (p : Packet) : (s.send n p).coaches = s.coaches := rfl
@[simp] theorem State.send_cores (s : State) (n : BitVec 4) (p : Packet) : (s.send n p).cores = s.cores := rfl
@[simp] theorem State.send_dies (s : State) (n : BitVec 4) (p : Packet) : (s.send n p).dies = s.dies := rfl
@[simp] theorem State.send_stamps (s : State) (n : BitVec 4) (p : Packet) : (s.send n p).stamps = s.stamps := rfl
@[simp] theorem State.send_remote (s : State) (n : BitVec 4) (p : Packet) : (s.send n p).remote = s.remote := rfl
@[simp] theorem State.send_tlb (s : State) (n : BitVec 4) (p : Packet) : (s.send n p).tlb = s.tlb := rfl
@[simp] theorem State.send_prefetch (s : State) (n : BitVec 4) (p : Packet) : (s.send n p).prefetch = s.prefetch := rfl
@[simp] theorem State.send_offered (s : State) (n : BitVec 4) (p : Packet) : (s.send n p).offered = s.offered := rfl
@[simp] theorem State.send_senders (s : State) (n : BitVec 4) (p : Packet) : (s.send n p).senders = s.senders := rfl
@[simp] theorem State.send_links (s : State) (n : BitVec 4) (p : Packet) : (s.send n p).links = s.links := rfl
@[simp] theorem State.send_requests (s : State) (n : BitVec 4) (p : Packet) : (s.send n p).requests = s.requests := rfl
@[simp] theorem State.send_staleTags (s : State) (n : BitVec 4) (p : Packet) : (s.send n p).staleTags = s.staleTags := rfl
@[simp] theorem State.send_poison (s : State) (n : BitVec 4) (p : Packet) : (s.send n p).poison = s.poison := rfl
@[simp] theorem State.send_refused (s : State) (n : BitVec 4) (p : Packet) : (s.send n p).refused = s.refused := rfl
@[simp] theorem State.send_inbox (s : State) (n : BitVec 4) (p : Packet) : (s.send n p).inbox = s.inbox := rfl
@[simp] theorem State.send_cur (s : State) (n : BitVec 4) (p : Packet) : (s.send n p).cur = s.cur := rfl
@[simp] theorem State.send_turn (s : State) (n : BitVec 4) (p : Packet) : (s.send n p).turn = s.turn := rfl
@[simp] theorem State.send_fresh (s : State) (n : BitVec 4) (p : Packet) : (s.send n p).fresh = s.fresh := rfl

@[simp] theorem State.joinWindow_powered (s : State) (id : SenderId) (o : Option (CoachId × DWord)) (p : Packet) : (s.joinWindow id o p).powered = s.powered := rfl
@[simp] theorem State.joinWindow_booted (s : State) (id : SenderId) (o : Option (CoachId × DWord)) (p : Packet) : (s.joinWindow id o p).booted = s.booted := rfl
@[simp] theorem State.joinWindow_time (s : State) (id : SenderId) (o : Option (CoachId × DWord)) (p : Packet) : (s.joinWindow id o p).time = s.time := rfl
@[simp] theorem State.joinWindow_cycle (s : State) (id : SenderId) (o : Option (CoachId × DWord)) (p : Packet) : (s.joinWindow id o p).cycle = s.cycle := rfl
@[simp] theorem State.joinWindow_cycles (s : State) (id : SenderId) (o : Option (CoachId × DWord)) (p : Packet) : (s.joinWindow id o p).cycles = s.cycles := rfl
@[simp] theorem State.joinWindow_wdog (s : State) (id : SenderId) (o : Option (CoachId × DWord)) (p : Packet) : (s.joinWindow id o p).wdog = s.wdog := rfl
@[simp] theorem State.joinWindow_wdogLive (s : State) (id : SenderId) (o : Option (CoachId × DWord)) (p : Packet) : (s.joinWindow id o p).wdogLive = s.wdogLive := rfl
@[simp] theorem State.joinWindow_mem (s : State) (id : SenderId) (o : Option (CoachId × DWord)) (p : Packet) : (s.joinWindow id o p).mem = s.mem := rfl
@[simp] theorem State.joinWindow_window (s : State) (id : SenderId) (o : Option (CoachId × DWord)) (p : Packet) : (s.joinWindow id o p).window = s.window := rfl
@[simp] theorem State.joinWindow_steward (s : State) (id : SenderId) (o : Option (CoachId × DWord)) (p : Packet) : (s.joinWindow id o p).steward = s.steward := rfl
@[simp] theorem State.joinWindow_queues (s : State) (id : SenderId) (o : Option (CoachId × DWord)) (p : Packet) : (s.joinWindow id o p).queues = s.queues := rfl
@[simp] theorem State.joinWindow_launches (s : State) (id : SenderId) (o : Option (CoachId × DWord)) (p : Packet) : (s.joinWindow id o p).launches = s.launches := rfl
@[simp] theorem State.joinWindow_gangs (s : State) (id : SenderId) (o : Option (CoachId × DWord)) (p : Packet) : (s.joinWindow id o p).gangs = s.gangs := rfl
@[simp] theorem State.joinWindow_crews (s : State) (id : SenderId) (o : Option (CoachId × DWord)) (p : Packet) : (s.joinWindow id o p).crews = s.crews := rfl
@[simp] theorem State.joinWindow_coaches (s : State) (id : SenderId) (o : Option (CoachId × DWord)) (p : Packet) : (s.joinWindow id o p).coaches = s.coaches := rfl
@[simp] theorem State.joinWindow_cores (s : State) (id : SenderId) (o : Option (CoachId × DWord)) (p : Packet) : (s.joinWindow id o p).cores = s.cores := rfl
@[simp] theorem State.joinWindow_dies (s : State) (id : SenderId) (o : Option (CoachId × DWord)) (p : Packet) : (s.joinWindow id o p).dies = s.dies := rfl
@[simp] theorem State.joinWindow_stamps (s : State) (id : SenderId) (o : Option (CoachId × DWord)) (p : Packet) : (s.joinWindow id o p).stamps = s.stamps := rfl
@[simp] theorem State.joinWindow_remote (s : State) (id : SenderId) (o : Option (CoachId × DWord)) (p : Packet) : (s.joinWindow id o p).remote = s.remote := rfl
@[simp] theorem State.joinWindow_tlb (s : State) (id : SenderId) (o : Option (CoachId × DWord)) (p : Packet) : (s.joinWindow id o p).tlb = s.tlb := rfl
@[simp] theorem State.joinWindow_prefetch (s : State) (id : SenderId) (o : Option (CoachId × DWord)) (p : Packet) : (s.joinWindow id o p).prefetch = s.prefetch := rfl
@[simp] theorem State.joinWindow_offered (s : State) (id : SenderId) (o : Option (CoachId × DWord)) (p : Packet) : (s.joinWindow id o p).offered = s.offered := rfl
@[simp] theorem State.joinWindow_links (s : State) (id : SenderId) (o : Option (CoachId × DWord)) (p : Packet) : (s.joinWindow id o p).links = s.links := rfl
@[simp] theorem State.joinWindow_requests (s : State) (id : SenderId) (o : Option (CoachId × DWord)) (p : Packet) : (s.joinWindow id o p).requests = s.requests := rfl
@[simp] theorem State.joinWindow_staleTags (s : State) (id : SenderId) (o : Option (CoachId × DWord)) (p : Packet) : (s.joinWindow id o p).staleTags = s.staleTags := rfl
@[simp] theorem State.joinWindow_poison (s : State) (id : SenderId) (o : Option (CoachId × DWord)) (p : Packet) : (s.joinWindow id o p).poison = s.poison := rfl
@[simp] theorem State.joinWindow_refused (s : State) (id : SenderId) (o : Option (CoachId × DWord)) (p : Packet) : (s.joinWindow id o p).refused = s.refused := rfl
@[simp] theorem State.joinWindow_inbox (s : State) (id : SenderId) (o : Option (CoachId × DWord)) (p : Packet) : (s.joinWindow id o p).inbox = s.inbox := rfl
@[simp] theorem State.joinWindow_outbox (s : State) (id : SenderId) (o : Option (CoachId × DWord)) (p : Packet) : (s.joinWindow id o p).outbox = s.outbox := rfl
@[simp] theorem State.joinWindow_cur (s : State) (id : SenderId) (o : Option (CoachId × DWord)) (p : Packet) : (s.joinWindow id o p).cur = s.cur := rfl
@[simp] theorem State.joinWindow_turn (s : State) (id : SenderId) (o : Option (CoachId × DWord)) (p : Packet) : (s.joinWindow id o p).turn = s.turn := rfl
@[simp] theorem State.joinWindow_fresh (s : State) (id : SenderId) (o : Option (CoachId × DWord)) (p : Packet) : (s.joinWindow id o p).fresh = s.fresh := rfl

@[simp] theorem State.idleSlots_powered (s : State) : s.idleSlots.powered = s.powered := rfl
@[simp] theorem State.idleSlots_booted (s : State) : s.idleSlots.booted = s.booted := rfl
@[simp] theorem State.idleSlots_time (s : State) : s.idleSlots.time = s.time := rfl
@[simp] theorem State.idleSlots_cycle (s : State) : s.idleSlots.cycle = s.cycle := rfl
@[simp] theorem State.idleSlots_cycles (s : State) : s.idleSlots.cycles = s.cycles := rfl
@[simp] theorem State.idleSlots_wdog (s : State) : s.idleSlots.wdog = s.wdog := rfl
@[simp] theorem State.idleSlots_wdogLive (s : State) : s.idleSlots.wdogLive = s.wdogLive := rfl
@[simp] theorem State.idleSlots_mem (s : State) : s.idleSlots.mem = s.mem := rfl
@[simp] theorem State.idleSlots_window (s : State) : s.idleSlots.window = s.window := rfl
@[simp] theorem State.idleSlots_steward (s : State) : s.idleSlots.steward = s.steward := rfl
@[simp] theorem State.idleSlots_queues (s : State) : s.idleSlots.queues = s.queues := rfl
@[simp] theorem State.idleSlots_launches (s : State) : s.idleSlots.launches = s.launches := rfl
@[simp] theorem State.idleSlots_gangs (s : State) : s.idleSlots.gangs = s.gangs := rfl
@[simp] theorem State.idleSlots_crews (s : State) : s.idleSlots.crews = s.crews := rfl
@[simp] theorem State.idleSlots_coaches (s : State) : s.idleSlots.coaches = s.coaches := rfl
@[simp] theorem State.idleSlots_dies (s : State) : s.idleSlots.dies = s.dies := rfl
@[simp] theorem State.idleSlots_stamps (s : State) : s.idleSlots.stamps = s.stamps := rfl
@[simp] theorem State.idleSlots_remote (s : State) : s.idleSlots.remote = s.remote := rfl
@[simp] theorem State.idleSlots_tlb (s : State) : s.idleSlots.tlb = s.tlb := rfl
@[simp] theorem State.idleSlots_prefetch (s : State) : s.idleSlots.prefetch = s.prefetch := rfl
@[simp] theorem State.idleSlots_offered (s : State) : s.idleSlots.offered = s.offered := rfl
@[simp] theorem State.idleSlots_senders (s : State) : s.idleSlots.senders = s.senders := rfl
@[simp] theorem State.idleSlots_links (s : State) : s.idleSlots.links = s.links := rfl
@[simp] theorem State.idleSlots_requests (s : State) : s.idleSlots.requests = s.requests := rfl
@[simp] theorem State.idleSlots_staleTags (s : State) : s.idleSlots.staleTags = s.staleTags := rfl
@[simp] theorem State.idleSlots_poison (s : State) : s.idleSlots.poison = s.poison := rfl
@[simp] theorem State.idleSlots_refused (s : State) : s.idleSlots.refused = s.refused := rfl
@[simp] theorem State.idleSlots_inbox (s : State) : s.idleSlots.inbox = s.inbox := rfl
@[simp] theorem State.idleSlots_outbox (s : State) : s.idleSlots.outbox = s.outbox := rfl
@[simp] theorem State.idleSlots_cur (s : State) : s.idleSlots.cur = s.cur := rfl
@[simp] theorem State.idleSlots_turn (s : State) : s.idleSlots.turn = s.turn := rfl
@[simp] theorem State.idleSlots_fresh (s : State) : s.idleSlots.fresh = s.fresh := rfl

@[simp] theorem State.raiseIrq_powered (s : State) (v : Nat) : (s.raiseIrq v).powered = s.powered := rfl
@[simp] theorem State.raiseIrq_booted (s : State) (v : Nat) : (s.raiseIrq v).booted = s.booted := rfl
@[simp] theorem State.raiseIrq_time (s : State) (v : Nat) : (s.raiseIrq v).time = s.time := rfl
@[simp] theorem State.raiseIrq_cycle (s : State) (v : Nat) : (s.raiseIrq v).cycle = s.cycle := rfl
@[simp] theorem State.raiseIrq_cycles (s : State) (v : Nat) : (s.raiseIrq v).cycles = s.cycles := rfl
@[simp] theorem State.raiseIrq_wdog (s : State) (v : Nat) : (s.raiseIrq v).wdog = s.wdog := rfl
@[simp] theorem State.raiseIrq_wdogLive (s : State) (v : Nat) : (s.raiseIrq v).wdogLive = s.wdogLive := rfl
@[simp] theorem State.raiseIrq_mem (s : State) (v : Nat) : (s.raiseIrq v).mem = s.mem := rfl
@[simp] theorem State.raiseIrq_steward (s : State) (v : Nat) : (s.raiseIrq v).steward = s.steward := rfl
@[simp] theorem State.raiseIrq_queues (s : State) (v : Nat) : (s.raiseIrq v).queues = s.queues := rfl
@[simp] theorem State.raiseIrq_launches (s : State) (v : Nat) : (s.raiseIrq v).launches = s.launches := rfl
@[simp] theorem State.raiseIrq_gangs (s : State) (v : Nat) : (s.raiseIrq v).gangs = s.gangs := rfl
@[simp] theorem State.raiseIrq_crews (s : State) (v : Nat) : (s.raiseIrq v).crews = s.crews := rfl
@[simp] theorem State.raiseIrq_coaches (s : State) (v : Nat) : (s.raiseIrq v).coaches = s.coaches := rfl
@[simp] theorem State.raiseIrq_cores (s : State) (v : Nat) : (s.raiseIrq v).cores = s.cores := rfl
@[simp] theorem State.raiseIrq_dies (s : State) (v : Nat) : (s.raiseIrq v).dies = s.dies := rfl
@[simp] theorem State.raiseIrq_stamps (s : State) (v : Nat) : (s.raiseIrq v).stamps = s.stamps := rfl
@[simp] theorem State.raiseIrq_remote (s : State) (v : Nat) : (s.raiseIrq v).remote = s.remote := rfl
@[simp] theorem State.raiseIrq_tlb (s : State) (v : Nat) : (s.raiseIrq v).tlb = s.tlb := rfl
@[simp] theorem State.raiseIrq_prefetch (s : State) (v : Nat) : (s.raiseIrq v).prefetch = s.prefetch := rfl
@[simp] theorem State.raiseIrq_offered (s : State) (v : Nat) : (s.raiseIrq v).offered = s.offered := rfl
@[simp] theorem State.raiseIrq_senders (s : State) (v : Nat) : (s.raiseIrq v).senders = s.senders := rfl
@[simp] theorem State.raiseIrq_links (s : State) (v : Nat) : (s.raiseIrq v).links = s.links := rfl
@[simp] theorem State.raiseIrq_requests (s : State) (v : Nat) : (s.raiseIrq v).requests = s.requests := rfl
@[simp] theorem State.raiseIrq_staleTags (s : State) (v : Nat) : (s.raiseIrq v).staleTags = s.staleTags := rfl
@[simp] theorem State.raiseIrq_poison (s : State) (v : Nat) : (s.raiseIrq v).poison = s.poison := rfl
@[simp] theorem State.raiseIrq_refused (s : State) (v : Nat) : (s.raiseIrq v).refused = s.refused := rfl
@[simp] theorem State.raiseIrq_inbox (s : State) (v : Nat) : (s.raiseIrq v).inbox = s.inbox := rfl
@[simp] theorem State.raiseIrq_cur (s : State) (v : Nat) : (s.raiseIrq v).cur = s.cur := rfl
@[simp] theorem State.raiseIrq_turn (s : State) (v : Nat) : (s.raiseIrq v).turn = s.turn := rfl
@[simp] theorem State.raiseIrq_fresh (s : State) (v : Nat) : (s.raiseIrq v).fresh = s.fresh := rfl

@[simp] theorem State.logRecord_powered (s : State) (r : List Byte) : (s.logRecord r).powered = s.powered := rfl
@[simp] theorem State.logRecord_booted (s : State) (r : List Byte) : (s.logRecord r).booted = s.booted := rfl
@[simp] theorem State.logRecord_time (s : State) (r : List Byte) : (s.logRecord r).time = s.time := rfl
@[simp] theorem State.logRecord_cycle (s : State) (r : List Byte) : (s.logRecord r).cycle = s.cycle := rfl
@[simp] theorem State.logRecord_cycles (s : State) (r : List Byte) : (s.logRecord r).cycles = s.cycles := rfl
@[simp] theorem State.logRecord_wdog (s : State) (r : List Byte) : (s.logRecord r).wdog = s.wdog := rfl
@[simp] theorem State.logRecord_wdogLive (s : State) (r : List Byte) : (s.logRecord r).wdogLive = s.wdogLive := rfl
@[simp] theorem State.logRecord_mem (s : State) (r : List Byte) : (s.logRecord r).mem = s.mem := rfl
@[simp] theorem State.logRecord_window (s : State) (r : List Byte) : (s.logRecord r).window = s.window := rfl
@[simp] theorem State.logRecord_queues (s : State) (r : List Byte) : (s.logRecord r).queues = s.queues := rfl
@[simp] theorem State.logRecord_launches (s : State) (r : List Byte) : (s.logRecord r).launches = s.launches := rfl
@[simp] theorem State.logRecord_gangs (s : State) (r : List Byte) : (s.logRecord r).gangs = s.gangs := rfl
@[simp] theorem State.logRecord_crews (s : State) (r : List Byte) : (s.logRecord r).crews = s.crews := rfl
@[simp] theorem State.logRecord_coaches (s : State) (r : List Byte) : (s.logRecord r).coaches = s.coaches := rfl
@[simp] theorem State.logRecord_cores (s : State) (r : List Byte) : (s.logRecord r).cores = s.cores := rfl
@[simp] theorem State.logRecord_dies (s : State) (r : List Byte) : (s.logRecord r).dies = s.dies := rfl
@[simp] theorem State.logRecord_stamps (s : State) (r : List Byte) : (s.logRecord r).stamps = s.stamps := rfl
@[simp] theorem State.logRecord_remote (s : State) (r : List Byte) : (s.logRecord r).remote = s.remote := rfl
@[simp] theorem State.logRecord_tlb (s : State) (r : List Byte) : (s.logRecord r).tlb = s.tlb := rfl
@[simp] theorem State.logRecord_prefetch (s : State) (r : List Byte) : (s.logRecord r).prefetch = s.prefetch := rfl
@[simp] theorem State.logRecord_offered (s : State) (r : List Byte) : (s.logRecord r).offered = s.offered := rfl
@[simp] theorem State.logRecord_senders (s : State) (r : List Byte) : (s.logRecord r).senders = s.senders := rfl
@[simp] theorem State.logRecord_links (s : State) (r : List Byte) : (s.logRecord r).links = s.links := rfl
@[simp] theorem State.logRecord_requests (s : State) (r : List Byte) : (s.logRecord r).requests = s.requests := rfl
@[simp] theorem State.logRecord_staleTags (s : State) (r : List Byte) : (s.logRecord r).staleTags = s.staleTags := rfl
@[simp] theorem State.logRecord_poison (s : State) (r : List Byte) : (s.logRecord r).poison = s.poison := rfl
@[simp] theorem State.logRecord_refused (s : State) (r : List Byte) : (s.logRecord r).refused = s.refused := rfl
@[simp] theorem State.logRecord_inbox (s : State) (r : List Byte) : (s.logRecord r).inbox = s.inbox := rfl
@[simp] theorem State.logRecord_outbox (s : State) (r : List Byte) : (s.logRecord r).outbox = s.outbox := rfl
@[simp] theorem State.logRecord_cur (s : State) (r : List Byte) : (s.logRecord r).cur = s.cur := rfl
@[simp] theorem State.logRecord_turn (s : State) (r : List Byte) : (s.logRecord r).turn = s.turn := rfl
@[simp] theorem State.logRecord_fresh (s : State) (r : List Byte) : (s.logRecord r).fresh = s.fresh := rfl

/-- A change of a queue's launch in place is none where it has no launch, and else a change of that launch alone. -/
theorem State.mapLaunch_cases (s : State) (q : BitVec 6) (f : Launch → Launch) :
    s.launch? q = none ∧ s.mapLaunch q f = s ∨ ∃ l, s.launch? q = some l ∧ s.mapLaunch q f = s.setLaunch (f l) := by
  unfold State.mapLaunch
  cases h : s.launch? q <;> simp

@[simp] theorem State.mapLaunch_mem (s : State) (q : BitVec 6) (f : Launch → Launch) : (s.mapLaunch q f).mem = s.mem := by
  obtain ⟨-, h⟩ | ⟨l, -, h⟩ := s.mapLaunch_cases q f <;> simp [h]

@[simp] theorem State.mapLaunch_coaches (s : State) (q : BitVec 6) (f : Launch → Launch) :
    (s.mapLaunch q f).coaches = s.coaches := by
  obtain ⟨-, h⟩ | ⟨l, -, h⟩ := s.mapLaunch_cases q f <;> simp [h]

end Sys2Proof.Machine
end

