-- ==== Sys2Proof/Laws/Home.lean ====
section
/-! SUPPORT. What the shared operations on memory can do: where Lunath's bytes go, and that its canonical form
stays. -/

namespace Sys2Proof.Machine

open Sys2Proof

/-! ### Operations that leave Lunath alone -/

@[simp] theorem State.watch_mem (s : State) (a n : Nat) : (s.watch a n).mem = s.mem := by
  unfold State.watch
  dsimp only
  split
  · split <;> rfl
  · rfl

@[simp] theorem State.noteDt_mem (s : State) (d : BitVec 3) (t : BitVec 16) : (s.noteDt d t).mem = s.mem := by
  unfold State.noteDt
  dsimp only
  split <;> rfl

@[simp] theorem State.noteWts_mem (s : State) (d : BitVec 3) (t : BitVec 16) : (s.noteWts d t).mem = s.mem := by
  simp [State.noteWts]

@[simp] theorem State.learn_mem (s : State) (k : CoreId) (t : BitVec 16) : (s.learn k t).mem = s.mem := by
  simp [State.learn]

@[simp] theorem State.acquireTime_mem (s : State) (k : CoreId) (b : Bool) (t : BitVec 16) :
    (s.acquireTime k b t).mem = s.mem := by
  unfold State.acquireTime
  split <;> simp

@[simp] theorem State.spread_mem (s : State) (by_ : Option CoreId) (a n : Nat) : (s.spread by_ a n).mem = s.mem := rfl

@[simp] theorem State.carryTime_mem (s : State) (by_ : Option CoreId) (line : Nat) : (s.carryTime by_ line).mem = s.mem := by
  cases by_ <;> simp [State.carryTime]

@[simp] theorem State.stampWrite_mem (s : State) (by_ : Option CoreId) (joined : Bool) (line : Nat) :
    (s.stampWrite by_ joined line).2.mem = s.mem := by
  cases by_ <;> simp [State.stampWrite]

@[simp] theorem State.endLaunch_mem (s : State) (q : BitVec 6) (t : Terminal) : (s.endLaunch q t).mem = s.mem := by
  unfold State.endLaunch
  split
  · rfl
  · split <;> rfl

@[simp] theorem State.coverCluster_mem (s : State) (k : CoreId) (line : Nat) : (s.coverCluster k line).mem = s.mem := rfl

@[simp] theorem State.endRemote_mem (s : State) (r : Remote) : (s.endRemote r).mem = s.mem := by
  unfold State.endRemote
  split <;> simp

/-- A dirty copy that goes home moves bytes that every party's latest view already has (R104). -/
@[simp] theorem State.drainL2_mem (s : State) (line : Nat) : (s.drainL2 line).mem = s.mem := by
  unfold State.drainL2
  split
  · rfl
  · dsimp only
    split <;> simp

@[simp] theorem State.dropCopy_mem (s : State) (c : CoreId) (line : Nat) : (s.dropCopy c line).mem = s.mem := by
  unfold State.dropCopy
  dsimp only
  repeat' split
  all_goals simp

@[simp] theorem State.dropOwn_mem (s : State) (p : Party) (line : Nat) : (s.dropOwn p line).mem = s.mem := by
  unfold State.dropOwn
  split <;> simp

@[simp] theorem State.storeWrite_mem (s : State) (k : CoreId) (a : Nat) (bs : List Byte) :
    (s.storeWrite k a bs).mem = s.mem := rfl

@[simp] theorem State.setFull_mem (s : State) (k : CoreId) (g : Nat) (v : Bool) : (s.setFull k g v).mem = s.mem := rfl

@[simp] theorem State.missCached_mem (s : State) (k : CoreId) (fill : Bool) (a n : Nat) :
    (s.missCached k fill a n).2.mem = s.mem := by
  simp [State.missCached]

/-! ### Operations that write it -/

/-- A write at the home L2 writes exactly its bytes (R308). -/
@[simp] theorem State.homeWriteAs_mem (s : State) (by_ : Option CoreId) (joined : Bool) (a : Nat) (data : List Byte) :
    (s.homeWriteAs by_ joined a data).mem = Memory.writeBytes s.mem a data := by
  unfold State.homeWriteAs
  cases by_ <;> simp

@[simp] theorem State.homeWrite_mem (s : State) (by_ : Option CoreId) (a : Nat) (data : List Byte) :
    (s.homeWrite by_ a data).mem = Memory.writeBytes s.mem a data := State.homeWriteAs_mem _ _ _ _ _

/-- A write that stays dirty in the writer's L2 is, as every write, the latest of its bytes (R104). -/
@[simp] theorem State.remoteWrite_mem (s : State) (k : CoreId) (q : Option (BitVec 6)) (a : Nat)
    (data : List Byte) : (s.remoteWrite k q a data).mem = Memory.writeBytes s.mem a data := by
  unfold State.remoteWrite
  dsimp only [State.spread_mem]
  split <;> simp

theorem State.homeWriteAs_wf {s : State} (by_ : Option CoreId) (joined : Bool) (a : Nat) (data : List Byte)
    (h : Memory.wf s.mem = true) : Memory.wf (s.homeWriteAs by_ joined a data).mem = true := by
  rw [State.homeWriteAs_mem]
  exact Memory.writeBytes_wf data a h

theorem State.homeWrite_wf {s : State} (by_ : Option CoreId) (a : Nat) (data : List Byte)
    (h : Memory.wf s.mem = true) : Memory.wf (s.homeWrite by_ a data).mem = true :=
  State.homeWriteAs_wf by_ false a data h

theorem State.returnLine_wf {s : State} (k : Crew) (l : StashLine) (keep : Bool) (h : Memory.wf s.mem = true) :
    Memory.wf (s.returnLine k l keep).mem = true := by
  unfold State.returnLine
  dsimp only
  split
  · split
    · split
      · simpa using h
      · rw [State.coverCluster_mem]; exact State.homeWrite_wf _ _ _ h
    · split <;> simpa using h
  · simp only [State.setCrew_mem]
    split
    · split
      · simpa using h
      · rw [State.coverCluster_mem]; exact State.homeWrite_wf _ _ _ h
    · split <;> simpa using h

/-- A recall keeps the canonical form (R99). -/
theorem State.recall_wf {s : State} (line : Nat) (r : Bool) (h : Memory.wf s.mem = true) :
    Memory.wf (s.recall line r).mem = true := by
  unfold State.recall
  split
  · exact h
  · split
    · exact h
    · exact State.returnLine_wf _ _ _ h

theorem State.fillLine_wf {s : State} (k : Crew) (e n home : Nat) (w : Bool) (h : Memory.wf s.mem = true) :
    Memory.wf (s.fillLine k e n home w).mem = true := by
  unfold State.fillLine
  dsimp only
  split
  · split
    · simpa using h
    · exact h
  · simp only [State.setCrew_mem, State.storeWrite_mem]
    exact State.recall_wf _ _ h

/-- A write-back recalls its line first, and so keeps the canonical form (R99, R104). -/
theorem State.writeBack_wf {s : State} (line : Nat) (h : Memory.wf s.mem = true) :
    Memory.wf (s.writeBack line).mem = true := by
  unfold State.writeBack
  split
  · rw [State.drainL2_mem]; exact State.recall_wf _ _ h
  · exact h

theorem State.missHome_wf {s : State} (k : CoreId) (lease : Option Nat) (ord a n : Nat) (h : Memory.wf s.mem = true) :
    Memory.wf (s.missHome k lease ord a n).2.mem = true := by
  have hb : ∀ (p : Prop) [Decidable p], Memory.wf (if p then s.writeBack (a / 128) else s).mem = true := by
    intro p _
    split
    · exact State.writeBack_wf _ h
    · exact h
  unfold State.missHome
  simp only [State.acquireTime_mem, State.setDie_mem]
  split
  · simpa only [State.setStamp_mem, State.setCore_mem, State.carryTime_mem] using hb _
  · simpa only [State.setStamp_mem, State.setCore_mem, State.carryTime_mem] using hb _

/-- A load keeps the canonical form of Lunath: it may bring home a dirty copy of its own L2. -/
theorem State.homeRead_wf {s : State} (p : Party) (kind : ReadKind) (fill : Bool) (ord a n : Nat)
    (h : Memory.wf s.mem = true) : Memory.wf (s.homeRead p kind fill ord a n).2.mem = true := by
  unfold State.homeRead
  dsimp only
  split
  · exact h
  · split
    · dsimp only
      split <;> simpa using h
    · split
      · simpa using h
      · exact State.missHome_wf _ _ _ _ _ h
      · exact State.missHome_wf _ _ _ _ _ h

theorem State.readLoc_wf {s : State} (p : Party) (m : ReadMode) (loc : Loc) (n : Nat) (h : Memory.wf s.mem = true) :
    Memory.wf (s.readLoc p m loc n).2.mem = true := by
  cases loc
  · exact State.homeRead_wf _ _ _ _ _ _ h
  all_goals exact h

/-- Finding where an access is performed keeps the canonical form (R99). -/
theorem State.place_wf {s : State} (p : Party) (space va : Nat) (wide w : Bool) (loc : Loc)
    (h : Memory.wf s.mem = true) : Memory.wf (s.place p space va wide w loc).2.mem = true := by
  unfold State.place
  split
  · split
    · exact State.fillLine_wf _ _ _ _ _ (by simpa using h)
    · exact State.recall_wf _ _ h
  · exact h

theorem State.writeLocAs_wf {s : State} (p : Party) (cls : Nat) (fill joined : Bool) (loc : Loc) (data : List Byte)
    (h : Memory.wf s.mem = true) : Memory.wf (s.writeLocAs p cls fill joined loc data).mem = true := by
  unfold State.writeLocAs
  split
  · split
    · rw [State.remoteWrite_mem]
      exact Memory.writeBytes_wf _ _ h
    · exact State.homeWriteAs_wf _ _ _ _ h
  · exact State.homeWriteAs_wf _ _ _ _ h
  · exact h
  · exact h

theorem State.writeLoc_wf {s : State} (p : Party) (loc : Loc) (data : List Byte) (h : Memory.wf s.mem = true) :
    Memory.wf (s.writeLoc p loc data).mem = true := State.writeLocAs_wf p 2 true false loc data h

theorem State.lunathWrite_wf {s : State} (by_ : Option CoreId) (a : Nat) (data : List Byte)
    (h : Memory.wf s.mem = true) : Memory.wf (s.lunathWrite by_ a data).mem = true :=
  State.homeWrite_wf _ _ _ (State.recall_wf _ _ h)

/-- The lines of a walk are recalled. -/
theorem State.walkRecall_wf {s : State} (p : Party) (va : Nat) (h : Memory.wf s.mem = true) :
    Memory.wf (s.walkRecall p va).mem = true := by
  have recalls (ns : List Nat) :
      ∀ s : State, Memory.wf s.mem = true → Memory.wf (ns.foldl (fun s n => s.recall n true) s).mem = true := by
    induction ns with
    | nil => exact fun _ h => h
    | cons n t ih => exact fun s h => ih _ (State.recall_wf _ _ h)
  unfold State.walkRecall
  split
  · exact h
  · exact recalls _ _ h

@[simp] theorem State.unpoisonVa_mem (s : State) (p : Party) (rs : List (Nat × Nat)) : (s.unpoisonVa p rs).mem = s.mem := by
  unfold State.unpoisonVa
  split <;> rfl

theorem State.writePieces_wf (p : Party) (va : Nat) (data : List Byte) (qs : List (Nat × Nat)) :
    ∀ {s : State}, Memory.wf s.mem = true → Memory.wf (s.writePieces p va data qs).mem = true := by
  induction qs with
  | nil => exact fun h => h
  | cons q rest ih =>
    intro s h
    unfold State.writePieces
    apply ih
    split
    · exact h
    · exact State.writeLoc_wf _ _ _ (State.place_wf _ _ _ _ _ _ (State.walkRecall_wf _ _ h))

/-- A write through a context's map keeps the canonical form. -/
theorem State.ctxWrite_wf {s t : State} {p : Party} {va : Nat} {data : List Byte}
    (h : s.ctxWrite p va data = .ok t) (hm : Memory.wf s.mem = true) : Memory.wf t.mem = true := by
  unfold State.ctxWrite at h
  split at h
  · cases h
  · cases h
    simpa using State.writePieces_wf _ _ _ _ hm

/-! ### Traps -/

/-- Ending a list of launches leaves Lunath. -/
theorem foldl_endLaunch_mem (p : Launch → Bool) (g : State → Launch → Terminal) (ls : List Launch) :
    ∀ s : State, (ls.foldl (fun s l => if p l then s.endLaunch l.q (g s l) else s) s).mem = s.mem := by
  induction ls with
  | nil => exact fun _ => rfl
  | cons l t ih =>
    intro s
    rw [List.foldl_cons, ih]
    split <;> simp

@[simp] theorem State.endLaunches_mem (s : State) (p : Launch → Bool) (n : Nat) : (s.endLaunches p n).mem = s.mem :=
  foldl_endLaunch_mem p (fun s l => { status := 7, record := some (s.dieRecord l n) }) s.launches s

@[simp] theorem State.terminalTrap_mem (s : State) (l : Launch) (c : Coach) (t : Trap) (site : TrapSite) :
    (s.terminalTrap l c t site).mem = s.mem := by
  unfold State.terminalTrap
  dsimp only
  split
  · simp
  · split
    · simp
    · split
      · simp [State.logRecord]
      · simp

@[simp] theorem State.markTrapped_mem (s : State) (c : Coach) : (s.markTrapped c).mem = s.mem := by
  unfold State.markTrapped
  split
  · rfl
  · split <;> rfl

@[simp] theorem State.holdRequests_mem (s : State) (c : Coach) (t : Trap) : (s.holdRequests c t).mem = s.mem := rfl

/-- Taking a trap keeps the canonical form: it writes at most its record (R345-R349). -/
theorem State.takeTrap_wf {s : State} (c : Coach) (t : Trap) (site : TrapSite) (h : Memory.wf s.mem = true) :
    Memory.wf (s.takeTrap c t site).mem = true := by
  unfold State.takeTrap
  split
  · exact h
  · dsimp only
    split
    · simpa using h
    · split
      · simpa using h
      · simpa using h
      · split
        · simpa using h
        · rename_i hw
          simpa using State.ctxWrite_wf hw h

/-- A trap, at once or after the coach's matrix instruction in flight (R344). -/
theorem State.trapAfterGrid_wf {s : State} (c c1 : Coach) (t : Trap) (site : TrapSite) (h : Memory.wf s.mem = true) :
    Memory.wf (s.trapAfterGrid c c1 t site).mem = true := by
  unfold State.trapAfterGrid
  split
  · exact h
  · exact State.takeTrap_wf c1 t site h

end Sys2Proof.Machine
end

