-- ==== Sys2Proof/Laws/Parts.lean ====
section
/-! SUPPORT. Finding a part of the state after one part has been replaced. -/

namespace Sys2Proof.Machine

open Sys2Proof

/-- Looking for what `q` holds of after an `upsert` that replaces what `p` holds of: `p` and `q` both compare a
key. -/
theorem find_upsert {α : Type} {p q : α → Bool} {a : α} (h : ∀ b, p b = true → q b = q a)
    (h' : ∀ b, q b = true → q a = true → p b = true) (l : List α) :
    (upsert p a l).find? q = if q a = true then some a else l.find? q := by
  induction l with
  | nil =>
    cases hq : q a <;> simp [upsert, hq]
  | cons b t ih =>
    simp only [upsert]
    cases hp : p b with
    | true =>
      have hb := h b hp
      cases hq : q a <;> simp [hq, hb]
    | false =>
      have hb : q a = true → q b = false := by
        intro hq
        cases hqb : q b with
        | false => rfl
        | true => simp [h' b hqb hq] at hp
      cases hq : q a with
      | true => simp [hb hq, ih, hq]
      | false =>
        cases hqb : q b <;> simp [hqb, ih, hq]

theorem State.coach?_setCoach (s : State) (c : Coach) (id : CoachId) :
    (s.setCoach c).coach? id = if c.id = id then some c else s.coach? id := by
  unfold State.coach? State.setCoach
  rw [find_upsert (by intro b hb; simp_all) (by intro b h1 h2; simp_all)]
  simp

@[simp] theorem State.coach?_setCoach_self (s : State) (c : Coach) : (s.setCoach c).coach? c.id = some c := by
  simp [State.coach?_setCoach]

/-- A coach found has the identity asked for. -/
theorem State.coach?_id {s : State} {id : CoachId} {c : Coach} (h : s.coach? id = some c) : c.id = id := by
  unfold State.coach? at h
  simpa using List.find?_some h

theorem State.launch?_q {s : State} {q : BitVec 6} {l : Launch} (h : s.launch? q = some l) : l.q = q := by
  unfold State.launch? at h
  simpa using List.find?_some h

theorem State.launch?_setLaunch (s : State) (l : Launch) (q : BitVec 6) :
    (s.setLaunch l).launch? q = if l.q = q then some l else s.launch? q := by
  unfold State.launch? State.setLaunch
  rw [find_upsert (by intro b hb; simp_all) (by intro b h1 h2; simp_all)]
  simp

/-- Every core carries its own name. -/
@[simp] theorem State.core_id (s : State) (c : CoreId) : (s.core c).id = c := by
  unfold State.core
  cases h : s.cores.find? (fun k => k.id == c) with
  | none => rfl
  | some k => simpa using List.find?_some h

theorem State.core_setCore (s : State) (k : Core) (c : CoreId) :
    (s.setCore k).core c = if k.id = c then k else s.core c := by
  unfold State.core State.setCore
  rw [find_upsert (by intro b hb; simp_all) (by intro b h1 h2; simp_all)]
  by_cases h : k.id = c
  · simp [h]
  · simp only [beq_iff_eq, h, if_false]
    rfl

@[simp] theorem State.core_setCoach (s : State) (c : Coach) (k : CoreId) : (s.setCoach c).core k = s.core k := rfl

@[simp] theorem State.coach?_setCore (s : State) (k : Core) (id : CoachId) :
    (s.setCore k).coach? id = s.coach? id := rfl

@[simp] theorem State.launch?_setCore (s : State) (k : Core) (q : BitVec 6) :
    (s.setCore k).launch? q = s.launch? q := rfl

@[simp] theorem State.launch?_setCoach (s : State) (c : Coach) (q : BitVec 6) :
    (s.setCoach c).launch? q = s.launch? q := rfl

@[simp] theorem State.crew?_setCoach (s : State) (c : Coach) (q : BitVec 6) (g n : Nat) :
    (s.setCoach c).crew? q g n = s.crew? q g n := rfl

@[simp] theorem State.crew?_setCore (s : State) (k : Core) (q : BitVec 6) (g n : Nat) :
    (s.setCore k).crew? q g n = s.crew? q g n := rfl

theorem State.crew?_setCrew (s : State) (k : Crew) (q : BitVec 6) (g n : Nat) :
    (s.setCrew k).crew? q g n = if k.q = q ∧ k.gang = g ∧ k.crew = n then some k else s.crew? q g n := by
  unfold State.crew? State.setCrew
  rw [find_upsert
    (by intro b hb; simp only [Bool.and_eq_true, beq_iff_eq] at hb; simp [hb])
    (by intro b h1 h2; simp only [Bool.and_eq_true, beq_iff_eq] at h1 h2 ⊢; simp_all)]
  simp only [Bool.and_eq_true, beq_iff_eq, and_assoc]

/-- The selected coach, whatever changes in cores. -/
@[simp] theorem State.current_setCore (s : State) (k : Core) : (s.setCore k).current = s.current := rfl

/-- A selected coach is listed. -/
theorem State.current_coach {s : State} {c : Coach} (h : s.current = some c) : s.coach? c.id = some c := by
  unfold State.current at h
  split at h
  · cases h
  · rename_i id _
    rw [State.coach?_id h]
    exact h

end Sys2Proof.Machine
end

