-- ==== Sys2Proof/Laws/Issue.lean ====
section
/-! SUPPORT. What the issue of an instruction can do, said once: its three ends, and what every issue leaves
behind. A proof about one instruction cites these and never unfolds `issue`. -/

namespace Sys2Proof.Machine

open Sys2Proof

/-! ### The ends of an issue -/

/-- An instruction that a check before its meaning stops takes its trap. -/
theorem issue_pretrap {o : Op} {f : Fields} {body : Body} {s : State} {c : Coach} {l : Launch} {t : Trap}
    (hc : s.current = some c) (hl : s.launch? c.id.q = some l) (hp : s.preTrap l c o f = some t) :
    issue o f body s
      = .next (s.trapAfterGrid c { c with charg := if o == .chrun then c.charg else none } t (c.site o f t)) := by
  simp only [issue, hc, hl, hp]

/-- An instruction that must follow the end of its coach's matrix instruction in flight (R255). -/
theorem issue_held {o : Op} {f : Fields} {body : Body} {s : State} {c : Coach} {l : Launch}
    (hc : s.current = some c) (hl : s.launch? c.id.q = some l) (hp : s.preTrap l c o f = none)
    (hg : c.gridHolds o f = true) : issue o f body s = .next (s.setCoach { c with wait := .ownGrid }) := by
  simp only [issue, hc, hl, hp, hg, if_true]

/-- An instruction whose meaning completes. -/
theorem issue_ok {o : Op} {f : Fields} {body : Body} {s s1 : State} {c : Coach} {l : Launch}
    (hc : s.current = some c) (hl : s.launch? c.id.q = some l) (hp : s.preTrap l c o f = none)
    (hg : c.gridHolds o f = false)
    (hb : body (s.beginIssue c o) l { c with wait := .ready } = .ok s1) :
    issue o f body s = .next ((s1.dropAnswers c.id o).endIssue (s.core c.core) c o f true) := by
  simp only [issue, hc, hl, hp, hg, hb, Bool.false_eq_true, if_false]

/-- An instruction whose meaning raises a trap. -/
theorem issue_trap {o : Op} {f : Fields} {body : Body} {s : State} {c : Coach} {l : Launch} {t : Trap}
    (hc : s.current = some c) (hl : s.launch? c.id.q = some l) (hp : s.preTrap l c o f = none)
    (hg : c.gridHolds o f = false)
    (hb : body (s.beginIssue c o) l { c with wait := .ready } = .error (.trap t)) :
    issue o f body s = .next (s.trapAfterGrid c c t (c.site o f t)) := by
  simp only [issue, hc, hl, hp, hg, hb, Bool.false_eq_true, if_false]

/-- An instruction that waits. -/
theorem issue_wait {o : Op} {f : Fields} {body : Body} {s s1 : State} {c c1 : Coach} {l : Launch} {w : Wait}
    (hc : s.current = some c) (hl : s.launch? c.id.q = some l) (hp : s.preTrap l c o f = none)
    (hg : c.gridHolds o f = false)
    (hb : body (s.beginIssue c o) l { c with wait := .ready } = .error (.wait w s1))
    (hw : w ≠ .ownGrid) (h1 : s1.coach? c.id = some c1) :
    issue o f body s
      = .next ((s1.setCoach { c1 with wait := w }).endIssue (s.core c.core) c o f false) := by
  simp only [issue, hc, hl, hp, hg, hb, Bool.false_eq_true, if_false]
  cases w <;> first | exact absurd rfl hw | simp only [h1]

/-- With a selected coach of a launch, an issue answers a next state. -/
theorem issue_goes_on {o : Op} {f : Fields} {body : Body} {s : State} {c : Coach} {l : Launch}
    (hc : s.current = some c) (hl : s.launch? c.id.q = some l) : ∃ t, issue o f body s = .next t := by
  simp only [issue, hc, hl]
  split
  · exact ⟨_, rfl⟩
  · split
    · exact ⟨_, rfl⟩
    · split
      · exact ⟨_, rfl⟩
      · exact ⟨_, rfl⟩
      · split <;> exact ⟨_, rfl⟩
      · exact ⟨_, rfl⟩

/-- Words that are no instruction take a trap: a next state. -/
theorem raiseEncoding_goes_on {code len : Nat} {w0 w1 : Word} {s : State} {c : Coach}
    (hc : s.current = some c) : ∃ t, raiseEncoding code len w0 w1 s = .next t := by
  simp only [raiseEncoding, hc]
  exact ⟨_, rfl⟩

/-! ### Before the meaning -/

/-- What an issue does to the core before the meaning runs: nothing but to its latch. -/
theorem State.beginIssue_eq (s : State) (c : Coach) (o : Op) :
    s.beginIssue c o = s ∨
      s.beginIssue c o = s.setCore { s.core c.core with latch := (s.core c.core).latchFor c.id } := by
  unfold State.beginIssue
  split
  · exact .inr rfl
  · exact .inl rfl

@[simp] theorem State.beginIssue_scalar {s : State} {c : Coach} {o : Op} (h : o.isVector = false) :
    s.beginIssue c o = s := by
  simp [State.beginIssue, h]

@[simp] theorem State.coach?_beginIssue (s : State) (c : Coach) (o : Op) (id : CoachId) :
    (s.beginIssue c o).coach? id = s.coach? id := by
  rcases s.beginIssue_eq c o with h | h <;> simp [h]

@[simp] theorem State.launch?_beginIssue (s : State) (c : Coach) (o : Op) (q : BitVec 6) :
    (s.beginIssue c o).launch? q = s.launch? q := by
  rcases s.beginIssue_eq c o with h | h <;> simp [h]

@[simp] theorem State.crewOf_beginIssue (s : State) (c d : Coach) (o : Op) :
    (s.beginIssue c o).crewOf d = s.crewOf d := by
  rcases s.beginIssue_eq c o with h | h <;> simp [h, State.crewOf]

@[simp] theorem State.mem_beginIssue (s : State) (c : Coach) (o : Op) : (s.beginIssue c o).mem = s.mem := by
  rcases s.beginIssue_eq c o with h | h <;> simp [h]

/-! ### What every issue leaves behind -/

@[simp] theorem Coach.issuedAs_id (c : Coach) (o : Op) (f : Fields) (n : Nat) (done : Bool) :
    (c.issuedAs o f n done).id = c.id := rfl

@[simp] theorem Core.issuedBy_id (k before : Core) (id : CoachId) (o : Op) (done : Bool) :
    (k.issuedBy before id o done).id = k.id := by
  unfold Core.issuedBy
  repeat' split
  all_goals rfl

/-- The coach after its issue. -/
theorem State.coach?_endIssue {s : State} {c old : Coach} (before : Core) (o : Op) (f : Fields)
    (done : Bool) (h : s.coach? old.id = some c) :
    (s.endIssue before old o f done).coach? old.id = some (c.issuedAs o f s.cycles done) := by
  have hid := State.coach?_id h
  unfold State.endIssue
  rw [h]
  rw [← hid]
  exact State.coach?_setCoach_self s (c.issuedAs o f s.cycles done)

/-- An issue leaves every other coach as it was. -/
theorem State.coach?_endIssue_other (s : State) (before : Core) (old : Coach) (id' : CoachId) (o : Op) (f : Fields)
    (done : Bool) (h : id' ≠ old.id) : (s.endIssue before old o f done).coach? id' = s.coach? id' := by
  unfold State.endIssue
  split
  · rfl
  · rename_i c hc
    have hid := State.coach?_id hc
    have hne : ¬ (c.issuedAs o f s.cycles done).id = id' := fun e => h (e ▸ hid)
    exact (State.coach?_setCoach s (c.issuedAs o f s.cycles done) id').trans (if_neg hne)

/-- An issue changes no part of the state but coaches, cores and poison. -/
theorem State.endIssue_rest (s : State) (before : Core) (old : Coach) (o : Op) (f : Fields) (done : Bool) :
    s.endIssue before old o f done
      = { s with
          coaches := (s.endIssue before old o f done).coaches
          cores := (s.endIssue before old o f done).cores
          poison := (s.endIssue before old o f done).poison } := by
  unfold State.endIssue
  split <;> rfl

@[simp] theorem State.mem_endIssue (s : State) (before : Core) (old : Coach) (o : Op) (f : Fields)
    (done : Bool) : (s.endIssue before old o f done).mem = s.mem := by
  rw [State.endIssue_rest]

/-- The cores after an issue: the issuing coach's core has its bookkeeping, every other is as it was. -/
theorem State.core_endIssue {s : State} {c old : Coach} (before : Core) (o : Op) (f : Fields)
    (done : Bool) (k : CoreId) (h : s.coach? old.id = some c) :
    (s.endIssue before old o f done).core k
      = if c.core = k then (s.core c.core).issuedBy before old.id o done else s.core k := by
  unfold State.endIssue
  rw [h]
  have := State.core_setCore (s.setCoach (c.issuedAs o f s.cycles done))
    ((s.core c.core).issuedBy before old.id o done) k
  simp only [Core.issuedBy_id, State.core_id, State.core_setCoach] at this
  exact this

/-- An issue changes nothing of a core but its latch, its affinity and its count. -/
theorem Core.issuedBy_rest (k before : Core) (id : CoachId) (o : Op) (done : Bool) :
    k.issuedBy before id o done
      = { k with
          latch := (k.issuedBy before id o done).latch
          lastVector := (k.issuedBy before id o done).lastVector
          prev := (k.issuedBy before id o done).prev
          run := (k.issuedBy before id o done).run
          issued := (k.issuedBy before id o done).issued
          issuedVector := (k.issuedBy before id o done).issuedVector } := by
  unfold Core.issuedBy
  repeat' split
  all_goals rfl

/-- A scalar issue only counts. -/
theorem Core.issuedBy_scalar (k before : Core) (id : CoachId) {o : Op} (done : Bool) (h : o.isVector = false) :
    k.issuedBy before id o done = { k with issued := k.issued + 1 } := by
  unfold Core.issuedBy
  rw [h]
  rfl

/-- An issue counts in its slot. -/
theorem Core.issuedBy_count (k before : Core) (id : CoachId) (o : Op) (done : Bool) :
    (k.issuedBy before id o done).issued = k.issued + (if o.isVector then 0 else 1)
      ∧ (k.issuedBy before id o done).issuedVector = k.issuedVector + (if o.isVector then 1 else 0) := by
  unfold Core.issuedBy
  cases o.isVector <;> repeat' split
  all_goals first | exact ⟨rfl, rfl⟩ | contradiction

/-- An issue adds no poison. -/
theorem State.poison_endIssue {s : State} {before : Core} {old : Coach} {o : Op} {f : Fields} {done : Bool}
    {q : Poison} (h : q ∈ (s.endIssue before old o f done).poison) : q ∈ s.poison := by
  unfold State.endIssue at h
  split at h
  · exact h
  · dsimp only at h
    split at h
    · exact (List.mem_filter.1 h).1
    · exact h

/-- The answers that an instruction has used are dropped; nothing else changes. -/
theorem State.dropAnswers_rest (s : State) (id : CoachId) (o : Op) :
    s.dropAnswers id o = { s with coaches := (s.dropAnswers id o).coaches } := by
  unfold State.dropAnswers
  split
  · rfl
  · split <;> rfl

@[simp] theorem State.mem_dropAnswers (s : State) (id : CoachId) (o : Op) : (s.dropAnswers id o).mem = s.mem := by
  rw [State.dropAnswers_rest]

@[simp] theorem State.core_dropAnswers (s : State) (id : CoachId) (o : Op) (k : CoreId) :
    (s.dropAnswers id o).core k = s.core k := by
  rw [State.dropAnswers_rest]
  rfl

theorem State.coach?_dropAnswers {s : State} {id : CoachId} {c : Coach} (o : Op) (h : s.coach? id = some c) :
    (s.dropAnswers id o).coach? id = some { c with answers := if o = .rft ∨ o = .charg then c.answers else [] } := by
  have hid := State.coach?_id h
  unfold State.dropAnswers
  rw [h]
  have hb : (o == Op.rft || o == Op.charg) = decide (o = Op.rft ∨ o = Op.charg) := by cases o <;> rfl
  dsimp only
  rw [Bool.or_assoc, hb]
  split
  · rename_i he
    rw [h]
    cases c
    simp_all
    exact fun h1 h2 => (he.resolve_right (by simp [h1, h2]))
  · rename_i he
    rw [State.coach?_setCoach]
    simp_all

theorem State.coach?_dropAnswers_other (s : State) (id id' : CoachId) (o : Op) (h : id' ≠ id) :
    (s.dropAnswers id o).coach? id' = s.coach? id' := by
  unfold State.dropAnswers
  split
  · rfl
  · rename_i c hc
    have hid := State.coach?_id hc
    split
    · rfl
    · rw [State.coach?_setCoach]
      refine if_neg (fun e => h ?_)
      exact e.symm.trans hid

end Sys2Proof.Machine
end

