-- ==== Sys2Proof/Laws/Canonical.lean ====
section
/-! SUPPORT. The canonical form of memory through an instruction: it stays when the instruction's meaning keeps
it. -/

namespace Sys2Proof.Machine

open Sys2Proof

/-- A meaning keeps the canonical form of memory, whether it completes or waits. -/
def Body.keepsWf (body : Body) : Prop :=
  ∀ s l c, Memory.wf s.mem = true →
    (∀ t, body s l c = .ok t → Memory.wf t.mem = true)
    ∧ ∀ w t, body s l c = .error (.wait w t) → Memory.wf t.mem = true

/-- An instruction whose meaning keeps the canonical form keeps it. -/
theorem issue_wf {o : Op} {f : Fields} {body : Body} {s t : State} (hb : Body.keepsWf body)
    (h : issue o f body s = .next t) (hm : Memory.wf s.mem = true) : Memory.wf t.mem = true := by
  unfold issue at h
  split at h
  · cases h
  · split at h
    · cases h
    · split at h
      · cases h
        exact State.trapAfterGrid_wf _ _ _ _ hm
      · split at h
        · cases h
          exact hm
        have hk := fun l c => hb (s.beginIssue c o) l { c with wait := .ready } (by simpa using hm)
        split at h
        · cases h
          exact State.trapAfterGrid_wf _ _ _ _ hm
        · cases h
          exact hm
        · rename_i hw
          have hw' := (hk _ _).2 _ _ hw
          split at h
          · cases h
            exact hw'
          · cases h
            simpa using hw'
        · rename_i ho
          have ho' := (hk _ _).1 _ ho
          cases h
          simpa using ho'

/-! ### Meanings that keep it -/

/-- Completing an instruction that changes only its coach. -/
theorem finish_mem {s t : State} {c : Coach} {f : Fields} (h : finish s c f = .ok t) : t.mem = s.mem := by
  cases h
  rfl

theorem finish_not_error {s : State} {c : Coach} {f : Fields} {e : Stop} : finish s c f ≠ .error e := nofun

/-- Checks before a meaning: what it answers is what the meaning answers. -/
theorem checked_ok {ts : List (Option Trap)} {r : Except Stop State} {t : State} (h : checked ts r = .ok t) :
    firstTrap ts = none ∧ r = .ok t := by
  unfold checked at h
  split at h
  · cases h
  · exact ⟨by assumption, h⟩

theorem checked_wait {ts : List (Option Trap)} {r : Except Stop State} {w : Wait} {t : State}
    (h : checked ts r = .error (.wait w t)) : firstTrap ts = none ∧ r = .error (.wait w t) := by
  unfold checked at h
  split at h
  · cases h
  · exact ⟨by assumption, h⟩

/-- A meaning that is skipped with act 0. -/
theorem whenActive_ok {s t : State} {c : Coach} {f : Fields} {r : Except Stop State}
    (h : whenActive s c f r = .ok t) : (c.act f = 0 ∧ finish s c f = .ok t) ∨ (c.act f ≠ 0 ∧ r = .ok t) := by
  unfold whenActive at h
  split at h
  · exact .inl ⟨by assumption, h⟩
  · exact .inr ⟨by assumption, h⟩

theorem whenActive_wait {s t : State} {c : Coach} {f : Fields} {r : Except Stop State} {w : Wait}
    (h : whenActive s c f r = .error (.wait w t)) : c.act f ≠ 0 ∧ r = .error (.wait w t) := by
  unfold whenActive at h
  split at h
  · exact absurd h finish_not_error
  · exact ⟨by assumption, h⟩

end Sys2Proof.Machine
end

