-- ==== Sys2Proof/Laws/Claims.lean ====
section
/-! SUPPORT. What the terms of the statements give: a completed issue, said once for every instruction. -/

namespace Sys2Proof.Claims

open Sys2Proof Sys2Proof.Machine

variable {s s1 : State} {c d : Coach} {l : Launch} {o : Op} {f : Fields}

/-- No check before its meaning stops an instruction that issues. -/
theorem Issues.preTrap (h : Issues s c l o f) : s.preTrap l c o f = none := by
  have hc : (if o == .chrun then none else c.charg) = none := by
    rcases h.noPrefix with h1 | h1
    · subst h1; rfl
    · rw [h1]; split <;> rfl
  unfold State.preTrap issueBreach
  rw [hc, h.words, h.counts, h.masks, h.clean]
  rfl

/-- The selected coach is listed. -/
theorem Issues.coach (h : Issues s c l o f) : s.coach? c.id = some c := by
  have hs := h.selected
  unfold State.current at hs
  split at hs
  · cases hs
  · rename_i id _
    rw [← State.coach?_id hs] at hs
    exact hs

theorem ageLatch_some {y : Option Latch} {x : Latch} (h : ageLatch y = some x) :
    ∃ z, y = some z ∧ z.value = x.value ∧ z.owner = x.owner := by
  unfold ageLatch at h
  cases y with
  | none => cases h
  | some z =>
    refine ⟨z, rfl, ?_⟩
    dsimp only at h
    split at h
    · cases h
    · cases h; exact ⟨rfl, rfl⟩

/-- Used latch entries keep their values and owners. -/
theorem issuedBy_latch {k before : Core} {id : CoachId} {e : Nat} {x : Latch}
    (h : (k.issuedBy before id o true).latch.getD e none = some x) :
    ∃ y, k.latch.getD e none = some y ∧ y.value = x.value ∧ y.owner = x.owner := by
  unfold Core.issuedBy at h
  split at h
  · exact ⟨x, h, rfl, rfl⟩
  · split at h
    · exact ⟨x, h, rfl, rfl⟩
    · have hm : (k.latch.map ageLatch).getD e none = some x := h
      rw [List.getD_eq_getElem?_getD, List.getElem?_map] at hm
      rw [List.getD_eq_getElem?_getD]
      cases hy : k.latch[e]? with
      | none => rw [hy] at hm; cases hm
      | some y =>
        rw [hy] at hm
        obtain ⟨z, rfl, hz⟩ := ageLatch_some (show ageLatch y = some x from hm)
        exact ⟨z, rfl, hz⟩

/-- A register that an instruction frees of poison is the coach's own, or a slot of its crew. -/
theorem overwrites_own {p : Poison} (h : overwrites c o f p = true) :
    ∃ i k n, p = .register i k n ∧ i.q = c.id.q ∧ i.gang = c.id.gang ∧ i.crew = c.id.crew := by
  unfold overwrites poisonsReg at h
  simp only [Bool.or_eq_true, List.any_eq_true, Bool.and_eq_true, beq_iff_eq] at h
  rcases h with ⟨r, -, h⟩ | ⟨-, h⟩
  · split at h
    · rename_i i k n
      simp only [Bool.and_eq_true, beq_iff_eq] at h
      refine ⟨i, k, n, rfl, ?_⟩
      have h2 := h.2
      split at h2
      · simp only [Bool.and_eq_true, beq_iff_eq] at h2
        exact ⟨h2.1.1, h2.1.2, h2.2⟩
      · have e : i = c.id := by simpa using h2
        subst e
        exact ⟨rfl, rfl, rfl⟩
    · cases h
  · split at h
    · rename_i i k n
      simp only [Bool.and_eq_true, beq_iff_eq] at h
      exact ⟨i, k, n, rfl, by rw [h.1], by rw [h.1], by rw [h.1]⟩
    · cases h

/-- The bookkeeping of an issue changes nothing else. -/
theorem only_endIssue {before : Core} (h1 : s1.coach? c.id = some d) (hcore : d.core = c.core) :
    Only s1 (s1.endIssue before c o f true) c o := by
  have hid := State.coach?_id h1
  have hk : ∀ k, (s1.endIssue before c o f true).core k
      = if c.core = k then (s1.core c.core).issuedBy before c.id o true else s1.core k := by
    intro k
    have := State.core_endIssue (s := s1) (c := d) (old := c) before o f true k h1
    rw [hcore] at this
    exact this
  have hown := hk c.core
  rw [if_pos rfl] at hown
  have hrest := State.endIssue_rest s1 before c o f true
  refine ⟨hrest, fun id hne => State.coach?_endIssue_other s1 before c id o f true hne,
    fun k hne => by rw [hk k, if_neg (Ne.symm hne)], ?_, ?_, ?_, ?_, ?_⟩
  · rw [hown]
    have hn := Core.issuedBy_count (s1.core c.core) before c.id o true
    rw [← hn.1, ← hn.2]
    exact Core.issuedBy_rest _ _ _ _ _
  · intro hv
    rw [hown, Core.issuedBy_scalar _ _ _ _ hv]
    exact ⟨rfl, rfl, rfl, rfl⟩
  · intro e x hx
    rw [hown] at hx
    exact issuedBy_latch hx
  · intro a
    rw [State.mem_endIssue]
  · intro k a
    have hc2 : ((s1.endIssue before c o f true).core k).cells = (s1.core k).cells := by
      rw [hk k]
      split
      · rename_i he
        subst he
        rw [Core.issuedBy_rest]
      · rfl
    have hcr : (s1.endIssue before c o f true).crews = s1.crews := by rw [hrest]
    unfold State.storeByte State.crewAt
    rw [hc2, hcr]

/-- The registers that an instruction overwrites are free of poison. -/
theorem poison_endIssue {before : Core} (h1 : s1.coach? c.id = some d) :
    (s1.endIssue before c o f true).poison = s1.poison.filter (fun p => !overwrites c o f p) := by
  unfold State.endIssue
  rw [h1]
  rfl

/-- What an issue leaves of a coach. -/
theorem issuedAs_eq (s : State) (c : Coach) :
    ({ c with answers := if o = .rft ∨ o = .charg then c.answers else [] } : Coach).issuedAs o f s.cycles true
      = issued s o f c := by
  unfold Coach.issuedAs issued
  have h1 : (o == Op.rft) = decide (o = Op.rft) := by cases o <;> rfl
  have h2 : (o == Op.post) = decide (o = Op.post) := by cases o <;> rfl
  have h3 : (o == Op.charg) = decide (o = Op.charg) := by cases o <;> rfl
  simp [h1, h2, h3]

/-- An instruction whose meaning leaves its coach as `d` in state `s1` ends there. -/
theorem ends_of_ok {i : Instr} {body : Body} (hi : exec i s = issue o f body s) (h : Issues s c l o f)
    (hb : body (s.beginIssue c o) l (awake c) = .ok (s1.setCoach d)) (hid : d.id = c.id)
    (hcore : d.core = c.core) : Ends i s s1 c d o f := by
  have hok := issue_ok (body := body) (s1 := s1.setCoach d) h.selected h.launched h.preTrap h.free hb
  rw [← hi] at hok
  have hself : (s1.setCoach d).coach? c.id = some d := by rw [← hid]; exact State.coach?_setCoach_self s1 d
  have hdrop := State.coach?_dropAnswers o hself
  have hd := State.coach?_endIssue (old := c) (s.core c.core) o f true hdrop
  have honly := only_endIssue (o := o) (f := f) (before := s.core c.core) (c := c) hdrop hcore
  refine ⟨_, hok, ?_, ?_, ?_⟩
  · rw [hd, State.dropAnswers_rest]
    exact congrArg some (issuedAs_eq s1 d)
  · have hr := honly.rest
    rw [State.dropAnswers_rest] at hr
    have hcoreEq : ∀ k, ((s1.setCoach d).dropAnswers c.id o).core k = s1.core k := by
      intro k
      rw [State.core_dropAnswers, State.core_setCoach]
    have hmem : ((s1.setCoach d).dropAnswers c.id o).mem = s1.mem := by
      rw [State.mem_dropAnswers]
      rfl
    have hcrews : ((s1.setCoach d).dropAnswers c.id o).crews = s1.crews := by
      rw [State.dropAnswers_rest]; rfl
    have hstore : ∀ k a, ((s1.setCoach d).dropAnswers c.id o).storeByte k a = s1.storeByte k a := by
      intro k a
      unfold State.storeByte State.crewAt
      rw [hcoreEq, hcrews]
    refine ⟨?_, ?_, ?_, ?_, ?_, ?_, ?_, ?_⟩
    · rw [honly.rest, State.dropAnswers_rest]
      rfl
    · intro id hne
      rw [honly.coaches id hne, State.coach?_dropAnswers_other _ _ _ _ hne, State.coach?_setCoach, if_neg]
      rw [hid]
      exact Ne.symm hne
    · intro k hne
      rw [honly.cores k hne, hcoreEq]
    · rw [honly.core, hcoreEq]
    · intro hv
      rw [← hcoreEq]
      exact honly.slot hv
    · intro e x hx
      obtain ⟨y, hy⟩ := honly.latch e x hx
      rw [hcoreEq] at hy
      exact ⟨y, hy⟩
    · intro a
      rw [honly.memory, hmem]
    · intro k a
      rw [honly.store, hstore]
  · rw [poison_endIssue hdrop, State.dropAnswers_rest]
    rfl

/-- An instruction whose meaning changes only its coach, and goes on to the next instruction. -/
theorem ends_of_finish {i : Instr} {body : Body} {d : Coach} (hi : exec i s = issue o f body s)
    (h : Issues s c l o f) (hb : body (s.beginIssue c o) l (awake c) = finish s1 d f) (hid : d.id = c.id)
    (hcore : d.core = c.core) (hw : d.wait = .ready) : Ends i s s1 c (onward f d) o f := by
  refine ends_of_ok hi h (d := onward f d) ?_ hid hcore
  rw [hb]
  unfold finish onward Coach.advance
  cases d
  simp_all

end Sys2Proof.Claims
end

