-- ==== Sys2Proof/Laws/Encoding.lean ====
section
/-! SUPPORT. The fields of an instruction's words survive the round through the word (R122-R124). -/

namespace Sys2Proof

open Sys2Proof.Machine

/-! ### Parts of a concatenation -/

theorem extract_high {n m : Nat} (a : BitVec n) (b : BitVec m) : (a ++ b).extractLsb' m n = a := by
  apply BitVec.eq_of_getLsbD_eq
  intro i hi
  simp [BitVec.getLsbD_append, hi]

theorem extract_low {n m : Nat} (a : BitVec n) (b : BitVec m) (j k : Nat) (h : j + k ≤ m) :
    (a ++ b).extractLsb' j k = b.extractLsb' j k := by
  apply BitVec.eq_of_getLsbD_eq
  intro i hi
  have : j + i < m := by omega
  simp [BitVec.getLsbD_append, hi, this]

theorem extract_all {m : Nat} (b : BitVec m) : b.extractLsb' 0 m = b := by
  apply BitVec.eq_of_getLsbD_eq
  intro i hi
  simp [hi]

theorem bit_low {n m : Nat} (a : BitVec n) (b : BitVec m) (j : Nat) (h : j < m) :
    (a ++ b).getLsbD j = b.getLsbD j := by
  simp [BitVec.getLsbD_append, h]

theorem bit_high {m : Nat} (x : Bool) (b : BitVec m) : (bit1 x ++ b).getLsbD m = x := by
  rw [BitVec.getLsbD_append]
  simp [bit1]

/-! ### Word 0 -/

@[simp] theorem W0.ofWord_toWord (w : W0) (opc : BitVec 8) (len : BitVec 2) : W0.ofWord (w.toWord opc len) = w := by
  cases w with
  | mk k6 a d =>
    have down {n m k j : Nat} {x : BitVec n} {y : BitVec m} {z : BitVec k} (h : j + k ≤ m)
        (e : y.extractLsb' j k = z) : (x ++ y).extractLsb' j k = z := (extract_low x y j k h).trans e
    simp only [W0.ofWord, W0.toWord, W0.mk.injEq]
    exact ⟨extract_high k6 _, down (by decide) (extract_high a _),
      down (by decide) (down (by decide) (extract_high d _))⟩

@[simp] theorem lenField_toWord (w : W0) (opc : BitVec 8) (len : BitVec 2) : lenField (w.toWord opc len) = len.toNat := by
  have h : (w.toWord opc len).extractLsb' 0 2 = len := by
    rw [W0.toWord, extract_low _ _ _ _ (by decide), extract_low _ _ _ _ (by decide), extract_low _ _ _ _ (by decide),
      extract_low _ _ _ _ (by decide), extract_all]
  simpa [lenField, BitVec.extractLsb'] using congrArg BitVec.toNat h

@[simp] theorem opcField_toWord (w : W0) (opc : BitVec 8) (len : BitVec 2) : opcField (w.toWord opc len) = opc.toNat := by
  have h : (w.toWord opc len).extractLsb' 2 8 = opc := by
    rw [W0.toWord, extract_low _ _ _ _ (by decide), extract_low _ _ _ _ (by decide), extract_low _ _ _ _ (by decide),
      extract_high]
  simpa [opcField, BitVec.extractLsb', Nat.shiftRight_eq_div_pow] using congrArg BitVec.toNat h

/-- The opcode table gives every opcode a code of its own (R134). -/
@[simp] theorem Op.ofCode_code (o : Op) : Op.ofCode (BitVec.ofNat 8 o.code).toNat = some o := by
  cases o <;> rfl

/-! ### Word 1 -/

@[simp] theorem W1.ofWord_toWord (w : W1) : W1.ofWord w.toWord = w := by
  cases w with
  | mk x31 bstr bscl astr hold sat rnd pneg psel pen c b =>
    have down {n m k j : Nat} {x : BitVec n} {y : BitVec m} {z : BitVec k} (h : j + k ≤ m)
        (e : y.extractLsb' j k = z) : (x ++ y).extractLsb' j k = z := (extract_low x y j k h).trans e
    have up {n m j : Nat} {x : BitVec n} {y : BitVec m} {z : Bool} (h : j < m) (e : y.getLsbD j = z) :
        (x ++ y).getLsbD j = z := (bit_low x y j h).trans e
    simp only [W1.ofWord, W1.toWord, W1.mk.injEq]
    refine ⟨bit_high x31 _, up (by decide) (bit_high bstr _), up (by decide) (up (by decide) (bit_high bscl _)),
      up (by decide) (up (by decide) (up (by decide) (bit_high astr _))), ?_, ?_, ?_, ?_, ?_, ?_, ?_, ?_⟩
    · exact down (by decide) (down (by decide) (down (by decide) (down (by decide) (extract_high hold _))))
    · exact down (by decide) (down (by decide) (down (by decide) (down (by decide) (down (by decide)
        (extract_high sat _)))))
    · exact down (by decide) (down (by decide) (down (by decide) (down (by decide) (down (by decide)
        (down (by decide) (extract_high rnd _))))))
    · exact up (by decide) (up (by decide) (up (by decide) (up (by decide) (up (by decide) (up (by decide)
        (up (by decide) (bit_high pneg _)))))))
    · exact down (by decide) (down (by decide) (down (by decide) (down (by decide) (down (by decide)
        (down (by decide) (down (by decide) (down (by decide) (extract_high psel _))))))))
    · exact up (by decide) (up (by decide) (up (by decide) (up (by decide) (up (by decide) (up (by decide)
        (up (by decide) (up (by decide) (up (by decide) (bit_high pen _)))))))))
    · exact down (by decide) (down (by decide) (down (by decide) (down (by decide) (down (by decide)
        (down (by decide) (down (by decide) (down (by decide) (down (by decide) (down (by decide)
          (extract_high c _))))))))))
    · exact down (by decide) (down (by decide) (down (by decide) (down (by decide) (down (by decide)
        (down (by decide) (down (by decide) (down (by decide) (down (by decide) (down (by decide)
          (down (by decide) (extract_all b)))))))))))

end Sys2Proof
end

