-- ==== Sys2Proof/Laws/Fabric.lean ====
section
/-! SUPPORT. The header flit of a packet carries every field of it (R315). -/

namespace Sys2Proof.Machine

open Sys2Proof

/-- A slice above the low part of a joined vector is a slice of the high part. -/
theorem extract_append_high {m n : Nat} (x : BitVec m) (y : BitVec n) (o w : Nat) (h : n ≤ o) :
    (x ++ y).extractLsb' o w = x.extractLsb' (o - n) w := by
  ext i hi
  rw [BitVec.getElem_extractLsb', BitVec.getElem_extractLsb', BitVec.getLsbD_append, if_neg (by omega)]
  exact congrArg _ (by omega)

/-- The low part of a joined vector. -/
theorem extract_append_low {m n : Nat} (x : BitVec m) (y : BitVec n) : (x ++ y).extractLsb' 0 n = y := by
  ext i hi
  simp [BitVec.getLsbD_append, hi]

/-- A bit as a slice of one bit. -/
theorem getLsbD_extract {n : Nat} (x : BitVec n) (o : Nat) : x.getLsbD o = (x.extractLsb' o 1).getLsbD 0 := by
  simp

/-- Reading the header flit gives the packet back: no field is dropped, and none overlaps another (R315). -/
theorem packetOfHeader_packetHeader (p : Packet) : packetOfHeader (packetHeader p) p.data = p := by
  obtain ⟨be, dst, src, op, sync, sec, tag, fctx, dl, aop, aw, line, data⟩ := p
  simp only [packetOfHeader, packetHeader, Packet.mk.injEq, and_true]
  rw [getLsbD_extract]
  simp (disch := decide) only [extract_append_high, Nat.reduceSub, extract_append_low]
  simp

end Sys2Proof.Machine
end

