-- ==== Sys2Proof/Tests/Slice0.lean ====
section
/-! SUPPORT. Tests of the model's author: an ill-formed term for each check of WellFormed, words of the manual and
what they decode to, single steps on the stand-in coach, and a witness for the hypotheses of every statement. The
words and the results come from the manual's worked examples, or by hand from its encoding tables. -/

namespace Sys2Proof.Tests

open Sys2Proof Sys2Proof.Machine Sys2Proof.Claims

set_option Elab.async false

/-! ### One ill-formed term for each check -/

/-- Word 1 with an index in B. -/
def w1B (b : BitVec 8) : W1 := { W1.default with b := b }

/-- ENCODING 0x0003: an F96 form of VPOP, which reads no B, with X31 = 0. -/
theorem test_ill_form : (Instr.vpopF96 ⟨0, 1, 2⟩ W1.default 0).breach = some 3 := by decide +kernel
/-- 0x0004: NOP with a nonzero D, which it does not read. -/
theorem test_ill_default : (Instr.nop ⟨0, 0, 1⟩).breach = some 4 := by decide +kernel
/-- 0x0005: VADD with EW 3 (worked example of R357). -/
theorem test_ill_code : (Instr.vaddF64 ⟨3, 2, 1⟩ (w1B 3)).breach = some 5 := by decide +kernel
/-- 0x0006: MOVX from X64, outside the value space. -/
theorem test_ill_space : (Instr.movx ⟨0, 64, 1⟩).breach = some 6 := by decide +kernel
/-- 0x0007: HOLD in ADDX, whose A is no V operand. -/
theorem test_ill_flag : (Instr.addx ⟨0, 1, 2⟩ { w1B 3 with hold := 1 }).breach = some 7 := by decide +kernel
/-- 0x0006 and 0x0008: a latch in D of XTOV, where V0-V251 or 255 is required, and of LD.v. -/
theorem test_ill_latch : (Instr.xtov ⟨0, 1, 253⟩).breach = some 6 := by decide +kernel
theorem test_ill_latch_slot : (Instr.ldF64 ⟨8, 1, 252⟩ (w1B 3)).breach = some 8 := by decide +kernel
/-- 0x0009: X31 in ADDX, which gives it no meaning. -/
theorem test_ill_x31 : (Instr.addx ⟨0, 1, 2⟩ { w1B 3 with x31 := true }).breach = some 9 := by decide +kernel
/-- The same terms without the fault are well formed. -/
theorem test_well_formed : (Instr.nop ⟨0, 0, 0⟩).wellFormed && (Instr.vaddF64 ⟨2, 2, 1⟩ (w1B 3)).wellFormed
    && (Instr.movx ⟨0, 63, 1⟩).wellFormed && (Instr.addx ⟨0, 1, 2⟩ (w1B 3)).wellFormed = true := by decide +kernel

/-! ### Words of the manual -/

theorem test_decode_trap : decode [0x0000ABC0] = .ok (.trap ⟨0, 0, 0x2A⟩) := rfl
theorem test_decode_rft : decode [0x000003C4] = .ok (.rft ⟨0, 0, 0⟩) := rfl
theorem test_decode_addx : decode [0x0004080D, 0x0000FF02] = .ok (.addx ⟨0, 1, 2⟩ (w1B 2)) := rfl
theorem test_decode_movi : decode [0x00001C0A, 0x0000FFFF, 0x12345678] = .ok (.movi ⟨0, 0, 7⟩ W1.default 0x12345678) := rfl
theorem test_decode_elseM : decode [0x00000098] = .ok (.elseM ⟨0, 0, 0⟩) := rfl
theorem test_decode_endif : decode [0x0000009C] = .ok (.endif ⟨0, 0, 0⟩) := rfl
theorem test_decode_exit : decode [0x000000B8] = .ok (.exit ⟨0, 0, 0⟩) := rfl
theorem test_decode_ifM : decode [0x00040096, 0x0000FFFF, 0x00040004] = .ok (.ifM ⟨0, 1, 0⟩ W1.default 0x00040004) := rfl
theorem test_decode_loop : decode [0x000000A2, 0x0000FFFF, 0x0000000E] = .ok (.loop ⟨0, 0, 0⟩ W1.default 0x0E) := rfl
theorem test_decode_breakM : decode [0x000400A6, 0x0000FFFF, 0x00000009] = .ok (.breakM ⟨0, 1, 0⟩ W1.default 9) := rfl
theorem test_decode_endloop : decode [0x000800AE, 0x0000FFFF, 0x0000FFF8] = .ok (.endloop ⟨0, 2, 0⟩ W1.default 0xFFF8) := rfl
theorem test_decode_vadd : decode [0x14201D01, 0x0100FF09] = .ok (.vaddF64 ⟨5, 8, 7⟩ { w1B 9 with sat := 1 }) := rfl
theorem test_decode_fadd_sweep : decode [0x00141182, 0x8000FF06, 0x80041100] = .ok (.faddF96 ⟨0, 5, 4⟩ { w1B 6 with x31 := true } 0x80041100) := rfl
theorem test_decode_ffma_sweep : decode [0x0014118E, 0x80000906, 0x80041004] = .ok (.ffmaF96 ⟨0, 5, 4⟩ { w1B 6 with x31 := true, c := 9 } 0x80041004) := rfl
theorem test_decode_qamax : decode [0x1028520C] = .ok (.qamax ⟨4, 10, 20⟩) := rfl
theorem test_decode_qexp : decode [0x00505610] = .ok (.qexp ⟨0, 20, 21⟩) := rfl
theorem test_decode_qcvt : decode [0x00285A15, 0x0000FF15] = .ok (.qcvt ⟨0, 10, 22⟩ (w1B 21)) := rfl
theorem test_decode_charg : decode [0x03FC1636, 0x0000FFFF, 0x00FFFFFF] = .ok (.charg ⟨0, 255, 5⟩ W1.default 0x00FFFFFF) := rfl
theorem test_decode_chrun : decode [0x08287A31, 0x0000FF0B] = .ok (.chrunF64 ⟨2, 10, 30⟩ (w1B 11)) := rfl
theorem test_decode_shflx : decode [0x0010168E, 0x0000FFFF, 0x00000001] = .ok (.shflxF96 ⟨0, 4, 5⟩ W1.default 1) := rfl
theorem test_decode_ld_s : decode [0x00181300] = .ok (.ld ⟨0, 6, 4⟩) := rfl
theorem test_decode_ld_bt_swz : decode [0x64103301, 0x00000706] = .ok (.ldF64 ⟨25, 4, 12⟩ { w1B 6 with c := 7 }) := rfl
theorem test_decode_st_v : decode [0x20180F05, 0x0000FF02] = .ok (.stF64 ⟨8, 6, 3⟩ (w1B 2)) := rfl
theorem test_decode_pmake : decode [0x00200F12, 0x000009FF, 0x0043480B] = .ok (.pmakeF96 ⟨0, 8, 3⟩ { W1.default with c := 9 } 0x0043480B) := rfl
theorem test_decode_pscope : decode [0x380C1718] = .ok (.pscope ⟨14, 3, 5⟩) := rfl
theorem test_decode_mmode : decode [0x040102C0] = .ok (.mmode ⟨1, 0, 64⟩) := rfl
theorem test_decode_mxmul : decode [0x000102C5, 0x5000FF01] = .ok (.mxmul ⟨0, 0, 64⟩ { w1B 1 with bstr := true, astr := true }) := rfl
theorem test_decode_mxzero : decode [0x000102CC] = .ok (.mxzero ⟨0, 0, 64⟩) := rfl
theorem test_decode_mxout : decode [0x041902D5, 0x20000714] = .ok (.mxout ⟨1, 6, 64⟩ { w1B 20 with c := 7, bscl := true }) := rfl
theorem test_decode_tlrset : decode [0x0040074C] = .ok (.tlrset ⟨0, 16, 1⟩) := rfl
theorem test_decode_drld : decode [0x00280741, 0x0000090D] = .ok (.drld ⟨0, 10, 1⟩ { w1B 13 with c := 9 }) := rfl
theorem test_decode_gbar : decode [0x00000380] = .ok (.gbar ⟨0, 0, 0⟩) := rfl
theorem test_decode_gred : decode [0x0014139D, 0x0000FF01] = .ok (.gred ⟨0, 5, 4⟩ (w1B 1)) := rfl
theorem test_decode_post : decode [0x00001F90] = .ok (.post ⟨0, 0, 7⟩) := rfl
theorem test_decode_migrate : decode [0x00001F94] = .ok (.migrate ⟨0, 0, 7⟩) := rfl
/-- LEN 0b11 is no instruction, and OPC 0x33 is unassigned (R122, R134, R356). -/
theorem test_decode_len : decode [0x00000003] = .error .lenCode := rfl
theorem test_decode_unassigned : decode [0x000000CC] = .error .unassigned := rfl
/-- IF has no F32 form (R168): the format is refused. -/
theorem test_decode_format : decode [0x00040094] = .error .format := rfl

/-! ### Single steps -/

/-- One step of the stand-in coach with the words `w` at its PC, after `g` has set its registers. -/
noncomputable def after (nbits w : Nat) (g : Coach → Coach) (p : Coach → State → Bool) : Bool :=
  let s := State.reset.withFetchWord nbits w
  match step { s with coaches := s.coaches.map g } with
  | .next t =>
    match t.coach? standInId with
    | some c => p c t
    | none => false
  | _ => false

/-- The coach's PC before the step. -/
def startPc : DWord := 0x40000100

/-- The launch has ended with a status. -/
def endedWith (t : State) (n : Nat) : Bool :=
  match t.launch? 0 with
  | some l => l.terminal.any (fun e => e.status == n)
  | none => false

/-- The class and code in the record of the launch's end (R347). -/
def endedBy (t : State) (cls code : Nat) : Bool :=
  match t.launch? 0 with
  | some l => l.terminal.any (fun e => e.record.any (fun r =>
      leNat ((r.drop 16).take 8) / 2 ^ 24 % 256 == cls && leNat ((r.drop 16).take 8) / 2 ^ 32 % 2 ^ 16 == code))
  | none => false

/-- 2^64 - 1 + 2 = 1, and the PC moves by 8 (R159). -/
theorem test_addx_wraps : after 64 0x0000FF020004080D (fun c => (c.setX 1 0xFFFFFFFFFFFFFFFF).setX 2 2) (fun c t => c.xr 2 == 1 && c.pc == startPc + 8 && t.powered) = true := by decide +kernel
/-- (-1) x (-1) has high half 0 (R159). -/
theorem test_mulhx_signed : after 64 0x0000FF0104040819 (fun c => c.setX 1 0xFFFFFFFFFFFFFFFF) (fun c t => c.xr 2 == 0 && t.powered) = true := by decide +kernel
/-- b = 0 gives all ones (R159). -/
theorem test_divx_by_zero : after 64 0x0000FFFF0004081D (fun c => c.setX 1 5) (fun c t => c.xr 2 == 0xFFFFFFFFFFFFFFFF && t.powered) = true := by decide +kernel
/-- -7 rem 2 = -1: the sign of a (R159). -/
theorem test_remx_sign : after 64 0x0000FF0304040821 (fun c => (c.setX 1 0xFFFFFFFFFFFFFFF9).setX 3 2) (fun c t => c.xr 2 == 0xFFFFFFFFFFFFFFFF && t.powered) = true := by decide +kernel
/-- A shift by 64 gives 64 copies of bit 63 (R159). -/
theorem test_sarx_full_shift : after 64 0x0000FF0300040839 (fun c => (c.setX 1 0x8000000000000000).setX 3 64) (fun c t => c.xr 2 == 0xFFFFFFFFFFFFFFFF && t.powered) = true := by decide +kernel
/-- movi.hi keeps the low half (R160). -/
theorem test_movi_hi : after 96 0x123456780000FFFF08001C0A (fun c => c.setX 7 0x1111111122222222) (fun c t => c.xr 7 == 0x1234567822222222 && c.pc == startPc + 12 && t.powered) = true := by decide +kernel
/-- CM of a fresh coach of 64 lanes (R164). -/
theorem test_mtox_cm : after 32 0x04000C78 (id) (fun c t => c.xr 3 == 0xFFFFFFFFFFFFFFFF && t.powered) = true := by decide +kernel
/-- A branch one word before the image is OPERAND 0x010E (R166, R365). -/
theorem test_bra_outside : after 32 0xFFFFFC80 (id) (fun c t => c.pc == startPc && endedBy t 4 0x010E) = true := by decide +kernel
/-- brc.z with x1 = 0 (R166). -/
theorem test_brc_taken : after 96 0x000000100000FFFF00040086 (id) (fun c t => c.pc == startPc + 16 && t.powered) = true := by decide +kernel
/-- CALL leaves pc + 12 (R167). -/
theorem test_call_links : after 96 0x000000400000FFFF0000148A (id) (fun c t => c.xr 5 == startPc + 12 && c.pc == startPc + 64 && t.powered) = true := by decide +kernel
/-- The manual's IF with m1 = 1 splits: the then-side is lane 0 (R28, R168). -/
theorem test_if_splits : after 96 0x000400040000FFFF00040096 (fun c => { c with m := [0, 1, 0, 0, 0, 0, 0, 0] }) (fun c t => c.cm == 1 && c.rpc == startPc + 16 && c.depth == 2 && c.pc == startPc + 12 && t.powered) = true := by decide +kernel
/-- The manual's LOOP: exit 14 words on (R169). -/
theorem test_loop_pushes : after 96 0x0000000E0000FFFF000000A2 (id) (fun c t => c.depth == 1 && c.rpc == startPc + 56 && c.pc == startPc + 12 && t.powered) = true := by decide +kernel
/-- No lane continues: the path goes on (R169). -/
theorem test_endloop_ends : after 96 0x000000000000FFFF000800AE (id) (fun c t => c.pc == startPc + 12 && t.powered) = true := by decide +kernel
/-- rpc = none is not the exit (R170, R365). -/
theorem test_break_checks_rpc : after 96 0x000000090000FFFF000400A6 (id) (fun c t => endedBy t 4 0x010F && c.pc == startPc) = true := by decide +kernel
/-- (R172) -/
theorem test_exit_all : after 32 0x000000B8 (id) (fun c t => c.ex == 0xFFFFFFFFFFFFFFFF && t.powered) = true := by decide +kernel
/-- Signed 16-bit sums saturate at both ends, and U + U is U (R179, R181). -/
theorem test_vadd_saturates : after 64 0x0100FF0914201D01 (fun c => { c with v := (c.v.set 8 (.u 0x7FFF8000)).set 9 (.u 0x0001FFFF) }) (fun c t => c.vr 7 == .u 0x7FFF8000 && t.powered) = true := by decide +kernel
theorem test_vpop : after 32 0x00080548 (fun c => { c with v := c.v.set 2 (.u 0xF0F) }) (fun c t => c.vr 1 == .u 8 && t.powered) = true := by decide +kernel
/-- 1.0 + 1.0 = 2.0 (R185). -/
theorem test_fadd : after 64 0x0000FF0300080581 (fun c => { c with v := (c.v.set 2 (.u 0x3F800000)).set 3 (.u 0x3F800000) }) (fun c t => c.vr 1 == .u 0x40000000 && t.powered) = true := by decide +kernel
/-- The amax of -1.0 (R204). -/
theorem test_qamax_grp : after 32 0x1028520C (fun c => { c with v := c.v.set 10 (.u 0xBF800000) }) (fun c t => (c.vr 20).elem 0 == 0x3F800000 && t.powered) = true := by decide +kernel
/-- The manual's exchange of neighbours (R220). -/
theorem test_shflx : after 96 0x000000010000FFFF0010168E (fun c => { c with v := c.v.set 4 (.a 0 1) }) (fun c t => (c.vr 5).elem 0 == 1 && (c.vr 5).elem 63 == 62 && t.powered) = true := by decide +kernel
/-- (R222) -/
theorem test_elect : after 32 0x00000E9C (id) (fun c t => c.mr 3 == 1 && t.powered) = true := by decide +kernel
/-- 0 + 1 + ... + 63 (R224). -/
theorem test_reduce_add : after 32 0x00080694 (fun c => { c with v := c.v.set 2 (.a 0 1) }) (fun c t => c.vr 1 == .u 2016 && t.powered) = true := by decide +kernel
/-- VB 64, MXM 1; the block takes tag G (R251, R252). -/
theorem test_mmode_on : after 32 0x040102C0 (id) (fun c t => c.mxs == 0x101 && c.vr 64 == .g (List.replicate 64 0) && t.powered) = true := by decide +kernel
/-- (R264) -/
theorem test_mxzero : after 32 0x000102CC (fun c => { c with mxs := 0x101, v := c.v.set 64 (.g (List.replicate 64 7)) }) (fun c t => (c.vr 64).elem 0 == 0 && t.powered) = true := by decide +kernel
/-- Matrix mode is off (R360). -/
theorem test_mxzero_off : after 32 0x000102CC (id) (fun _ t => endedBy t 4 0x0104) = true := by decide +kernel
/-- A load through a pointer of length 0 traps (R386). -/
theorem test_ld_outside : after 32 0x00181300 (id) (fun c t => endedWith t 4 && c.pc == startPc) = true := by decide +kernel
/-- The manual's PMAKE (R241). -/
theorem test_pmake : after 96 0x0043480B000009FF00200F12 (fun c => (c.setX 8 0x2000).setX 9 0x1000) (fun c t => ptrBase (c.pr 3) == 0x2000 && ptrLen (c.pr 3) == 0x1000 && ptrAttr (c.pr 3) == 0x0043480B && t.powered) = true := by decide +kernel
/-- A record of zeros breaks R268 (R280). -/
theorem test_tlrset_bad : after 32 0x0040074C (id) (fun _ t => endedBy t 4 0x010C) = true := by decide +kernel
/-- The slot has not been loaded (R363). -/
theorem test_drld_unloaded : after 64 0x0000090D00280741 (id) (fun c t => endedWith t 4 && c.pc == startPc) = true := by decide +kernel
/-- One granule becomes full (R281). -/
theorem test_feset_sets : after 96 0x000000100000FFFF00040352 (id) (fun _ t => t.isFull standInCore 0 && !t.isFull standInCore 1) = true := by decide +kernel
/-- All lanes reach the barrier at once: the coach has arrived and waits (R36). -/
theorem test_gbar_arrives : after 32 0x00000380 (id) (fun c _ => c.arr.getD 0 false && c.pc == startPc) = true := by decide +kernel
/-- Slot 1 is not valid (R285). -/
theorem test_gred_invalid : after 64 0x0000FF010014139D (id) (fun _ t => endedBy t 4 0x0113) = true := by decide +kernel
/-- No post 7 (R366). -/
theorem test_post_missing : after 32 0x00001F90 (id) (fun _ t => endedBy t 4 0x0110) = true := by decide +kernel
/-- No trap post: the software trap is terminal (R349). -/
theorem test_trap : after 32 0x0000ABC0 (id) (fun _ t => endedBy t 1 0x2A && endedWith t 4) = true := by decide +kernel
/-- (R290) -/
theorem test_haltc : after 32 0x000403EC (fun c => c.setX 1 9) (fun _ t => endedBy t 12 9 && endedWith t 5) = true := by decide +kernel
/-- (R356) -/
theorem test_not_an_instruction : after 32 0x00000003 (id) (fun c t => endedBy t 3 1 && c.pc == startPc) = true := by decide +kernel
/-- (R291) -/
theorem test_srr_width : after 32 0x00100868 (id) (fun c t => c.xr 2 == 64 && t.powered) = true := by decide +kernel

/-! ### Witnesses: a state and operands that meet the hypotheses of each statement -/

/-- The state in which the stand-in coach issues, after `g` has changed the coach and `h` the rest. -/
def poise (g : Coach → Coach) (h : State → State) : State :=
  let s := State.reset.withProgram []
  h { s with cur := some standInId, coaches := s.coaches.map g }

/-- The coach selected in a state, and its launch. -/
def coachIn (s : State) : Coach := s.current.getD (standInLaunch.newCoach standInId standInCore 0)
def launchIn (s : State) : Launch := (s.launch? (coachIn s).id.q).getD standInLaunch

/-- The hypotheses of `Issues`, evaluated. -/
def mayIssue (s : State) (o : Op) (f : Fields) : Bool :=
  s.current.isSome && (s.launch? (coachIn s).id.q).isSome && (o == .chrun || (coachIn s).charg.isNone)
    && (encodingBreach o f).isNone && !countBreach (launchIn s) (coachIn s) o f && !maskBreach (launchIn s) o f
    && !s.readsPoison (coachIn s) o f && !(coachIn s).gridHolds o f

theorem issues_of {s : State} {o : Op} {f : Fields} (h : mayIssue s o f = true) :
    Issues s (coachIn s) (launchIn s) o f := by
  simp only [mayIssue, Bool.and_eq_true, Bool.or_eq_true, beq_iff_eq, Option.isSome_iff_exists, Option.isNone_iff_eq_none,
    Bool.not_eq_true'] at h
  obtain ⟨⟨⟨⟨⟨⟨⟨⟨c, hc⟩, ⟨l, hl⟩⟩, hp⟩, hw⟩, hn⟩, hm⟩, hr⟩, hg⟩ := h
  exact ⟨by simp [coachIn, hc], by simp [launchIn, hl], hp, hw, hn, hm, hr, hg⟩

/-- Does a computation succeed? -/
def good {ε α : Type} (x : Except ε α) : Bool :=
  match x with
  | .ok _ => true
  | .error _ => false

theorem good_of {ε α : Type} {x : Except ε α} (h : good x = true) : ∃ a, x = .ok a := by
  cases x with
  | ok a => exact ⟨a, rfl⟩
  | error e => cases h

/-- Can a vector instruction's sources be read? -/
def readable (s : State) (o : Op) (f : Fields) : Bool :=
  (firstTrap ((s.beginIssue (coachIn s) o).vectorChecks (launchIn s) (awake (coachIn s)) o f)).isNone
    && good ((s.beginIssue (coachIn s) o).sources (launchIn s) (awake (coachIn s)) o f)

theorem reads_of {s : State} {o : Op} {f : Fields} (h : readable s o f = true) :
    ∃ src s1 c1, Reads s (coachIn s) (launchIn s) o f src s1 c1 := by
  simp only [readable, Bool.and_eq_true, Option.isNone_iff_eq_none] at h
  obtain ⟨⟨src, s1, c1⟩, hs⟩ := good_of h.2
  exact ⟨src, s1, c1, h.1, hs⟩

/-- Fields of the three formats from K6, A, D, and B, C and LIT32. -/
def n32 (k a d : Nat) : Fields := .of32 ⟨k, a, d⟩
def n64 (k a d b c : Nat) : Fields := .of64 ⟨k, a, d⟩ { W1.default with b := b, c := c }
def n96 (k a d c lit : Nat) : Fields := .of96 ⟨k, a, d⟩ { W1.default with c := c } lit

/-- A pointer to I32 elements in Lunath, and one in scratch. -/
def farPtr : BitVec 128 := ptrMake 0x40010000 5 0x1000
def nearPtr : BitVec 128 := ptrMake 0 0x105 0x400

/-! ScalarResults, MoviForms -/

theorem witness_scalar_arithmetic :
    let s := poise id id
    let c := coachIn s
    let l := launchIn s
    let f := (n64 0 1 2 3 255)
    Issues s c l .addx f
      ∧ (view (.addx ⟨0, 1, 2⟩ { W1.default with b := 3 }) = some (.addx, f))
      ∧ (∀ a b d, arithmetic .addx f a b d = some (BitVec.ofNat 64 (a.toNat + b.toNat))) :=
  ⟨issues_of (by decide +kernel), by decide +kernel, fun _ _ _ => rfl⟩

/-- With PEN = 1 and an empty mask, act is 0 (R157). -/
theorem witness_scalar_skipped :
    let s := poise id id
    let c := coachIn s
    let l := launchIn s
    let f := { n64 0 1 2 3 255 with pen := true }
    Issues s c l .addx f
      ∧ (c.act f = 0) :=
  ⟨issues_of (by decide +kernel), by decide +kernel⟩

theorem witness_scalar_bits :
    let s := poise id id
    let c := coachIn s
    let l := launchIn s
    let f := (n64 0 1 2 3 255)
    Issues s c l .shlx f
      ∧ (∀ a b, bitwise .shlx f a b = some (if 64 ≤ b.toNat then 0 else BitVec.ofNat 64 (a.toNat * 2 ^ b.toNat))) :=
  ⟨issues_of (by decide +kernel), fun _ _ => rfl⟩

theorem witness_bfix :
    let s := poise id id
    let c := coachIn s
    let l := launchIn s
    let f := (n96 0 1 2 255 0x1F20)
    Issues s c l .bfix f :=
  issues_of (by decide +kernel)

theorem witness_cmpx :
    let s := poise id id
    let c := coachIn s
    let l := launchIn s
    let f := (n64 13 1 2 3 255)
    Issues s c l .cmpx f :=
  issues_of (by decide +kernel)

theorem witness_selx :
    let s := poise id id
    let c := coachIn s
    let l := launchIn s
    let f := (n64 0 1 2 3 4)
    Issues s c l .selx f :=
  issues_of (by decide +kernel)

theorem witness_scalar_codes : view (.cmpx ⟨16, 1, 2⟩ W1.default) = some (.cmpx, .of64 ⟨16, 1, 2⟩ W1.default) ∧ largestK6 .cmpx = some 15
      ∧ 15 < (Fields.of64 ⟨16, 1, 2⟩ W1.default).k6.toNat :=
  ⟨rfl, rfl, by decide +kernel⟩

theorem witness_nop :
    let s := poise id id
    let c := coachIn s
    let l := launchIn s
    let f := (n32 0 0 0)
    Issues s c l .nop f :=
  issues_of (by decide +kernel)

theorem witness_movi :
    let s := poise id id
    let c := coachIn s
    let l := launchIn s
    let f := (n96 2 0 7 255 5)
    Issues s c l .movi f
      ∧ (f.k6.toNat % 4 = 2) :=
  ⟨issues_of (by decide +kernel), by decide +kernel⟩

theorem witness_movi_reserved : (Fields.of96 ⟨3, 0, 7⟩ W1.default 5).k6.toNat % 4 = 3 :=
  by decide +kernel

/-! ScalarTransfers, MaskResults -/

theorem witness_vtox :
    let s := poise id id
    let c := coachIn s
    let l := launchIn s
    let f := (n64 1 9 2 3 255)
    Issues s c l .vtox f
      ∧ (c.blockTrap .vtox f = none) :=
  ⟨issues_of (by decide +kernel), by decide +kernel⟩

theorem witness_vtox_block :
    let s := poise (fun c => { c with mxs := 0x101 }) id
    let c := coachIn s
    let l := launchIn s
    let f := (n64 1 64 2 3 255)
    Issues s c l .vtox f
      ∧ ((c.blockTrap .vtox f).isSome) :=
  ⟨issues_of (by decide +kernel), by decide +kernel⟩

theorem witness_xtov :
    let s := poise id id
    let c := coachIn s
    let l := launchIn s
    let f := (n32 0 1 9)
    Issues s c l .xtov f
      ∧ (c.blockTrap .xtov f = none) :=
  ⟨issues_of (by decide +kernel), by decide +kernel⟩

theorem witness_xtov_affine :
    let s := poise id id
    let c := coachIn s
    let l := launchIn s
    let f := (n64 0 1 251 2 255)
    Issues s c l .xtov f
      ∧ (c.blockTrap .xtov f = none) :=
  ⟨issues_of (by decide +kernel), by decide +kernel⟩

theorem witness_scalar_register : 63 < (coachIn (poise id id)).x.length ∧ (63 : Nat) ≠ 255 :=
  by decide +kernel

theorem witness_mtox :
    let s := poise id id
    let c := coachIn s
    let l := launchIn s
    let f := (n32 2 0 3)
    Issues s c l .mtox f :=
  issues_of (by decide +kernel)

theorem witness_xtom :
    let s := poise id id
    let c := coachIn s
    let l := launchIn s
    let f := (n32 3 1 7)
    Issues s c l .xtom f
      ∧ (c.live ≠ 0) :=
  ⟨issues_of (by decide +kernel), by decide +kernel⟩

theorem witness_anym :
    let s := poise id id
    let c := coachIn s
    let l := launchIn s
    let f := (n32 5 0 2)
    Issues s c l .anym f :=
  issues_of (by decide +kernel)

theorem witness_allm :
    let s := poise id id
    let c := coachIn s
    let l := launchIn s
    let f := (n32 1 7 2)
    Issues s c l .allm f :=
  issues_of (by decide +kernel)

theorem witness_mask_reserved : (⟨3, 0, 3⟩ : W0).k6 = 3 ∧ (⟨7, 0, 3⟩ : W0).k6.toNat / 2 % 4 = 3 :=
  by decide +kernel

/-! SpecialRegisters -/

theorem witness_srr_time :
    let s := poise id id
    let c := coachIn s
    let l := launchIn s
    let f := (n32 0 13 2)
    Issues s c l .srr f
      ∧ (c.live ≠ 0)
      ∧ (∃ r ∈ systemRegisters s l c, f.a.toNat = r.1) :=
  ⟨issues_of (by decide +kernel), by decide +kernel, by decide +kernel⟩

theorem witness_srr_beyond :
    let s := poise id id
    let c := coachIn s
    let l := launchIn s
    let f := (n32 0 14 2)
    Issues s c l .srr f
      ∧ (14 ≤ f.a.toNat) :=
  ⟨issues_of (by decide +kernel), by decide +kernel⟩

theorem witness_srw :
    let s := poise (fun c => c.setX 1 0x41) id
    let c := coachIn s
    let l := launchIn s
    let f := (n32 0 1 0)
    Issues s c l .srw f
      ∧ legalMode (c.xr f.a.toNat) :=
  ⟨issues_of (by decide +kernel), by unfold legalMode; decide +kernel⟩

theorem witness_srw_reserved :
    let s := poise id id
    let c := coachIn s
    let l := launchIn s
    let f := (n32 0 1 0)
    Issues s c l .srw f
      ∧ ¬ legalMode (c.xr f.a.toNat) :=
  ⟨issues_of (by decide +kernel), by unfold legalMode; decide +kernel⟩

theorem witness_srw_other :
    let s := poise id id
    let c := coachIn s
    let l := launchIn s
    let f := (n32 0 1 1)
    Issues s c l .srw f
      ∧ (f.d ≠ 0) :=
  ⟨issues_of (by decide +kernel), by decide +kernel⟩

theorem witness_ssr :
    let s := poise id id
    let c := coachIn s
    let l := launchIn s
    let f := (n32 0 2 2)
    Issues s c l .ssr f :=
  issues_of (by decide +kernel)

theorem witness_ssr_beyond :
    let s := poise id id
    let c := coachIn s
    let l := launchIn s
    let f := (n32 0 3 2)
    Issues s c l .ssr f
      ∧ (3 ≤ f.a.toNat) :=
  ⟨issues_of (by decide +kernel), by decide +kernel⟩

theorem witness_ssw :
    let s := poise (fun c => c.setX 1 0xFFFFF3FF) id
    let c := coachIn s
    let l := launchIn s
    let f := (n32 0 1 0)
    Issues s c l .ssw f
      ∧ ((c.xr f.a.toNat).toNat < 2 ^ 32 ∧ (c.xr f.a.toNat).toNat / 2 ^ 10 % 4 = 0 ∧ c.live ≠ 0) :=
  ⟨issues_of (by decide +kernel), by decide +kernel⟩

theorem witness_ssw_reserved :
    let s := poise (fun c => c.setX 1 0x400) id
    let c := coachIn s
    let l := launchIn s
    let f := (n32 0 1 0)
    Issues s c l .ssw f
      ∧ ((c.xr f.a.toNat).toNat / 2 ^ 10 % 4 ≠ 0) :=
  ⟨issues_of (by decide +kernel), by decide +kernel⟩

theorem witness_ssw_wdog :
    let s := poise id (fun s => { s with launches := [{ standInLaunch with sec := true }] })
    let c := coachIn s
    let l := launchIn s
    let f := (n32 0 1 2)
    Issues s c l .ssw f
      ∧ (l.sec = true ∧ (c.xr f.a.toNat).toNat < 2 ^ 32) :=
  ⟨issues_of (by decide +kernel), by decide +kernel⟩

theorem witness_ssw_wdog_nonsecure :
    let s := poise id id
    let c := coachIn s
    let l := launchIn s
    let f := (n32 0 1 2)
    Issues s c l .ssw f
      ∧ (l.sec = false) :=
  ⟨issues_of (by decide +kernel), by decide +kernel⟩

/-! UniformBranches, StructuredControl -/

theorem witness_bra :
    let s := poise id id
    let c := coachIn s
    let l := launchIn s
    let f := (n32 0 0 1)
    Issues s c l .bra f
      ∧ (inImage l c (c.pc + 4)) :=
  ⟨issues_of (by decide +kernel), by decide +kernel⟩

theorem witness_bra_outside :
    let s := poise id id
    let c := coachIn s
    let l := launchIn s
    let f := (n32 63 255 255)
    Issues s c l .bra f
      ∧ (¬ inImage l c (c.pc + BitVec.ofInt 64 (-4))) :=
  ⟨issues_of (by decide +kernel), by decide +kernel⟩

theorem witness_brc :
    let s := poise id id
    let c := coachIn s
    let l := launchIn s
    let f := (n96 3 1 0 255 16)
    Issues s c l .brc f
      ∧ brcHolds (f.k6.toNat % 4) (c.xr f.a.toNat)
      ∧ (inImage l c (byteOffset c f.lit)) :=
  ⟨issues_of (by decide +kernel), by unfold brcHolds; decide +kernel, by decide +kernel⟩

theorem witness_brc_not :
    let s := poise id id
    let c := coachIn s
    let l := launchIn s
    let f := (n96 2 1 0 255 16)
    Issues s c l .brc f
      ∧ ¬ brcHolds (f.k6.toNat % 4) (c.xr f.a.toNat) :=
  ⟨issues_of (by decide +kernel), by unfold brcHolds; decide +kernel⟩

theorem witness_call :
    let s := poise id id
    let c := coachIn s
    let l := launchIn s
    let f := (n96 0 0 5 255 64)
    Issues s c l .call f
      ∧ (inImage l c (byteOffset c f.lit)) :=
  ⟨issues_of (by decide +kernel), by decide +kernel⟩

/-- The last word of the image. -/
theorem witness_ret :
    let s := poise (fun c => c.setX 1 0x400100FC) id
    let c := coachIn s
    let l := launchIn s
    let f := (n32 0 1 0)
    Issues s c l .ret f
      ∧ (inImage l c (c.xr 1)) :=
  ⟨issues_of (by decide +kernel), by decide +kernel⟩

theorem witness_ret_outside :
    let s := poise (fun c => c.setX 1 0x40010100) id
    let c := coachIn s
    let l := launchIn s
    let f := (n32 0 1 0)
    Issues s c l .ret f
      ∧ (¬ inImage l c (c.xr 1)) :=
  ⟨issues_of (by decide +kernel), by decide +kernel⟩

theorem witness_jmpx :
    let s := poise (fun c => c.setX 1 0x40000100) id
    let c := coachIn s
    let l := launchIn s
    let f := (n32 0 1 0)
    Issues s c l .jmpx f
      ∧ (inImage l c (c.xr 1)) :=
  ⟨issues_of (by decide +kernel), by decide +kernel⟩

theorem witness_if_taken :
    let s := poise (fun c => { c with m := [0, 0xFFFFFFFFFFFFFFFF, 0, 0, 0, 0, 0, 0] }) id
    let c := coachIn s
    let l := launchIn s
    let f := (n96 0 1 0 255 0x00040004)
    Issues s c l .ifM f
      ∧ (inImage l c (following c f) ∧ inImage l c (wordOffset c (f.lit.extractLsb' 0 16))
        ∧ inImage l c (wordOffset c (f.lit.extractLsb' 16 16)))
      ∧ ((c.cm &&& ~~~c.ex) &&& ~~~condition c f = 0) :=
  ⟨issues_of (by decide +kernel), by decide +kernel, by decide +kernel⟩

theorem witness_if_not_taken :
    let s := poise id id
    let c := coachIn s
    let l := launchIn s
    let f := (n96 0 1 0 255 0x00040004)
    Issues s c l .ifM f
      ∧ (inImage l c (following c f) ∧ inImage l c (wordOffset c (f.lit.extractLsb' 0 16))
        ∧ inImage l c (wordOffset c (f.lit.extractLsb' 16 16)))
      ∧ ((c.cm &&& ~~~c.ex) &&& condition c f = 0) :=
  ⟨issues_of (by decide +kernel), by decide +kernel, by decide +kernel⟩

theorem witness_if_splits :
    let s := poise (fun c => { c with m := [0, 1, 0, 0, 0, 0, 0, 0] }) id
    let c := coachIn s
    let l := launchIn s
    let f := (n96 0 1 0 255 0x00040004)
    Issues s c l .ifM f
      ∧ (inImage l c (following c f) ∧ inImage l c (wordOffset c (f.lit.extractLsb' 0 16))
        ∧ inImage l c (wordOffset c (f.lit.extractLsb' 16 16)))
      ∧ ((c.cm &&& ~~~c.ex) &&& condition c f ≠ 0 ∧ (c.cm &&& ~~~c.ex) &&& ~~~condition c f ≠ 0)
      ∧ (good (s.push l (awake c) { kind := 0, pc := wordOffset c (f.lit.extractLsb' 16 16), mask := c.cm, rpc := c.rpc, ph := false, slot := 0 }) = true) :=
  ⟨issues_of (by decide +kernel), by decide +kernel, by decide +kernel, by decide +kernel⟩

theorem witness_if_overflows :
    let s := poise (fun c => { c with m := [0, 1, 0, 0, 0, 0, 0, 0], depth := 16 + standInLaunch.spillCap }) id
    let c := coachIn s
    let l := launchIn s
    let f := (n96 0 1 0 255 0x00040004)
    Issues s c l .ifM f
      ∧ (inImage l c (following c f) ∧ inImage l c (wordOffset c (f.lit.extractLsb' 0 16))
        ∧ inImage l c (wordOffset c (f.lit.extractLsb' 16 16)))
      ∧ ((c.cm &&& ~~~c.ex) &&& condition c f ≠ 0)
      ∧ (good (s.push l (awake c) { kind := 0, pc := wordOffset c (f.lit.extractLsb' 16 16), mask := c.cm, rpc := c.rpc, ph := false, slot := 0 }) = false) :=
  ⟨issues_of (by decide +kernel), by decide +kernel, by decide +kernel, by decide +kernel⟩

theorem witness_if_outside :
    let s := poise id id
    let c := coachIn s
    let l := launchIn s
    let f := (n96 0 1 0 255 0x0004FFFF)
    Issues s c l .ifM f
      ∧ (inImage l c (following c f) ∧ ¬ inImage l c (wordOffset c (f.lit.extractLsb' 0 16))) :=
  ⟨issues_of (by decide +kernel), by decide +kernel⟩

theorem witness_brdiv :
    let s := poise (fun c => { c with m := [0, 1, 0, 0, 0, 0, 0, 0] }) id
    let c := coachIn s
    let l := launchIn s
    let f := (n96 0 1 0 255 0x00040004)
    Issues s c l .brdiv f
      ∧ ((c.cm &&& ~~~c.ex) &&& condition c f ≠ 0 ∧ (c.cm &&& ~~~c.ex) &&& ~~~condition c f ≠ 0) :=
  ⟨issues_of (by decide +kernel), by decide +kernel⟩

theorem witness_else :
    let s := poise (fun c => { c with rpc := c.pc + 16 }) id
    let c := coachIn s
    let l := launchIn s
    let f := (n32 0 0 0)
    Issues s c l .elseM f
      ∧ (c.rpc ≠ BitVec.allOnes 64) :=
  ⟨issues_of (by decide +kernel), by decide +kernel⟩

theorem witness_else_top :
    let s := poise id id
    let c := coachIn s
    let l := launchIn s
    let f := (n32 0 0 0)
    Issues s c l .elseM f
      ∧ (c.rpc = BitVec.allOnes 64) :=
  ⟨issues_of (by decide +kernel), by decide +kernel⟩

theorem witness_endif :
    let s := poise id id
    let c := coachIn s
    let l := launchIn s
    let f := (n32 0 0 0)
    Issues s c l .endif f :=
  issues_of (by decide +kernel)

theorem witness_reconv :
    let s := poise id id
    let c := coachIn s
    let l := launchIn s
    let f := (n32 0 1 0)
    Issues s c l .reconv f :=
  issues_of (by decide +kernel)

theorem witness_break :
    let s := poise (fun c => { c with rpc := c.pc + 36 }) id
    let c := coachIn s
    let l := launchIn s
    let f := (n96 0 1 0 255 9)
    Issues s c l .breakM f
      ∧ (c.rpc = wordOffset c (f.lit.extractLsb' 0 16)) :=
  ⟨issues_of (by decide +kernel), by decide +kernel⟩

theorem witness_break_elsewhere :
    let s := poise id id
    let c := coachIn s
    let l := launchIn s
    let f := (n96 0 1 0 255 9)
    Issues s c l .breakM f
      ∧ (c.rpc ≠ wordOffset c (f.lit.extractLsb' 0 16)) :=
  ⟨issues_of (by decide +kernel), by decide +kernel⟩

theorem witness_loop :
    let s := poise id id
    let c := coachIn s
    let l := launchIn s
    let f := (n96 0 0 0 255 14)
    Issues s c l .loop f
      ∧ (inImage l c (wordOffset c (f.lit.extractLsb' 0 16)) ∧ inImage l c (following c f))
      ∧ (good (s.push l (awake c) { kind := 0, pc := wordOffset c (f.lit.extractLsb' 0 16), mask := c.cm, rpc := c.rpc, ph := false, slot := 0 }) = true) :=
  ⟨issues_of (by decide +kernel), by decide +kernel, by decide +kernel⟩

theorem witness_endloop_ends :
    let s := poise id id
    let c := coachIn s
    let l := launchIn s
    let f := (n96 0 1 0 255 0)
    Issues s c l .endloop f
      ∧ (inImage l c (wordOffset c (f.lit.extractLsb' 0 16)) ∧ inImage l c (following c f))
      ∧ ((c.cm &&& ~~~c.ex) &&& condition c f = 0) :=
  ⟨issues_of (by decide +kernel), by decide +kernel, by decide +kernel⟩

theorem witness_endloop_goes_back :
    let s := poise id id
    let c := coachIn s
    let l := launchIn s
    let f := (n96 1 1 0 255 0)
    Issues s c l .endloop f
      ∧ (inImage l c (wordOffset c (f.lit.extractLsb' 0 16)))
      ∧ ((c.cm &&& ~~~c.ex) &&& condition c f ≠ 0) :=
  ⟨issues_of (by decide +kernel), by decide +kernel, by decide +kernel⟩

theorem witness_cont :
    let s := poise (fun c => { c with rpc := c.pc + 28, m := [0, 1, 0, 0, 0, 0, 0, 0] }) id
    let c := coachIn s
    let l := launchIn s
    let f := (n96 0 1 0 255 4)
    Issues s c l .cont f
      ∧ (c.rpc = wordOffset c (f.lit.extractLsb' 0 16) + 12)
      ∧ ((c.cm &&& ~~~c.ex) &&& condition c f ≠ 0 ∧ (c.cm &&& ~~~c.ex) &&& ~~~condition c f ≠ 0) :=
  ⟨issues_of (by decide +kernel), by decide +kernel, by decide +kernel⟩

theorem witness_cont_elsewhere :
    let s := poise id id
    let c := coachIn s
    let l := launchIn s
    let f := (n96 0 1 0 255 4)
    Issues s c l .cont f
      ∧ (c.rpc ≠ wordOffset c (f.lit.extractLsb' 0 16) + 12) :=
  ⟨issues_of (by decide +kernel), by decide +kernel⟩

/-! StackPush, PopRule, CoachLife -/

/-- An entry that resumes elsewhere with every lane. -/
def elsewhere : Entry :=
  { kind := 0, pc := 0x40000200, mask := 0xFFFFFFFFFFFFFFFF, rpc := 0xFFFFFFFFFFFFFFFF, ph := false, slot := 0 }

theorem witness_push_spills :
    let s := poise (fun c => { c with stack := List.replicate 16 elsewhere, depth := 16 }) id
    let c := coachIn s
    let l := launchIn s
    16 ≤ c.depth ∧ c.depth ≠ 16 + l.spillCap ∧ c.stack = List.replicate 15 elsewhere ++ [elsewhere] ∧ elsewhere.kind < 4
      ∧ elsewhere.slot < 4 ∧ good (s.ctxWrite (l.party (some c.core)) (l.spill + 32 * l.spillCap * l.lc c.id + 0)
          (natLe 32 (entryNumber elsewhere))) = true := by decide +kernel
theorem witness_push_bounds : (16 + standInLaunch.spillCap = 24) ∧ (15 < 16) := by decide +kernel
/-- A ready coach at its reconvergence point. -/
def popping (e : Entry) : State :=
  poise (fun c => { c with rpc := c.pc, stack := [e], depth := 1 }) id
theorem witness_pop :
    let s := popping elsewhere
    let c := coachIn s
    s.coach? c.id = some c ∧ s.launch? c.id.q = some (launchIn s) ∧ s.ready c = true ∧ mustReconverge c
      ∧ c.stack = [elsewhere] ∧ ¬ mustReconverge (popped c elsewhere) ∧ c.retired = false := by
  unfold mustReconverge; decide +kernel
theorem witness_pop_holds :
    let s := popping { elsewhere with kind := 2 }
    let c := coachIn s
    s.ready c = true ∧ mustReconverge c ∧ s.phaseDone c { elsewhere with kind := 2 } = false := by
  unfold mustReconverge; decide +kernel
/-- A second coach of the crew. -/
def withSecond (s : State) : State :=
  { s with coaches := s.coaches ++ [standInLaunch.newCoach { standInId with coach := 1 } standInCore 0] }
theorem witness_pop_retires :
    let s := poise (fun c => { c with rpc := c.pc }) withSecond
    let c := coachIn s
    s.ready c = true ∧ mustReconverge c ∧ c.stack = []
      ∧ ∃ d ∈ s.coachesOf c.id.q c.id.gang, d.id ≠ c.id ∧ d.retired = false := by
  unfold mustReconverge; decide +kernel

theorem witness_exit :
    let s := poise id id
    let c := coachIn s
    let l := launchIn s
    let f := (n32 0 0 0)
    Issues s c l .exit f
      ∧ (c.act f ≠ 0) :=
  ⟨issues_of (by decide +kernel), by decide +kernel⟩

theorem witness_exit_skipped :
    let s := poise id id
    let c := coachIn s
    let l := launchIn s
    let f := { n64 0 0 0 255 255 with pen := true }
    Issues s c l .exit f
      ∧ (c.act f = 0) :=
  ⟨issues_of (by decide +kernel), by decide +kernel⟩

theorem witness_yield :
    let s := poise id id
    let c := coachIn s
    let l := launchIn s
    let f := (n32 0 0 0)
    Issues s c l .yield f :=
  issues_of (by decide +kernel)

theorem witness_sleep_none :
    let s := poise id id
    let c := coachIn s
    let l := launchIn s
    let f := (n32 0 1 0)
    Issues s c l .sleep f
      ∧ (min (((c.xr f.a.toNat).toNat + (c.xr f.b.toNat).toNat) % 2 ^ 64) (2 ^ 24) = 0) :=
  ⟨issues_of (by decide +kernel), by decide +kernel⟩

theorem witness_sleep :
    let s := poise id id
    let c := coachIn s
    let l := launchIn s
    let f := (n96 0 1 0 255 7)
    Issues s c l .sleep f
      ∧ (min (((c.xr f.a.toNat).toNat + f.lit.toNat) % 2 ^ 64) (2 ^ 24) ≠ 0) :=
  ⟨issues_of (by decide +kernel), by decide +kernel⟩

/-- Can a vector instruction's sources be read, and does `p` hold of them? -/
def readableAnd (s : State) (o : Op) (f : Fields) (p : Sources → Coach → Bool) : Bool :=
  (firstTrap ((s.beginIssue (coachIn s) o).vectorChecks (launchIn s) (awake (coachIn s)) o f)).isNone
    && (match (s.beginIssue (coachIn s) o).sources (launchIn s) (awake (coachIn s)) o f with
      | .ok (src, _, c1) => p src c1
      | .error _ => false)

def Meets (p : Sources → Coach → Bool) (src : Sources) (c1 : Coach) : Prop := p src c1 = true

theorem readsAnd_of {s : State} {o : Op} {f : Fields} {p : Sources → Coach → Bool} (h : readableAnd s o f p = true) :
    ∃ src s1 c1, Reads s (coachIn s) (launchIn s) o f src s1 c1 ∧ Meets p src c1 := by
  simp only [readableAnd, Bool.and_eq_true, Option.isNone_iff_eq_none] at h
  split at h
  · rename_i src s1 c1 hs
    exact ⟨src, s1, c1, ⟨h.1, hs⟩, h.2⟩
  · exact absurd h.2 nofun

/-! VectorInteger, VectorMovesAndCompares, VectorFloat -/

theorem witness_vadd :
    let s := poise id id
    let c := coachIn s
    let l := launchIn s
    let f := (n64 6 8 7 9 255)
    Issues s c l .vadd f
      ∧ (isSweep .vadd f = false)
      ∧ (∃ src s1 c1, Reads s c l .vadd f src s1 c1) :=
  ⟨issues_of (by decide +kernel), by decide +kernel, reads_of (by decide +kernel)⟩

theorem witness_vadd_block :
    let s := poise (fun c => { c with mxs := 0x101 }) id
    let c := coachIn s
    let l := launchIn s
    let f := (n64 0 64 7 9 255)
    Issues s c l .vadd f
      ∧ ((firstTrap ((s.beginIssue c .vadd).vectorChecks l (awake c) .vadd f)).isSome) :=
  ⟨issues_of (by decide +kernel), by decide +kernel⟩

theorem witness_vdot4 :
    let s := poise id id
    let c := coachIn s
    let l := launchIn s
    let f := (n64 6 8 7 9 10)
    Issues s c l .vdot4 f
      ∧ (isSweep .vdot4 f = false)
      ∧ (∃ src s1 c1, Reads s c l .vdot4 f src s1 c1) :=
  ⟨issues_of (by decide +kernel), by decide +kernel, reads_of (by decide +kernel)⟩

theorem witness_vbfi :
    let s := poise id id
    let c := coachIn s
    let l := launchIn s
    let f := (n64 0 8 7 9 255)
    Issues s c l .vbfi f
      ∧ (∃ src s1 c1, Reads s c l .vbfi f src s1 c1) :=
  ⟨issues_of (by decide +kernel), reads_of (by decide +kernel)⟩

theorem witness_vsel :
    let s := poise id id
    let c := coachIn s
    let l := launchIn s
    let f := (n64 0 8 7 9 3)
    Issues s c l .vsel f
      ∧ (∃ src s1 c1, Reads s c l .vsel f src s1 c1) :=
  ⟨issues_of (by decide +kernel), reads_of (by decide +kernel)⟩

theorem witness_vmov :
    let s := poise id id
    let c := coachIn s
    let l := launchIn s
    let f := (n32 0 8 7)
    Issues s c l .vmov f
      ∧ (∃ src s1 c1, Reads s c l .vmov f src s1 c1) :=
  ⟨issues_of (by decide +kernel), reads_of (by decide +kernel)⟩

theorem witness_vlane :
    let s := poise id id
    let c := coachIn s
    let l := launchIn s
    let f := (n32 0 0 7)
    Issues s c l .vlane f
      ∧ (∃ src s1 c1, Reads s c l .vlane f src s1 c1) :=
  ⟨issues_of (by decide +kernel), reads_of (by decide +kernel)⟩

theorem witness_vcmp :
    let s := poise id id
    let c := coachIn s
    let l := launchIn s
    let f := (n64 16 8 3 9 255)
    Issues s c l .vcmp f
      ∧ (∃ src s1 c1, Reads s c l .vcmp f src s1 c1) :=
  ⟨issues_of (by decide +kernel), reads_of (by decide +kernel)⟩

theorem witness_fcmp :
    let s := poise id id
    let c := coachIn s
    let l := launchIn s
    let f := (n64 4 8 3 9 255)
    Issues s c l .fcmp f
      ∧ (∃ src s1 c1, Reads s c l .fcmp f src s1 c1) :=
  ⟨issues_of (by decide +kernel), reads_of (by decide +kernel)⟩

theorem witness_fadd :
    let s := poise id id
    let c := coachIn s
    let l := launchIn s
    let f := (n64 0 8 7 9 255)
    Issues s c l .fadd f
      ∧ (isSweep .fadd f = false)
      ∧ (∃ src s1 c1, Reads s c l .fadd f src s1 c1) :=
  ⟨issues_of (by decide +kernel), by decide +kernel, reads_of (by decide +kernel)⟩

theorem witness_fexp2 :
    let s := poise id id
    let c := coachIn s
    let l := launchIn s
    let f := (n32 0 8 7)
    Issues s c l .fexp2 f
      ∧ (∃ src s1 c1, Reads s c l .fexp2 f src s1 c1) :=
  ⟨issues_of (by decide +kernel), reads_of (by decide +kernel)⟩

theorem witness_fclass :
    let s := poise id id
    let c := coachIn s
    let l := launchIn s
    let f := (n32 0 8 7)
    Issues s c l .fclass f
      ∧ (∃ src s1 c1, Reads s c l .fclass f src s1 c1) :=
  ⟨issues_of (by decide +kernel), reads_of (by decide +kernel)⟩

theorem witness_fdot2 :
    let s := poise id id
    let c := coachIn s
    let l := launchIn s
    let f := (n64 1 8 7 9 10)
    Issues s c l .fdot2 f
      ∧ (∃ src s1 c1, Reads s c l .fdot2 f src s1 c1) :=
  ⟨issues_of (by decide +kernel), reads_of (by decide +kernel)⟩

/-! FloatDeliversExact, VectorRegisterFile, SweepForms -/

theorem witness_float_exact : 1 < 2 ^ FloatFormat.b16.width ∧ FloatFormat.b16.decode 1 = .fin false 1 (-24) :=
  by decide +kernel

theorem witness_vector_write : (coachIn (poise id id)).width ≤ 64 ∧ 251 < (coachIn (poise id id)).v.length
    ∧ ((poise id id).core standInCore).latch.length = 3 ∧ (coachIn (poise id id)).lor.length = 3 :=
  by decide +kernel

/-- The core's first latch entry belongs to coach `i` of the crew. -/
def latched (i : BitVec 4) (s : State) : State :=
  s.setCore { s.core standInCore with
    latch := [some { value := .u 1, owner := { standInId with coach := i.toNat }, uses := 2 }, none, none] }
theorem witness_latch_own :
    let s := poise id (latched 0)
    ∃ x, (s.core (coachIn s).core).latch.getD (252 - 252) none = some x ∧ x.owner = (coachIn s).id :=
  ⟨{ value := .u 1, owner := standInId, uses := 2 }, by decide +kernel⟩
theorem witness_latch_origin :
    let s := poise (fun c => { c with lor := [some 5, none, none] }) (latched 1)
    (∃ x, (s.core (coachIn s).core).latch.getD (252 - 252) none = some x ∧ x.owner ≠ (coachIn s).id)
      ∧ (coachIn s).lor.getD (252 - 252) none = some 5 :=
  ⟨⟨{ value := .u 1, owner := { standInId with coach := 1 }, uses := 2 }, by decide +kernel⟩, by decide +kernel⟩
theorem witness_latch_lost :
    let s := poise id (latched 1)
    (coachIn s).lor.getD (252 - 252) none = none ∧ (coachIn s).lor.getD (254 - 252) none = none := by decide +kernel

theorem witness_sweep :
    let s := poise id id
    let c := coachIn s
    let l := launchIn s
    let f := { n96 0 1 2 255 1 with b := 3, x31 := true }
    Issues s c l .vadd f
      ∧ (isSweep .vadd f = true)
      ∧ ((s.crewOf c).isSome)
      ∧ (good (uniformValue ((s.beginIssue c .vadd).readV (awake c) f.c.toNat).value (c.act f)) = true)
      ∧ (c.blockTrap .vadd f = none)
      ∧ sweepInside .vadd f c standInLaunch.scratch
      ∧ (s.poison = []) :=
  ⟨issues_of (by decide +kernel), by decide +kernel, by decide +kernel, by decide +kernel, by decide +kernel, by
    intro k j hk hj ha a hm
    have h0 : k = 0 := by
      have : sweepIter (Fields.lit { n96 0 1 2 255 1 with b := 3, x31 := true }) = 1 := rfl
      omega
    subst h0
    have hw : j < 64 := hj
    have hs : standInLaunch.scratch = 4096 := by decide +kernel
    have hl : a = 0 := by
      have : ∀ a ∈ sweepOffsets .vadd { n96 0 1 2 255 1 with b := 3, x31 := true } (coachIn (poise id id)) 0, a = 0 := by
        decide +kernel
      exact this a hm
    subst hl
    exact ⟨⟨0, rfl⟩, by omega, by rw [hs]; omega⟩, by decide +kernel⟩

/-! ConvertAndPack, Quantisation -/

theorem witness_cvt :
    let s := poise id id
    let c := coachIn s
    let l := launchIn s
    let f := (n32 3 8 7)
    Issues s c l .cvt f
      ∧ (∃ src s1 c1, Reads s c l .cvt f src s1 c1) :=
  ⟨issues_of (by decide +kernel), reads_of (by decide +kernel)⟩

theorem witness_unpk :
    let s := poise id id
    let c := coachIn s
    let l := launchIn s
    let f := (n32 26 8 7)
    Issues s c l .unpk f
      ∧ (∃ src s1 c1, Reads s c l .unpk f src s1 c1) :=
  ⟨issues_of (by decide +kernel), reads_of (by decide +kernel)⟩

theorem witness_qtag :
    let s := poise id id
    let c := coachIn s
    let l := launchIn s
    let f := (n64 1 8 7 9 255)
    Issues s c l .qtag f
      ∧ (∃ src s1 c1, Reads s c l .qtag f src s1 c1) :=
  ⟨issues_of (by decide +kernel), reads_of (by decide +kernel)⟩

theorem witness_pack :
    let s := poise id id
    let c := coachIn s
    let l := launchIn s
    let f := (n64 10 8 7 9 255)
    Issues s c l .pack f
      ∧ (∃ src s1 c1, Reads s c l .pack f src s1 c1) :=
  ⟨issues_of (by decide +kernel), reads_of (by decide +kernel)⟩

theorem witness_qamax :
    let s := poise id id
    let c := coachIn s
    let l := launchIn s
    let f := (n32 4 10 20)
    Issues s c l .qamax f
      ∧ (∃ src s1 c1, Reads s c l .qamax f src s1 c1 ∧ Meets (fun src c => (List.range c.width).all (fun j => !(FloatFormat.b32.decode ((src.c.elem j).toNat % 2 ^ 31)).isNan)) src c1)
      ∧ legalWidth c :=
  ⟨issues_of (by decide +kernel), readsAnd_of (by decide +kernel), by unfold legalWidth; decide +kernel⟩

theorem witness_qexp :
    let s := poise id id
    let c := coachIn s
    let l := launchIn s
    let f := (n32 0 20 21)
    Issues s c l .qexp f
      ∧ (f.k6.toNat / 8 ≠ 5)
      ∧ (∃ src s1 c1, Reads s c l .qexp f src s1 c1) :=
  ⟨issues_of (by decide +kernel), by decide +kernel, reads_of (by decide +kernel)⟩

theorem witness_qexp_book :
    let s := poise id (fun s => { s with crews := s.crews.map (fun k => { k with cb := List.replicate 8 { loaded := true, entries := List.replicate 16 0x3F80 } }) })
    let c := coachIn s
    let l := launchIn s
    let f := (n32 42 20 21)
    Issues s c l .qexp f
      ∧ (f.k6.toNat / 8 = 5)
      ∧ ((bookOf s c (f.k6.toNat % 8)).loaded = true)
      ∧ (∃ src s1 c1, Reads s c l .qexp f src s1 c1) :=
  ⟨issues_of (by decide +kernel), by decide +kernel, by decide +kernel, reads_of (by decide +kernel)⟩

theorem witness_qcvt :
    let s := poise id id
    let c := coachIn s
    let l := launchIn s
    let f := (n64 3 10 22 21 255)
    Issues s c l .qcvt f
      ∧ (∃ src s1 c1, Reads s c l .qcvt f src s1 c1 ∧ Meets (fun src c1 => (poise id id).cb4Trap c1 (n64 3 10 22 21 255) src.b = none) src c1)
      ∧ (f.k6.getLsbD 4 = false ∧ f.k6.toNat % 8 < 4) :=
  ⟨issues_of (by decide +kernel), readsAnd_of (by decide +kernel), by decide +kernel⟩

theorem witness_qcvt_nibble :
    let s := poise id id
    let c := coachIn s
    let l := launchIn s
    let f := (n64 23 10 22 21 255)
    Issues s c l .qcvt f
      ∧ (∃ src s1 c1, Reads s c l .qcvt f src s1 c1 ∧ Meets (fun src c1 => (poise id id).cb4Trap c1 (n64 23 10 22 21 255) src.b = none) src c1)
      ∧ (f.k6.getLsbD 4 = true) :=
  ⟨issues_of (by decide +kernel), readsAnd_of (by decide +kernel), by decide +kernel⟩

theorem witness_dqcvt :
    let s := poise id id
    let c := coachIn s
    let l := launchIn s
    let f := (n64 3 10 22 21 255)
    Issues s c l .dqcvt f
      ∧ (∃ src s1 c1, Reads s c l .dqcvt f src s1 c1 ∧ Meets (fun src c1 => (poise id id).cb4Trap c1 (n64 3 10 22 21 255) src.b = none) src c1) :=
  ⟨issues_of (by decide +kernel), readsAnd_of (by decide +kernel)⟩

theorem witness_cblut :
    let s := poise id (fun s => { s with crews := s.crews.map (fun k => { k with cb := List.replicate 8 { loaded := true, entries := List.replicate 16 0x3F80 } }) })
    let c := coachIn s
    let l := launchIn s
    let f := (n64 7 10 22 7 255)
    Issues s c l .cblut f
      ∧ ((bookOf s c f.b.toNat).loaded = true)
      ∧ (∃ src s1 c1, Reads s c l .cblut f src s1 c1) :=
  ⟨issues_of (by decide +kernel), by decide +kernel, reads_of (by decide +kernel)⟩

theorem witness_cbenc :
    let s := poise id (fun s => { s with crews := s.crews.map (fun k => { k with cb := List.replicate 8 { loaded := true, entries := List.replicate 16 0x3F80 } }) })
    let c := coachIn s
    let l := launchIn s
    let f := (n64 7 10 22 7 255)
    Issues s c l .cbenc f
      ∧ ((bookOf s c f.b.toNat).loaded = true)
      ∧ (∃ src s1 c1, Reads s c l .cbenc f src s1 c1) :=
  ⟨issues_of (by decide +kernel), by decide +kernel, reads_of (by decide +kernel)⟩

/-! SlotsAndChains -/

theorem witness_cbld :
    let s := poise (fun c => c.setP 6 (ptrMake 0x40010000 0 0x1000)) id
    let c := coachIn s
    let l := launchIn s
    let f := (n64 0 6 2 1 255)
    Issues s c l .cbld f
      ∧ (c.act f ≠ 0)
      ∧ formatAmong l c f.a.toNat [0, 9]
      ∧ (good (readSlot (s.beginIssue c .cbld) l (awake c) f 32 2 (c.xr f.b.toNat).toNat) = true) :=
  ⟨issues_of (by decide +kernel), by decide +kernel, fun _ => by decide +kernel, by decide +kernel⟩

theorem witness_chld :
    let s := poise (fun c => c.setP 6 farPtr) id
    let c := coachIn s
    let l := launchIn s
    let f := (n64 15 6 2 1 255)
    Issues s c l .chld f
      ∧ (c.act f ≠ 0)
      ∧ formatAmong l c f.a.toNat [0, 5, 6]
      ∧ ((match readSlot (s.beginIssue c .chld) l (awake c) f (4 * (f.k6.toNat % 16 + 1)) 4 (c.xr f.b.toNat).toInt with
        | .ok (bs, _) => (uopWords bs).all uopOk
        | .error _ => false) = true) :=
  ⟨issues_of (by decide +kernel), by decide +kernel, fun _ => by decide +kernel, by decide +kernel⟩

theorem witness_chld_bad :
    let s := poise (fun c => c.setP 6 farPtr) (fun s => { s with mem := Memory.writeBytes s.mem 0x40010000 [0, 0, 0, 0x80] })
    let c := coachIn s
    let l := launchIn s
    let f := (n64 15 6 2 1 255)
    Issues s c l .chld f
      ∧ (c.act f ≠ 0)
      ∧ ((match readSlot (s.beginIssue c .chld) l (awake c) f (4 * (f.k6.toNat % 16 + 1)) 4 (c.xr f.b.toNat).toInt with
        | .ok (bs, _) => ((uopWords bs).findIdx? (fun u => !uopOk u)).isSome
        | .error _ => false) = true) :=
  ⟨issues_of (by decide +kernel), by decide +kernel, by decide +kernel⟩

theorem witness_slot_skipped :
    let s := poise id id
    let c := coachIn s
    let l := launchIn s
    let f := { n64 0 6 2 1 255 with pen := true }
    Issues s c l .cbld f
      ∧ (c.act f = 0) :=
  ⟨issues_of (by decide +kernel), by decide +kernel⟩

theorem witness_charg :
    let s := poise id id
    let c := coachIn s
    let l := launchIn s
    let f := (n96 0 255 5 255 0x00FFFFFF)
    Issues s c l .charg f :=
  issues_of (by decide +kernel)

theorem witness_chrun :
    let s := poise id (fun s => { s with crews := s.crews.map (fun k => { k with ch := List.replicate 16 { loaded := true, ops := [0] } }) })
    let c := coachIn s
    let l := launchIn s
    let f := (n64 2 10 30 11 255)
    Issues s c l .chrun f
      ∧ (∃ src s1 c1, Reads s c l .chrun f src s1 c1)
      ∧ (c.prefixTrap c.charg (c.act f) = none)
      ∧ ((chainOf (s.beginIssue c .chrun) c (f.k6.toNat % 16)).loaded = true) :=
  ⟨issues_of (by decide +kernel), reads_of (by decide +kernel), by decide +kernel, by decide +kernel⟩

/-! Shuffles, VotesAndMatches, ReduceScanCompress -/

theorem witness_shfl :
    let s := poise id id
    let c := coachIn s
    let l := launchIn s
    let f := (n64 0 4 5 6 255)
    Issues s c l .shfl f
      ∧ legalWidth c
      ∧ (∃ src s1 c1, Reads s c l .shfl f src s1 c1) :=
  ⟨issues_of (by decide +kernel), by unfold legalWidth; decide +kernel, reads_of (by decide +kernel)⟩

theorem witness_shflup :
    let s := poise id id
    let c := coachIn s
    let l := launchIn s
    let f := (n96 0 4 5 255 64)
    Issues s c l .shflup f
      ∧ legalWidth c
      ∧ (∃ src s1 c1, Reads s c l .shflup f src s1 c1) :=
  ⟨issues_of (by decide +kernel), by unfold legalWidth; decide +kernel, reads_of (by decide +kernel)⟩

theorem witness_shfldn :
    let s := poise id id
    let c := coachIn s
    let l := launchIn s
    let f := (n96 0 4 5 255 63)
    Issues s c l .shfldn f
      ∧ legalWidth c
      ∧ (∃ src s1 c1, Reads s c l .shfldn f src s1 c1) :=
  ⟨issues_of (by decide +kernel), by unfold legalWidth; decide +kernel, reads_of (by decide +kernel)⟩

theorem witness_shflx :
    let s := poise id id
    let c := coachIn s
    let l := launchIn s
    let f := (n96 0 4 5 255 1)
    Issues s c l .shflx f
      ∧ legalWidth c
      ∧ (∃ src s1 c1, Reads s c l .shflx f src s1 c1) :=
  ⟨issues_of (by decide +kernel), by unfold legalWidth; decide +kernel, reads_of (by decide +kernel)⟩

theorem witness_ballot :
    let s := poise id id
    let c := coachIn s
    let l := launchIn s
    let f := (n32 0 8 3)
    Issues s c l .vote f
      ∧ (∃ src s1 c1, Reads s c l .vote f src s1 c1)
      ∧ (c.width ≤ 64) :=
  ⟨issues_of (by decide +kernel), reads_of (by decide +kernel), by decide +kernel⟩

theorem witness_vote :
    let s := poise id id
    let c := coachIn s
    let l := launchIn s
    let f := (n32 3 8 7)
    Issues s c l .vote f
      ∧ legalWidth c
      ∧ (∃ src s1 c1, Reads s c l .vote f src s1 c1) :=
  ⟨issues_of (by decide +kernel), by unfold legalWidth; decide +kernel, reads_of (by decide +kernel)⟩

theorem witness_elect :
    let s := poise id id
    let c := coachIn s
    let l := launchIn s
    let f := (n32 0 0 3)
    Issues s c l .elect f
      ∧ legalWidth c :=
  ⟨issues_of (by decide +kernel), by unfold legalWidth; decide +kernel⟩

theorem witness_match :
    let s := poise id id
    let c := coachIn s
    let l := launchIn s
    let f := (n32 1 8 7)
    Issues s c l .matchL f
      ∧ legalWidth c
      ∧ (∃ src s1 c1, Reads s c l .matchL f src s1 c1) :=
  ⟨issues_of (by decide +kernel), by unfold legalWidth; decide +kernel, reads_of (by decide +kernel)⟩

theorem witness_reduce :
    let s := poise id id
    let c := coachIn s
    let l := launchIn s
    let f := (n32 0 8 7)
    Issues s c l .reduce f
      ∧ legalWidth c
      ∧ (∃ src s1 c1, Reads s c l .reduce f src s1 c1) :=
  ⟨issues_of (by decide +kernel), by unfold legalWidth; decide +kernel, reads_of (by decide +kernel)⟩

theorem witness_scan :
    let s := poise id id
    let c := coachIn s
    let l := launchIn s
    let f := (n32 4 8 7)
    Issues s c l .scan f
      ∧ legalWidth c
      ∧ (∃ src s1 c1, Reads s c l .scan f src s1 c1) :=
  ⟨issues_of (by decide +kernel), by unfold legalWidth; decide +kernel, reads_of (by decide +kernel)⟩

theorem witness_expand :
    let s := poise id id
    let c := coachIn s
    let l := launchIn s
    let f := (n32 0 8 7)
    Issues s c l .expand f
      ∧ legalWidth c
      ∧ (∃ src s1 c1, Reads s c l .expand f src s1 c1) :=
  ⟨issues_of (by decide +kernel), by unfold legalWidth; decide +kernel, reads_of (by decide +kernel)⟩

theorem witness_compress :
    let s := poise id id
    let c := coachIn s
    let l := launchIn s
    let f := (n32 0 8 7)
    Issues s c l .compress f
      ∧ legalWidth c
      ∧ (∃ src s1 c1, Reads s c l .compress f src s1 c1) :=
  ⟨issues_of (by decide +kernel), by unfold legalWidth; decide +kernel, reads_of (by decide +kernel)⟩

theorem witness_halves :
    let s := poise (fun c => { c with width := 32, cmp16 := true, cm := 0xFFFFFFFF }) id
    let c := coachIn s
    let l := launchIn s
    let f := (n32 4 8 7)
    Issues s c l .scan f
      ∧ legalWidth c
      ∧ (segmentOf c ≠ c.width)
      ∧ (∃ src s1 c1, Reads s c l .scan f src s1 c1) :=
  ⟨issues_of (by decide +kernel), by unfold legalWidth; decide +kernel, by decide +kernel, reads_of (by decide +kernel)⟩

/-! Loads, Stores, Atomics, PointerChecks -/

theorem witness_load_scalar :
    let s := poise (fun c => c.setP 6 farPtr) id
    let c := coachIn s
    let l := launchIn s
    let f := (n32 0 6 4)
    Issues s c l .ld f
      ∧ (firstTrap (s.formChecks l (awake c) .ld f) = none)
      ∧ (c.act f ≠ 0)
      ∧ ((match s.enterQueue (.coachMemory c.core) (c.id, c.pc) with
        | some s0 => good (s0.loadElems l (awake c) f { lanes := false } 0 false
            ((formPlan c f).elems c false false [s.formLane c f 0]))
        | none => false) = true) :=
  ⟨issues_of (by decide +kernel), by decide +kernel, by decide +kernel, by decide +kernel⟩

theorem witness_load_lanes :
    let s := poise (fun c => c.setP 6 farPtr) id
    let c := coachIn s
    let l := launchIn s
    let f := (n64 8 6 3 2 255)
    Issues s c l .ld f
      ∧ (firstTrap (s.formChecks l (awake c) .ld f) = none)
      ∧ (c.act f ≠ 0)
      ∧ ((match s.enterQueue (.coachMemory c.core) (c.id, c.pc) with
        | some s0 => good (s0.loadLanes l (awake c) f (formPlan c f) 0 ((c.actLanes f).map (s0.formLane c f)))
        | none => false) = true) :=
  ⟨issues_of (by decide +kernel), by decide +kernel, by decide +kernel, by decide +kernel⟩

theorem witness_load_skipped :
    let s := poise (fun c => c.setP 6 farPtr) id
    let c := coachIn s
    let l := launchIn s
    let f := { n64 0 6 4 255 255 with pen := true }
    Issues s c l .ld f
      ∧ (firstTrap (s.formChecks l (awake c) .ld f) = none)
      ∧ (c.act f = 0) :=
  ⟨issues_of (by decide +kernel), by decide +kernel, by decide +kernel⟩

/-- LD.p through a pointer to I32 elements. -/
theorem witness_load_traps :
    let s := poise (fun c => c.setP 6 farPtr) id
    let c := coachIn s
    let l := launchIn s
    let f := (n32 32 6 4)
    Issues s c l .ld f
      ∧ ((firstTrap (s.formChecks l (awake c) .ld f)).isSome) :=
  ⟨issues_of (by decide +kernel), by decide +kernel⟩

theorem noStash_of {s : State}
    (h : (s.crews.all (fun k => k.lines == [] && k.stash.all (fun e => !bindValid e)) && s.remote.isEmpty) = true) :
    noStash s := by
  simp only [Bool.and_eq_true, beq_iff_eq, List.all_eq_true, Bool.not_eq_true', List.isEmpty_iff] at h
  exact h

theorem copiesCurrent_of {s : State} {k : CoreId}
    (h : (s.core k).copies = [] ∧ (s.die k.die).copies = [] ∧ (s.core k).host = []) : copiesCurrent s k := by
  simp [copiesCurrent, h.1, h.2.1, h.2.2]

theorem witness_memory_quiet :
    noStash (poise id id) ∧ copiesCurrent (poise id id) standInCore ∧ Memory.wf (poise id id).mem = true :=
  ⟨noStash_of (by decide +kernel), copiesCurrent_of (by decide +kernel), by decide +kernel⟩

theorem witness_store :
    let s := poise (fun c => c.setP 6 farPtr) id
    let c := coachIn s
    let l := launchIn s
    let f := (n64 8 6 3 2 255)
    Issues s c l .st f
      ∧ (firstTrap (s.formChecks l (awake c) .st f) = none)
      ∧ (c.act f ≠ 0)
      ∧ ((match s.enterQueue (.coachMemory c.core) (c.id, c.pc) with
        | some s0 => good (s0.storeLanes l (awake c) { lanes := true } (formPlan c f) 32 (s0.storeItems (awake c) f))
        | none => false) = true) :=
  ⟨issues_of (by decide +kernel), by decide +kernel, by decide +kernel, by decide +kernel⟩

/-- An element outside the pointer. -/
theorem witness_store_traps :
    let s := poise (fun c => c.setP 6 (ptrMake 0x40010000 5 3)) id
    let c := coachIn s
    let l := launchIn s
    let f := (n64 8 6 3 2 255)
    Issues s c l .st f
      ∧ (firstTrap (s.formChecks l (awake c) .st f) = none)
      ∧ (c.act f ≠ 0)
      ∧ ((match s.enterQueue (.coachMemory c.core) (c.id, c.pc) with
        | some s0 => good (s0.storeLanes l (awake c) { lanes := true } (formPlan c f) 32 (s0.storeItems (awake c) f))
        | none => false) = false) :=
  ⟨issues_of (by decide +kernel), by decide +kernel, by decide +kernel, by decide +kernel⟩

theorem witness_store_skipped :
    let s := poise (fun c => c.setP 6 farPtr) id
    let c := coachIn s
    let l := launchIn s
    let f := { n64 0 6 4 255 255 with pen := true }
    Issues s c l .st f
      ∧ (firstTrap (s.formChecks l (awake c) .st f) = none)
      ∧ (c.act f = 0) :=
  ⟨issues_of (by decide +kernel), by decide +kernel, by decide +kernel⟩

theorem witness_atomic :
    let s := poise (fun c => c.setP 6 (ptrMake 0x40010000 0x1005 0x1000)) id
    let c := coachIn s
    let l := launchIn s
    let f := (n64 4 6 3 1 2)
    Issues s c l .atom f
      ∧ (c.blockTrap .atom f = none)
      ∧ (atomFmtOk true 0 (ptrFmt (c.pr f.a.toNat)) = true)
      ∧ (c.act f ≠ 0)
      ∧ (good (s.resolve l (awake c) { lanes := false, hostBad := false, answered := !c.answers.isEmpty }
        ((s.atomItems (awake c) .atom f).map (fun i =>
          ⟨i.at_.lane, f.a.toNat, c.pr f.a.toNat, i.at_.off, 4, 4, 1, false, true, true⟩))) = true)
      ∧ ((s.enterQueue (.coachMemory c.core) (c.id, c.pc)).isSome)
      ∧ (s.releaseBlocked c (c.pr f.a.toNat) = false) :=
  ⟨issues_of (by decide +kernel), by decide +kernel, by decide +kernel, by decide +kernel, by decide +kernel, by decide +kernel, by decide +kernel⟩

theorem witness_cas :
    let s := poise (fun c => c.setP 6 (ptrMake 0x40010000 0x1005 0x1000)) id
    let c := coachIn s
    let l := launchIn s
    let f := (n64 4 6 3 1 2)
    Issues s c l .cas f
      ∧ (c.blockTrap .cas f = none) :=
  ⟨issues_of (by decide +kernel), by decide +kernel⟩

/-- A four-byte element through `p` at `off`. -/
def elemAt (p : BitVec 128) (off : Int) (write : Bool) : Elem :=
  { lane := 0, ptr := 6, p := p, off := off, size := 4, align := 4, write := write }
/-- The clauses of PointerChecks at the ends of their ranges: each breach with the earlier checks passed. -/
theorem witness_pointer_checks :
    let l := standInLaunch
    ¬ ptrWellFormed l.scopeMax (ptrMake 0 (5 + 0x1800) 8) = true
      ∧ (ptrWellFormed l.scopeMax (ptrMake 0 (5 + 0x800) 8) = true ∧ ptrCls (ptrMake 0 (5 + 0x800) 8) = 1)
      ∧ (ptrWellFormed l.scopeMax nearPtr = true ∧ ptrSpace nearPtr = 1 ∧ l.scratch = 4096)
      ∧ (ptrWellFormed l.scopeMax farPtr = true ∧ ptrSpace farPtr = 0 ∧ (elemAt farPtr 4093 false).off + 4 > ptrLen farPtr)
      ∧ ((elemAt farPtr 4092 false).off + 4 = ptrLen farPtr ∧ ¬ (4 : Int) ∣ (ptrBase farPtr : Int) + 4090) := by
  decide +kernel

/-- A stream of `k` by `n` elements through P[p], and a coach with the operands of a product. -/
def strOf (p k n : Nat) : BitVec 384 :=
  BitVec.ofNat 384 (p + 2 ^ 64 + k * 2 ^ 96 + 2 ^ 224 + (k + n * 2 ^ 32) * 2 ^ 256 + (1 + 2 ^ 32) * 2 ^ 320)
def multiplying (c : Coach) : Coach :=
  { ((c.setP 2 (ptrMake 0 0x108 0x400)).setP 4 (ptrMake 0x400 0x108 0x400)).setS 0 (strOf 2 4 32) with
    mxs := 0x101, str := [strOf 2 4 32, strOf 4 4 64] ++ List.replicate 14 0 }
/-- A tensor of four 32-bit elements in Lunath, and the crew with it in a slot. -/
def record : List DWord :=
  [0x0A00000040010000#64, 0x100000004#64, 0x100000001#64, 1, 16, 16, 16, 16, 0x0001000100010004#64, 1, 16, 0]
def withRecord (busy : Bool) (own : Nat) (s : State) : State :=
  let t : TlSlot := { TlSlot.empty with loaded := true, words := record, busy := busy, own := own }
  { s with crews := s.crews.map (fun k => { k with tl := List.replicate 8 t }) }
/-- A post at the start of the image. -/
def aPost (n : BitVec 16) : Post := { id := n, wst := 1, gst := 1, wpc := 0x40, gpc := 0x40, map := [] }
def withPosts (s : State) : State := { s with launches := [{ standInLaunch with posts := [aPost 7, aPost 0xFFFE] }] }

/-- The conditions of `Passes`, evaluated. -/
def passes (s : State) (l : Launch) (c : Coach) (e : Elem) : Bool :=
  ptrWellFormed l.scopeMax e.p && (!e.write || (ptrCls e.p != 1 && ptrSpace e.p != 5))
    && (ptrSpace e.p != 2 || (decide (0 ≤ e.addr) && decide (e.addr < 2 ^ 25) && decide (e.addr / 2 ^ 20 < (l.crewCount : Int))))
    && (!(ptrSpace e.p == 1 || ptrSpace e.p == 2) || (decide (0 ≤ e.local_) && decide (e.local_ + (e.size : Int) ≤ (l.scratch : Int))))
    && decide (0 ≤ e.off) && decide (e.off + (e.size : Int) ≤ (ptrLen e.p : Int))
    && decide (e.addr % (e.align : Int) = 0) && decide (e.off % (e.offMul : Int) = 0)
    && (match s.elemLoc (l.party (some c.core)) c e with
      | .ok loc => !scopeBreach c e loc && (!loc.isPeer || (s.peerBreach l e).isNone)
          && (s.accessHazard (l.party (some c.core)) (ptrSpace e.p) e.va (ptrWide? e.p e.atomic) (e.write && !e.atomic) loc
            e.size).isNone
      | .error _ => false)

theorem passes_of {s : State} {l : Launch} {c : Coach} {e : Elem} (h : passes s l c e = true) : Passes s l c e := by
  unfold passes at h
  split at h
  case h_2 => simp at h
  case h_1 loc hloc =>
    simp only [Bool.and_eq_true, Bool.or_eq_true, Bool.not_eq_true', bne_iff_ne, ne_eq, decide_eq_true_eq,
      Bool.or_eq_false_iff, beq_eq_false_iff_ne, Option.isNone_iff_eq_none] at h
    obtain ⟨⟨⟨⟨⟨⟨⟨⟨hf, hw⟩, hc⟩, hs⟩, h0⟩, h1⟩, h2⟩, h3⟩, ⟨h4, h5⟩, h6⟩ := h
    exact { formed := hf, writable := fun hh => by simpa [hh] using hw, crews := fun hh => by simpa [hh, and_assoc] using hc
            scratch := fun hh => by
              rcases hs with hs | hs
              · exact absurd hh (by simpa using hs)
              · exact hs
            range := ⟨h0, h1⟩, aligned := ⟨h2, h3⟩
            placed := ⟨loc, hloc, h4, fun hh => by simpa [hh] using h5, by simpa using h6⟩ }

theorem allPass_of {s : State} {l : Launch} {c : Coach} {es : List Elem} (h : es.all (passes s l c) = true) :
    ∀ e ∈ es, Passes s l c e :=
  fun e he => passes_of (List.all_eq_true.mp h e he)

/-! Pointers -/

theorem witness_pmake :
    let s := poise (fun c => (c.setX 8 0x2000).setX 9 0x1000) id
    let c := coachIn s
    let l := launchIn s
    let f := (n96 0 8 3 9 0x0043480B)
    Issues s c l .pmake f
      ∧ (c.act f ≠ 0)
      ∧ ((c.xr f.a.toNat).toNat < 2 ^ 57 ∧ (c.xr f.c.toNat).toNat < 2 ^ 40 ∧ f.lit.toNat / 128 % 2 = 0)
      ∧ (ptrWellFormed l.scopeMax (ptrMake (c.xr f.a.toNat).toNat f.lit.toNat (c.xr f.c.toNat).toNat) = true) :=
  ⟨issues_of (by decide +kernel), by decide +kernel, by decide +kernel, by decide +kernel⟩

theorem witness_pmake_far :
    let s := poise (fun c => c.setX 8 0x0200000000000000) id
    let c := coachIn s
    let l := launchIn s
    let f := (n96 0 8 3 9 0x0043480B)
    Issues s c l .pmake f
      ∧ (¬ (c.xr f.a.toNat).toNat < 2 ^ 57) :=
  ⟨issues_of (by decide +kernel), by decide +kernel⟩

theorem witness_pderiv :
    let s := poise (fun c => ((c.setP 6 farPtr).setX 1 0xFFC).setX 2 4) id
    let c := coachIn s
    let l := launchIn s
    let f := (n64 37 6 3 1 2)
    Issues s c l .pderiv f
      ∧ (c.act f ≠ 0)
      ∧ ((c.xr f.b.toNat).toNat + (c.xr f.c.toNat).toNat = ptrLen (c.pr f.a.toNat)) :=
  ⟨issues_of (by decide +kernel), by decide +kernel, by decide +kernel⟩

theorem witness_pderiv_beyond :
    let s := poise (fun c => ((c.setP 6 farPtr).setX 1 0xFFD).setX 2 4) id
    let c := coachIn s
    let l := launchIn s
    let f := (n64 37 6 3 1 2)
    Issues s c l .pderiv f
      ∧ (ptrLen (c.pr f.a.toNat) < (c.xr f.b.toNat).toNat + (c.xr f.c.toNat).toNat) :=
  ⟨issues_of (by decide +kernel), by decide +kernel⟩

theorem witness_padd :
    let s := poise (fun c => c.setP 6 farPtr) id
    let c := coachIn s
    let l := launchIn s
    let f := (n96 0 6 3 255 0x1000)
    Issues s c l .padd f
      ∧ (c.act f ≠ 0)
      ∧ ((c.bValue f).toInt = ptrLen (c.pr f.a.toNat)) :=
  ⟨issues_of (by decide +kernel), by decide +kernel, by decide +kernel⟩

theorem witness_padd_below :
    let s := poise (fun c => (c.setP 6 farPtr).setX 1 0xFFFFFFFFFFFFFFFF) id
    let c := coachIn s
    let l := launchIn s
    let f := (n64 0 6 3 1 255)
    Issues s c l .padd f
      ∧ ((c.bValue f).toInt < 0) :=
  ⟨issues_of (by decide +kernel), by decide +kernel⟩

theorem witness_pget :
    let s := poise (fun c => c.setP 6 farPtr) id
    let c := coachIn s
    let l := launchIn s
    let f := (n32 4 6 3)
    Issues s c l .pget f :=
  issues_of (by decide +kernel)

theorem witness_pscope :
    let s := poise (fun c => c.setP 6 (ptrMake 0x40010000 0x22005 0x1000)) id
    let c := coachIn s
    let l := launchIn s
    let f := (n32 16 6 3)
    Issues s c l .pscope f
      ∧ (c.act f ≠ 0)
      ∧ (2 ≤ ptrWide (c.pr 6) ∧ ptrScope (c.pr 6) = 1)
      ∧ (s.outstanding c = false)
      ∧ (s.pscopeTrap c f (c.pr f.a.toNat) = none) :=
  ⟨issues_of (by decide +kernel), by decide +kernel, by decide +kernel, by decide +kernel, by decide +kernel⟩

theorem witness_pscope_same :
    let s := poise (fun c => c.setP 6 (ptrMake 0x40010000 0x22005 0x1000)) id
    let c := coachIn s
    let l := launchIn s
    let f := (n32 62 6 3)
    Issues s c l .pscope f
      ∧ (f.k6.toNat / 8 = 7 ∧ f.k6.toNat / 2 % 4 = 3) :=
  ⟨issues_of (by decide +kernel), by decide +kernel⟩

theorem witness_pscope_wider :
    let s := poise (fun c => c.setP 6 (ptrMake 0x40010000 0x22005 0x1000)) id
    let c := coachIn s
    let l := launchIn s
    let f := (n32 24 6 3)
    Issues s c l .pscope f
      ∧ (ptrWide (c.pr f.a.toNat) < f.k6.toNat / 8) :=
  ⟨issues_of (by decide +kernel), by decide +kernel⟩

/-! Streams, StreamReads, PrefetchAndStash -/

theorem witness_sdef :
    let s := poise (fun c => (((((c.setX 10 1).setX 11 0).setX 12 0x100000000).setX 13 0x100000004).setX 14 0x100000001).setP 6 farPtr) id
    let c := coachIn s
    let l := launchIn s
    let f := (n64 0 10 3 6 255)
    Issues s c l .sdef f
      ∧ (c.act f ≠ 0)
      ∧ (fmtBlock (ptrFmt (c.pr f.b.toNat)) = false)
      ∧ (strCount (BitVec.ofNat 384 (f.b.toNat % 32 + (c.xr 10).toNat * 2 ^ 64 + (c.xr 11).toNat * 2 ^ 128
        + (c.xr 12).toNat * 2 ^ 192 + (c.xr 13).toNat * 2 ^ 256 + (c.xr 14).toNat * 2 ^ 320)) = 4) :=
  ⟨issues_of (by decide +kernel), by decide +kernel, by decide +kernel, by decide +kernel⟩

theorem witness_sdef_empty :
    let s := poise id id
    let c := coachIn s
    let l := launchIn s
    let f := (n64 0 10 3 6 255)
    Issues s c l .sdef f
      ∧ ((c.xr 13).toNat = 0) :=
  ⟨issues_of (by decide +kernel), by decide +kernel⟩

theorem witness_spos_set :
    let s := poise id id
    let c := coachIn s
    let l := launchIn s
    let f := (n96 0 0 3 255 9)
    Issues s c l .spos f
      ∧ (f.k6.toNat % 4 = 0) :=
  ⟨issues_of (by decide +kernel), by decide +kernel⟩

theorem witness_spos_move :
    let s := poise id id
    let c := coachIn s
    let l := launchIn s
    let f := (n64 1 0 3 1 255)
    Issues s c l .spos f
      ∧ (f.k6.toNat % 4 = 1) :=
  ⟨issues_of (by decide +kernel), by decide +kernel⟩

theorem witness_spos_read :
    let s := poise id id
    let c := coachIn s
    let l := launchIn s
    let f := (n32 2 3 5)
    Issues s c l .spos f
      ∧ (f.k6.toNat % 4 = 2) :=
  ⟨issues_of (by decide +kernel), by decide +kernel⟩

theorem witness_stream_read : let s := poise multiplying id
    good (s.readStream (launchIn s) (coachIn s) (n32 0 0 0) 0) = true ∧ 0 < strExt ((coachIn s).sr 0) 0
      ∧ 0 < strExt ((coachIn s).sr 0) 1 ∧ 0 < strExt ((coachIn s).sr 0) 2 ∧ 0 < strExt ((coachIn s).sr 0) 3 :=
  by decide +kernel

theorem witness_pref :
    let s := poise id id
    let c := coachIn s
    let l := launchIn s
    let f := (n64 0 6 0 2 255)
    Issues s c l .pref f :=
  issues_of (by decide +kernel)

theorem witness_stbind :
    let s := poise (fun c => c.setP 6 (ptrMake 0x40010000 0x800 0x400)) id
    let c := coachIn s
    let l := launchIn s
    let f := (n64 0 6 3 1 255)
    Issues s c l .stbind f
      ∧ ((s.crewOf c).isSome ∧ c.act f ≠ 0)
      ∧ (s.bindTrap l c (standInLaunch.newCrew 0 0 standInCore 0 true 0 0) f.a.toNat (c.pr f.a.toNat) 0 = none) :=
  ⟨issues_of (by decide +kernel), by decide +kernel, by decide +kernel⟩

theorem witness_stbind_traps :
    let s := poise id id
    let c := coachIn s
    let l := launchIn s
    let f := (n64 0 6 3 1 255)
    Issues s c l .stbind f
      ∧ ((s.bindTrap l c (standInLaunch.newCrew 0 0 standInCore 0 true 0 0) f.a.toNat (c.pr f.a.toNat) 0).isSome) :=
  ⟨issues_of (by decide +kernel), by decide +kernel⟩

theorem witness_stunb :
    let s := poise id (fun s => { s with crews := s.crews.map (fun k => { k with stash := [BitVec.ofNat 128 (2 ^ 127 + 128 * 2 ^ 84 + 0x40010000)] ++ List.replicate 15 0 }) })
    let c := coachIn s
    let l := launchIn s
    let f := (n32 0 1 0)
    Issues s c l .stunb f
      ∧ (c.act f ≠ 0 ∧ (c.xr f.a.toNat).toNat < 16)
      ∧ (((s.crewOf c).map (fun k => bindValid (k.stash.getD (c.xr f.a.toNat).toNat 0))) = some true) :=
  ⟨issues_of (by decide +kernel), by decide +kernel, by decide +kernel⟩

theorem witness_stunb_free :
    let s := poise id id
    let c := coachIn s
    let l := launchIn s
    let f := (n32 0 1 0)
    Issues s c l .stunb f
      ∧ (((s.crewOf c).map (fun k => bindValid (k.stash.getD (c.xr f.a.toNat).toNat 0))) = some false) :=
  ⟨issues_of (by decide +kernel), by decide +kernel⟩

theorem witness_pointer_skipped :
    let s := poise id id
    let c := coachIn s
    let l := launchIn s
    let f := { n96 0 8 3 9 0x0043480B with pen := true }
    Issues s c l .pmake f
      ∧ (c.act f = 0) :=
  ⟨issues_of (by decide +kernel), by decide +kernel⟩

/-! MatrixTile, MatrixProducts, MatrixOutput -/

theorem witness_mmode_on :
    let s := poise id id
    let c := coachIn s
    let l := launchIn s
    let f := (n32 1 0 192)
    Issues s c l .mmode f
      ∧ fullAct c f
      ∧ (32 ∣ f.d.toNat ∧ f.d.toNat ≤ 192 ∧ f.d.toNat + 31 < l.nV c.image)
      ∧ (bit c.mxs 0 = false ∧ f.d.toNat + 32 ≤ c.v.length) :=
  ⟨issues_of (by decide +kernel), by unfold fullAct; decide +kernel, by decide +kernel, by decide +kernel⟩

theorem witness_mmode_illegal :
    let s := poise id id
    let c := coachIn s
    let l := launchIn s
    let f := (n32 1 0 1)
    Issues s c l .mmode f
      ∧ fullAct c f
      ∧ (¬ 32 ∣ f.d.toNat) :=
  ⟨issues_of (by decide +kernel), by unfold fullAct; decide +kernel, by decide +kernel⟩

theorem witness_mmode_partial :
    let s := poise (fun c => { c with cm := 1 }) id
    let c := coachIn s
    let l := launchIn s
    let f := (n32 1 0 64)
    Issues s c l .mmode f
      ∧ ¬ fullAct c f :=
  ⟨issues_of (by decide +kernel), by unfold fullAct; decide +kernel⟩

theorem witness_mmode_off :
    let s := poise id id
    let c := coachIn s
    let l := launchIn s
    let f := (n32 0 0 0)
    Issues s c l .mmode f
      ∧ (f.k6.getLsbD 0 = false) :=
  ⟨issues_of (by decide +kernel), by decide +kernel⟩

theorem witness_mxzero :
    let s := poise (fun c => { c with mxs := 0x101 }) id
    let c := coachIn s
    let l := launchIn s
    let f := (n32 0 0 64)
    Issues s c l .mxzero f
      ∧ fullAct c f
      ∧ (c.mxm = true ∧ f.d.toNat = c.vb ∧ c.vb + 32 ≤ c.v.length) :=
  ⟨issues_of (by decide +kernel), by unfold fullAct; decide +kernel, by decide +kernel⟩

theorem witness_mxzero_off :
    let s := poise id id
    let c := coachIn s
    let l := launchIn s
    let f := (n32 0 0 64)
    Issues s c l .mxzero f
      ∧ fullAct c f
      ∧ (c.mxm = false ∧ c.vb + 32 ≤ c.v.length) :=
  ⟨issues_of (by decide +kernel), by unfold fullAct; decide +kernel, by decide +kernel⟩

theorem witness_mxscl :
    let s := poise (fun c => { c with mxs := 0x101 }) id
    let c := coachIn s
    let l := launchIn s
    let f := (n64 3 8 64 9 255)
    Issues s c l .mxscl f
      ∧ fullAct c f
      ∧ (c.mxm = true ∧ f.d.toNat = c.vb ∧ bit c.mxs 1 = false)
      ∧ (∀ n ∈ sclRegs f c, c.inBlock n = false) :=
  ⟨issues_of (by decide +kernel), by unfold fullAct; decide +kernel, by decide +kernel, by decide +kernel⟩

theorem witness_mxscl_int :
    let s := poise (fun c => { c with mxs := 0x103 }) id
    let c := coachIn s
    let l := launchIn s
    let f := (n64 3 8 64 9 255)
    Issues s c l .mxscl f
      ∧ (bit c.mxs 1 = true)
      ∧ (∀ n ∈ sclRegs f c, c.inBlock n = false) :=
  ⟨issues_of (by decide +kernel), by decide +kernel, by decide +kernel⟩

theorem witness_mxamax :
    let s := poise (fun c => { c with mxs := 0x101 }) id
    let c := coachIn s
    let l := launchIn s
    let f := (n32 1 64 7)
    Issues s c l .mxamax f
      ∧ fullAct c f
      ∧ (c.mxm = true ∧ f.a.toNat = c.vb ∧ c.inBlock f.d.toNat = false) :=
  ⟨issues_of (by decide +kernel), by unfold fullAct; decide +kernel, by decide +kernel⟩

theorem witness_mxmul :
    let s := poise (multiplying) id
    let c := coachIn s
    let l := launchIn s
    let f := { n64 0 0 64 1 255 with astr := true, bstr := true }
    Issues s c l .mxmul f
      ∧ firstTrap ((s.beginIssue c .mxmul).mxChecks l (awake c) .mxmul f) = none
      ∧ productLegal (s.beginIssue c .mxmul) l c .mxmul f
      ∧ s.outstanding c = false
      ∧ panelsReadable (s.beginIssue c .mxmul) l c .mxmul f
      ∧ (s.engineBusy c true = false) :=
  ⟨issues_of (by decide +kernel), by decide +kernel,
    ⟨by unfold fullAct; decide +kernel, by decide +kernel, by decide +kernel, ⟨4, by unfold productShape; decide +kernel⟩,
      by decide +kernel, by unfold operandStream; decide +kernel, by unfold operandStream; decide +kernel,
      fun h => absurd h (by decide)⟩,
    by decide +kernel, ⟨allPass_of (by decide +kernel), by decide +kernel⟩, by decide +kernel⟩

theorem witness_mxmulg :
    let s := poise (multiplying) id
    let c := coachIn s
    let l := launchIn s
    let f := { n64 0 0 64 1 0 with astr := true, bstr := true }
    Issues s c l .mxmulg f
      ∧ productLegal (s.beginIssue c .mxmulg) l c .mxmulg f
      ∧ s.outstanding c = false
      ∧ panelsReadable (s.beginIssue c .mxmulg) l c .mxmulg f
      ∧ (s.engineBusy c true = false) :=
  ⟨issues_of (by decide +kernel),
    ⟨by unfold fullAct; decide +kernel, by decide +kernel, by decide +kernel, ⟨4, by unfold productShape; decide +kernel⟩,
      by decide +kernel, by unfold operandStream; decide +kernel, by unfold operandStream; decide +kernel,
      fun _ => ⟨by decide +kernel, by decide +kernel, by
        have h : ((coachIn (poise multiplying id)).productElems .mxmulg
              { n64 0 0 64 1 0 with astr := true, bstr := true }).all
            (fun e => match ((poise multiplying id).beginIssue (coachIn (poise multiplying id)) .mxmulg).elemLoc
                ((launchIn (poise multiplying id)).party (some (coachIn (poise multiplying id)).core))
                (coachIn (poise multiplying id)) e with
              | .ok (.store _ _) => true
              | _ => false) = true := by decide +kernel
        intro e he _ _
        have := List.all_eq_true.mp h e he
        split at this
        · rename_i k x hk
          exact ⟨k, x, hk⟩
        · cases this⟩⟩,
    by decide +kernel, ⟨allPass_of (by decide +kernel), by decide +kernel⟩, by decide +kernel⟩

theorem witness_mxmul_traps :
    let s := poise id id
    let c := coachIn s
    let l := launchIn s
    let f := { n64 0 0 64 1 255 with astr := true, bstr := true }
    Issues s c l .mxmul f
      ∧ ((firstTrap ((s.beginIssue c .mxmul).mxChecks l (awake c) .mxmul f)).isSome) :=
  ⟨issues_of (by decide +kernel), by decide +kernel⟩

/-- The product of `witness_mxmul` in flight. -/
def inFlight (c : Coach) : Coach :=
  let d := multiplying c
  let f := { n64 0 0 64 1 255 with astr := true, bstr := true }
  let rs := places (poise multiplying id) standInLaunch d (d.productElems .mxmul f)
  let q := d.panelsOf .mxmul f rs
  let w : GridWork :=
    { o := .mxmul, f := f, pc := startPc, mode := d.mode, a := q.1, b := q.2, answers := [], cm := d.cm, rpc := d.rpc
      depth := d.depth, lpost := d.lpost, k0 := 0, k := 0, kEnd := 4, next := 0, moved := false }
  { d with grid := some w }
/-- Another coach's product is on the grid; and a granule of a panel is poisoned. -/
theorem witness_grid_taken :
    let s := poise id (fun s => { s with coaches :=
      (inFlight (coachIn s)) :: s.coaches.map (fun c => { c with id := { c.id with coach := 1 } }) })
    s.coaches.any (fun c => c.id.coach == 1 && s.engineBusy c true) = true := by decide +kernel
theorem witness_group_poisoned :
    let s := poise inFlight (fun s => { s with poison := [.granule standInCore 0] })
    let c := coachIn s
    (c.grid.any (fun w => (s.groupTrap standInLaunch { c with mode := w.mode, answers := w.answers } w 4).isSome)) = true := by
  decide +kernel
theorem witness_group :
    let s := poise inFlight id
    let c := coachIn s
    s.coach? c.id = some c ∧ c.grid.isSome ∧ engaged s c standInLaunch ∧ c.vb + 32 ≤ c.v.length
      ∧ ∀ w, c.grid = some w → ∀ r ∈ groupReads { c with mode := w.mode, answers := w.answers } w,
          s.readHazard r.2 r.1.size = none := by
  refine ⟨by decide +kernel, by decide +kernel, ⟨by decide +kernel, rfl, standInGang, by decide +kernel, by decide⟩,
    by decide +kernel, ?_⟩
  have h : (match (coachIn (poise inFlight id)).grid with
      | some w => (groupReads { coachIn (poise inFlight id) with mode := w.mode, answers := w.answers } w).all
          (fun r => (((poise inFlight id).readHazard r.2 r.1.size).isNone))
      | none => true) = true := by decide +kernel
  intro w hw r hr
  rw [hw] at h
  simpa using List.all_eq_true.mp h r hr

theorem witness_mxout :
    let s := poise (fun c => { (c.setP 6 (ptrMake 0 0x108 0x1000)).setX 20 0x4000000000 with mxs := 0x101, width := 32, cm := 0xFFFFFFFF }) id
    let c := coachIn s
    let l := launchIn s
    let f := { n64 0 6 64 20 255 with bscl := true }
    let s0 := s.beginIssue c .mxout
    let es := outElems c f (outLanes c f)
    Issues s c l .mxout f
      ∧ (firstTrap (s0.outChecks l (awake c) f) = none)
      ∧ outputLegal s c f ∧ roomy s c 0 ∧ (∀ e ∈ es, Passes s0 l c e) ∧ s.releaseBlocked c (c.pr f.a.toNat) = false
      ∧ s.ownPending c (places s0 l c es) = false ∧ roomForAll s0 c (places s0 l c es)
      ∧ s0.lacksAnswer c (halfReads (fmtHalf (ptrFmt (c.pr f.a.toNat))) ((places s0 l c es).take (outLanes c f).length)) = false
      ∧ (outAuto f = false ∧ f.c.toNat = 255) :=
  ⟨issues_of (by decide +kernel), by decide +kernel, by unfold outputLegal fullAct; decide +kernel,
    by unfold roomy; decide +kernel, allPass_of (by decide +kernel), by decide +kernel, by decide +kernel,
    by unfold roomForAll; decide +kernel, by decide +kernel, by decide +kernel⟩

theorem witness_mxout_traps :
    let s := poise id id
    let c := coachIn s
    let l := launchIn s
    let f := { n64 0 6 64 20 255 with bscl := true }
    Issues s c l .mxout f
      ∧ ((firstTrap ((s.beginIssue c .mxout).outChecks l (awake c) f)).isSome) :=
  ⟨issues_of (by decide +kernel), by decide +kernel⟩

/-! DraySlots, DrayCommands, DrayElement -/

theorem witness_tlrset :
    let s := poise (fun c => { c with x := c.x.take 16 ++ record ++ c.x.drop 28 }) id
    let c := coachIn s
    let l := launchIn s
    let f := (n32 0 16 7)
    Issues s c l .tlrset f
      ∧ fullAct c f
      ∧ (s.tlOwned c f.d.toNat = false)
      ∧ (recBreach (recordWords c f.a.toNat) = none) :=
  ⟨issues_of (by decide +kernel), by unfold fullAct; decide +kernel, by decide +kernel, by decide +kernel⟩

theorem witness_tlrset_bad :
    let s := poise id id
    let c := coachIn s
    let l := launchIn s
    let f := (n32 0 16 7)
    Issues s c l .tlrset f
      ∧ ((recBreach (recordWords c f.a.toNat)).isSome) :=
  ⟨issues_of (by decide +kernel), by decide +kernel⟩

theorem witness_tlrset_owned :
    let s := poise id (withRecord true 1)
    let c := coachIn s
    let l := launchIn s
    let f := (n32 0 16 7)
    Issues s c l .tlrset f
      ∧ (s.tlOwned c f.d.toNat = true) :=
  ⟨issues_of (by decide +kernel), by decide +kernel⟩

theorem witness_feset :
    let s := poise (fun c => c.setX 1 4080) id
    let c := coachIn s
    let l := launchIn s
    let f := (n96 0 1 0 255 16)
    Issues s c l .feset f
      ∧ fullAct c f
      ∧ ((c.xr f.a.toNat).toNat + f.lit.toNat = l.scratch)
      ∧ (s.outstanding c = false) :=
  ⟨issues_of (by decide +kernel), by unfold fullAct; decide +kernel, by decide +kernel, by decide +kernel⟩

theorem witness_feset_clear :
    let s := poise id id
    let c := coachIn s
    let l := launchIn s
    let f := (n96 1 1 0 255 0)
    Issues s c l .feset f
      ∧ (f.k6.getLsbD 0 = true) :=
  ⟨issues_of (by decide +kernel), by decide +kernel⟩

theorem witness_feset_outside :
    let s := poise (fun c => c.setX 1 4080) id
    let c := coachIn s
    let l := launchIn s
    let f := (n96 0 1 0 255 17)
    Issues s c l .feset f
      ∧ (l.scratch < (c.xr f.a.toNat).toNat + f.lit.toNat) :=
  ⟨issues_of (by decide +kernel), by decide +kernel⟩

theorem witness_feset_unaligned :
    let s := poise id id
    let c := coachIn s
    let l := launchIn s
    let f := (n96 0 1 0 255 8)
    Issues s c l .feset f
      ∧ ((c.xr f.a.toNat).toNat + f.lit.toNat ≤ l.scratch ∧ ¬ 16 ∣ f.lit.toNat) :=
  ⟨issues_of (by decide +kernel), by decide +kernel⟩

/-- The conditions of `lineReady`, evaluated. -/
def lineGoes (s : State) (l : Launch) (c : Coach) (k : Command) (n : Nat) : Bool :=
  let p := l.party (some c.core)
  decide ((s.sender (joinSender c.core 1)).entries.length < Config.windowSize)
    && (lineElems k.op k.src n).all (fun e =>
      (!k.reads c e || good (s.drayTranslate p false false k.size (nibVa (k.readNib c e))))
      && (!k.writes c e || good (s.drayTranslate p true (k.redop != 0) k.size (nibVa (k.writeNib c e))))
      && (match s.crewOf c with
        | some w => (s.readHazard (.store w.core (w.base + localNib k.src (k.soff c) e / 2)) k.size).isNone
        | none => true))

theorem lineReady_of {s : State} {l : Launch} {c : Coach} {k : Command} {n : Nat} (h : lineGoes s l c k n = true) :
    lineReady s l c k n := by
  simp only [lineGoes, Bool.and_eq_true, decide_eq_true_eq, List.all_eq_true, Bool.or_eq_true, Bool.not_eq_true'] at h
  refine ⟨fun _ => h.1, fun e he => ?_⟩
  obtain ⟨⟨hr, hw⟩, hs⟩ := h.2 e he
  refine ⟨fun hh => good_of ?_, fun hh => good_of ?_, fun _ _ w hk => ?_⟩
  · rcases hr with hr | hr
    · simp [hh] at hr
    · exact hr
  · rcases hw with hw | hw
    · simp [hh] at hw
    · exact hw
  · simpa [hk] using hs

theorem witness_drld :
    let s := poise id (withRecord false 0)
    let c := coachIn s
    let l := launchIn s
    let f := (n64 0 10 1 13 255)
    let k := commandOf s c .drld f
    Issues s c l .drld f
      ∧ (s.tlOwned c f.d.toNat = false)
      ∧ (firstTrap (commandChecks s l (awake c) k) = none)
      ∧ commandLegal s l c k
      ∧ (s.outstanding c = false ∧ s.engineBusy c false = false)
      ∧ lineReady s l c k 0 ∧ addReady s l c k :=
  ⟨issues_of (by decide +kernel), by decide +kernel, by decide +kernel,
    by unfold commandLegal fullAct originLegal; exact ⟨by decide +kernel, by decide +kernel, by decide +kernel, by decide +kernel,
      by decide +kernel, by decide +kernel, by decide +kernel, by decide +kernel, by decide +kernel, fun e he => by cases he⟩,
    by decide +kernel, lineReady_of (by decide +kernel), by unfold addReady; exact ⟨fun e he => (by cases he), fun r hr => (by cases hr)⟩⟩

/-- The engine takes slot 1, of a record that is idle, and one that was stopped at the command's address. -/
theorem witness_slot_taken :
    let s := poise id (withRecord false 0)
    let u := poise id (fun s => { s with crews := s.crews.map (fun k => { k with
      tl := List.replicate 8 { TlSlot.empty with loaded := true, words := record, busy := true, lines := 1, command := startPc } }) })
    (s.crewOf (coachIn s)).isSome ∧ (s.tlSlot (coachIn s) 1).busy = false ∧ (u.tlSlot (coachIn u) 1).busy = true
      ∧ (u.tlSlot (coachIn u) 1).command = (coachIn u).pc := by decide +kernel
theorem witness_drld_unloaded :
    let s := poise id id
    let c := coachIn s
    let l := launchIn s
    let f := (n64 0 10 1 13 255)
    Issues s c l .drld f
      ∧ ((firstTrap (commandChecks s l (awake c) (commandOf s c .drld f))).isSome) :=
  ⟨issues_of (by decide +kernel), by decide +kernel⟩

theorem witness_drst :
    let s := poise id (withRecord false 0)
    let c := coachIn s
    let l := launchIn s
    let f := (n64 0 10 1 13 255)
    let k := commandOf s c .drst f
    Issues s c l .drst f ∧ commandLegal s l c k ∧ lineReady s l c k 0 :=
  ⟨issues_of (by decide +kernel),
    by unfold commandLegal fullAct originLegal; exact ⟨by decide +kernel, by decide +kernel, by decide +kernel, by decide +kernel,
      by decide +kernel, by decide +kernel, by decide +kernel, by decide +kernel, by decide +kernel, fun e he => by cases he⟩,
    lineReady_of (by decide +kernel)⟩

theorem witness_drcp :
    let s := poise id (withRecord false 0)
    let c := coachIn s
    let l := launchIn s
    let f := (n64 0 2 1 13 255)
    let k := commandOf s c .drcp f
    Issues s c l .drcp f
      ∧ (firstTrap (commandChecks s l (awake c) k) = none)
      ∧ commandLegal s l c k ∧ lineReady s l c k 0 :=
  ⟨issues_of (by decide +kernel), by decide +kernel,
    by unfold commandLegal fullAct originLegal; exact ⟨by decide +kernel, by decide +kernel, by decide +kernel, by decide +kernel,
      by decide +kernel, by decide +kernel, by decide +kernel, by decide +kernel, by decide +kernel, fun e he => by cases he⟩,
    lineReady_of (by decide +kernel)⟩

/-- A load of the record in progress. -/
def loading : State :=
  poise (fun c => { c with wait := .dray .drld (n64 0 10 1 13 255) record }) (withRecord true 0)
theorem witness_dray_line :
    let s := loading
    let c := coachIn s
    let k : Command := { op := .drld, f := n64 0 10 1 13 255, src := record, dst := (s.tlSlot c 1).words }
    s.coach? c.id = some c ∧ engaged s c standInLaunch
      ∧ firstTrap [s.lineTrap (launchIn s) c k (lineElems .drld record 0), s.sourceTrap c k (lineElems .drld record 0)] = none
      ∧ lineReady s standInLaunch c k (s.tlSlot c 1).lines ∧ lineCount .drld record ≤ (s.tlSlot c 1).lines + 1 :=
  ⟨by decide +kernel, ⟨by decide +kernel, rfl, standInGang, by decide +kernel, by decide⟩, by decide +kernel,
    lineReady_of (by decide +kernel), by decide +kernel⟩
theorem witness_dray_element :
    noStash loading ∧ Memory.wf loading.mem = true ∧ (loading.crewOf (coachIn loading)).isSome
      ∧ fmtHalf (recFmt record) = false ∧ recMcast record = 0 ∧ recRedop record = 0 :=
  ⟨noStash_of (by decide +kernel), by decide +kernel, by decide +kernel, by decide +kernel, by decide +kernel,
    by decide +kernel⟩

/-! GroupArrival, GroupPhase, GroupReduction -/

theorem witness_gbar :
    let s := poise id id
    let c := coachIn s
    let l := launchIn s
    let f := (n32 0 0 0)
    Issues s c l .gbar f
      ∧ (c.slotValid (0 : Nat) = true ∧ c.act f ≠ 0 ∧ c.arr.getD 0 false = false)
      ∧ (reached c 0 (c.act f)).arr.getD 0 false = true :=
  ⟨issues_of (by decide +kernel), by decide +kernel, (by unfold reached; rw [if_pos (by decide +kernel)]; decide +kernel)⟩

theorem witness_garv :
    let s := poise id id
    let c := coachIn s
    let l := launchIn s
    let f := (n32 0 0 0)
    Issues s c l .garv f
      ∧ (c.slotValid (0 : Nat) = true ∧ c.act f ≠ 0 ∧ c.arr.getD 0 false = false)
      ∧ (reached c 0 (c.act f)).arr.getD 0 false = true :=
  ⟨issues_of (by decide +kernel), by decide +kernel, (by unfold reached; rw [if_pos (by decide +kernel)]; decide +kernel)⟩

theorem witness_gred :
    let s := poise id id
    let c := coachIn s
    let l := launchIn s
    let f := (n64 0 5 4 0 255)
    Issues s c l .gred f
      ∧ (c.slotValid (0 : Nat) = true ∧ c.act f ≠ 0 ∧ c.arr.getD 0 false = false)
      ∧ (reached c 0 (c.act f)).arr.getD 0 false = true :=
  ⟨issues_of (by decide +kernel), by decide +kernel, (by unfold reached; rw [if_pos (by decide +kernel)]; decide +kernel)⟩

theorem witness_gbar_bad :
    let s := poise id id
    let c := coachIn s
    let l := launchIn s
    let f := (n32 0 1 0)
    Issues s c l .gbar f
      ∧ (c.slotValid f.a.toNat = false) :=
  ⟨issues_of (by decide +kernel), by decide +kernel⟩

theorem witness_garv_none :
    let s := poise (fun c => { c with cm := 0 }) id
    let c := coachIn s
    let l := launchIn s
    let f := (n32 0 0 0)
    Issues s c l .garv f
      ∧ (c.slotValid f.a.toNat = true ∧ c.act f = 0) :=
  ⟨issues_of (by decide +kernel), by decide +kernel⟩

theorem witness_gbar_part :
    let s := poise (fun c => { c with cm := 1 }) id
    let c := coachIn s
    let l := launchIn s
    let f := (n32 0 0 0)
    Issues s c l .gbar f
      ∧ (c.slotValid (0 : Nat) = true ∧ c.act f ≠ 0 ∧ c.stack = [])
      ∧ (reached c 0 (c.act f)).arr.getD 0 false = false :=
  ⟨issues_of (by decide +kernel), by decide +kernel, (by unfold reached; rw [if_neg (by decide +kernel)]; decide +kernel)⟩

theorem witness_gbar_path :
    let s := poise (fun c => { c with cm := 1, arr := [true, false, false, false], depth := 1, stack := [{ kind := 1, pc := 0x40000100, mask := 2, rpc := 0x40000200, slot := 0, ph := false }] }) id
    let c := coachIn s
    let l := launchIn s
    let f := (n32 0 0 0)
    Issues s c l .gbar f
      ∧ (c.slotValid (0 : Nat) = true ∧ c.act f ≠ 0 ∧ c.arr.getD 0 false = true)
      ∧ ((c.stack.head?.map (·.kind)) = some 1) :=
  ⟨issues_of (by decide +kernel), by decide +kernel, by decide +kernel⟩

theorem witness_gwait :
    let s := poise (fun c => { c with arr := [true, false, false, false] }) id
    let c := coachIn s
    let l := launchIn s
    let f := (n32 0 0 0)
    Issues s c l .gwait f
      ∧ (c.slotValid f.a.toNat = true ∧ c.act f ≠ 0 ∧ c.arr.getD f.a.toNat false = true) :=
  ⟨issues_of (by decide +kernel), by decide +kernel⟩

theorem witness_gwait_on :
    let s := poise id id
    let c := coachIn s
    let l := launchIn s
    let f := (n32 0 0 0)
    Issues s c l .gwait f
      ∧ (c.slotValid f.a.toNat = true ∧ c.arr.getD f.a.toNat false = false) :=
  ⟨issues_of (by decide +kernel), by decide +kernel⟩

theorem witness_gwait_bad :
    let s := poise id id
    let c := coachIn s
    let l := launchIn s
    let f := (n32 0 1 0)
    Issues s c l .gwait f
      ∧ (c.slotValid f.a.toNat = false) :=
  ⟨issues_of (by decide +kernel), by decide +kernel⟩

theorem witness_gqry :
    let s := poise id id
    let c := coachIn s
    let l := launchIn s
    let f := (n32 0 0 7)
    Issues s c l .gqry f
      ∧ (c.slotValid f.a.toNat = true ∧ c.act f ≠ 0) :=
  ⟨issues_of (by decide +kernel), by decide +kernel⟩

theorem witness_gqry_none :
    let s := poise (fun c => { c with cm := 0 }) id
    let c := coachIn s
    let l := launchIn s
    let f := (n32 0 0 7)
    Issues s c l .gqry f
      ∧ (c.slotValid f.a.toNat = true ∧ c.act f = 0) :=
  ⟨issues_of (by decide +kernel), by decide +kernel⟩

/-- A group of one coach at a GRED, which has arrived. -/
def phase (w : Wait) (arrived : Bool) : State :=
  poise (fun c => { c with wait := w, arr := [arrived, false, false, false], sent := [some ⟨0, 0, 5, false⟩, none, none, none] }) id
theorem witness_phase : [Wait.barrier 0 8 true (some 3) 1, Wait.barrier 0 4 true none 1, Wait.gwait 0, Wait.ready].all (fun w =>
    let s := phase w true
    let ms := s.members 0 0 0
    (s.gang? 0 0).isSome && (s.launch? 0).isSome && decide (s.coaches.map (·.id)).Nodup
      && ms.all (fun m => m.1.arr.getD m.2 false && m.1.ex != lowMask m.1.width && m.1.wait == w && m.2 == 0) && ms != []
      && ((s.gang? 0 0).map (·.status)) == some .resident && !phaseMixed ms
      && phaseResult (fun i => Config.freeNat s.fresh i) ms == some (0, 5)) = true := by decide +kernel
theorem witness_phase_undue :
    let s := phase .ready false
    (s.gang? 0 0).isSome ∧ (s.launch? 0).isSome ∧ (s.coaches.map (·.id)).Nodup
      ∧ (s.members 0 0 0).all (fun m => m.1.arr.getD m.2 false) = false ∧ (s.members 0 0 0).map (·.1.ex) = [0] := by
  decide +kernel
theorem witness_reduction :
    let ms := (phase .ready true).members 0 0 0
    (∃ m ∈ ms, (m.1.sent.getD m.2 none).isSome)
      ∧ (∀ m ∈ ms, ∀ k, m.1.sent.getD m.2 none = some k → k.op = 0 ∧ k.ty = 0 ∧ asTy 0 k.value = k.value)
      ∧ List.Perm [5#64] (ms.map (fun m => match m.1.sent.getD m.2 none with
        | some k => k.value
        | none => groupIdentity 0 0)) := by
  have e : ((phase .ready true).members 0 0 0).map (fun m => m.1.sent.getD m.2 none) = [some ⟨0, 0, 5, false⟩] := by
    decide +kernel
  refine ⟨by decide +kernel, fun m hm k hk => ?_, ?_⟩
  · have := List.mem_map_of_mem (f := fun m : Coach × Nat => m.1.sent.getD m.2 none) hm
    rw [e, List.mem_singleton] at this
    simp only [hk, Option.some.injEq] at this
    subst this
    exact ⟨rfl, rfl, by decide +kernel⟩
  · have e2 : ((phase .ready true).members 0 0 0).map (fun m => match m.1.sent.getD m.2 none with
        | some k => k.value
        | none => groupIdentity 0 0) = [5#64] := by decide +kernel
    simp only [e2]
    exact List.Perm.refl _

/-! PostsAndWaits -/

theorem witness_post :
    let s := poise id (withPosts)
    let c := coachIn s
    let l := launchIn s
    let f := (n32 0 0 7)
    Issues s c l .post f
      ∧ ¬ postBreach l c (f.a ++ f.d)
      ∧ (c.act f ≠ 0) :=
  ⟨issues_of (by decide +kernel), (by unfold postBreach; decide +kernel), by decide +kernel⟩

theorem witness_post_bad :
    let s := poise id (withPosts)
    let c := coachIn s
    let l := launchIn s
    let f := (n32 0 255 254)
    Issues s c l .post f
      ∧ postBreach l c (f.a ++ f.d) :=
  ⟨issues_of (by decide +kernel), (by unfold postBreach; decide +kernel)⟩

theorem witness_migrate :
    let s := poise (fun c => { c with lastPost := some 7 }) (withPosts)
    let c := coachIn s
    let l := launchIn s
    let f := (n32 0 0 7)
    Issues s c l .migrate f
      ∧ ¬ postBreach l c (f.a ++ f.d)
      ∧ (c.act f ≠ 0 ∧ c.lastPost = some (f.a ++ f.d)) :=
  ⟨issues_of (by decide +kernel), (by unfold postBreach; decide +kernel), by decide +kernel⟩

theorem witness_migrate_alone :
    let s := poise id (withPosts)
    let c := coachIn s
    let l := launchIn s
    let f := (n32 0 0 7)
    Issues s c l .migrate f
      ∧ (c.lastPost ≠ some (f.a ++ f.d)) :=
  ⟨issues_of (by decide +kernel), by decide +kernel⟩

theorem witness_waitv :
    let s := poise (fun c => c.setP 6 farPtr) id
    let c := coachIn s
    let l := launchIn s
    let f := (n64 0 6 3 1 2)
    Issues s c l .waitv f
      ∧ (ptrFmt (c.pr f.a.toNat) = 5 ∧ c.act f ≠ 0 ∧ s.outstanding c = false)
      ∧ ((match s.loadElems l (awake c) f { lanes := false } 0 true
        [{ lane := 0, ptr := f.a.toNat, p := c.pr f.a.toNat, off := 0, size := 4, align := 4 }] with
      | .ok ([v], s1) => v == 0 && good (s1.loadElems l (awake c) f { lanes := false } 0 false
        [{ lane := 0, ptr := f.a.toNat, p := c.pr f.a.toNat, off := 0, size := 4, align := 4 }])
      | _ => false) = true)
      ∧ comparesX (f.k6.getLsbD 3) (f.k6.toNat % 8) (fmtToDWord 5 [] 0) (c.xr f.c.toNat) :=
  ⟨issues_of (by decide +kernel), by decide +kernel, by decide +kernel, (by unfold comparesX less; decide +kernel)⟩

theorem witness_waitv_waits :
    let s := poise (fun c => (c.setP 6 farPtr).setX 2 1) id
    let c := coachIn s
    let l := launchIn s
    let f := (n64 0 6 3 1 2)
    Issues s c l .waitv f
      ∧ (ptrFmt (c.pr f.a.toNat) = 5 ∧ c.act f ≠ 0 ∧ s.outstanding c = false)
      ∧ ((match s.loadElems l (awake c) f { lanes := false } 0 true
        [{ lane := 0, ptr := f.a.toNat, p := c.pr f.a.toNat, off := 0, size := 4, align := 4 }] with
      | .ok ([v], s1) => v == 0 && good (s1.loadElems l (awake c) f { lanes := false } 0 false
        [{ lane := 0, ptr := f.a.toNat, p := c.pr f.a.toNat, off := 0, size := 4, align := 4 }])
      | _ => false) = true)
      ∧ ¬ comparesX (f.k6.getLsbD 3) (f.k6.toNat % 8) (fmtToDWord 5 [] 0) (c.xr f.c.toNat) :=
  ⟨issues_of (by decide +kernel), by decide +kernel, by decide +kernel, (by unfold comparesX less; decide +kernel)⟩

theorem witness_waitv_over :
    let s := poise (fun c => { ((c.setP 6 farPtr).setX 2 1).setX 1 4 with wait := .waitv (n64 0 6 3 1 2) 3 }) (fun s => { s with time := 7 })
    let c := coachIn s
    let l := launchIn s
    let f := (n64 0 6 3 1 2)
    Issues s c l .waitv f
      ∧ (ptrFmt (c.pr f.a.toNat) = 5 ∧ c.act f ≠ 0 ∧ s.outstanding c = false)
      ∧ ((match s.loadElems l (awake c) f { lanes := false, answered := true } 0 true
        [{ lane := 0, ptr := f.a.toNat, p := c.pr f.a.toNat, off := 0, size := 4, align := 4 }] with
      | .ok ([v], s1) => v == 0 && good (s1.loadElems l (awake c) f { lanes := false, answered := true } 0 false
        [{ lane := 0, ptr := f.a.toNat, p := c.pr f.a.toNat, off := 0, size := 4, align := 4 }])
      | _ => false) = true)
      ∧ ¬ comparesX (f.k6.getLsbD 3) (f.k6.toNat % 8) (fmtToDWord 5 [] 0) (c.xr f.c.toNat)
      ∧ (c.wait = .waitv f 3 ∧ s.running c = true ∧ waitLimit c f ≠ 0 ∧ 3 + waitLimit c f ≤ s.time.toNat) :=
  ⟨issues_of (by decide +kernel), by decide +kernel, by decide +kernel, (by unfold comparesX less; decide +kernel), by decide +kernel⟩

theorem witness_waitv_still :
    let s := poise (fun c => { ((c.setP 6 farPtr).setX 2 1).setX 1 4 with wait := .waitv (n64 0 6 3 1 2) 3 }) (fun s => { s with time := 6 })
    let c := coachIn s
    let l := launchIn s
    let f := (n64 0 6 3 1 2)
    Issues s c l .waitv f
      ∧ (ptrFmt (c.pr f.a.toNat) = 5 ∧ c.act f ≠ 0 ∧ s.outstanding c = false)
      ∧ ((match s.loadElems l (awake c) f { lanes := false, answered := true } 0 true
        [{ lane := 0, ptr := f.a.toNat, p := c.pr f.a.toNat, off := 0, size := 4, align := 4 }] with
      | .ok ([v], s1) => v == 0 && good (s1.loadElems l (awake c) f { lanes := false, answered := true } 0 false
        [{ lane := 0, ptr := f.a.toNat, p := c.pr f.a.toNat, off := 0, size := 4, align := 4 }])
      | _ => false) = true)
      ∧ ¬ comparesX (f.k6.getLsbD 3) (f.k6.toNat % 8) (fmtToDWord 5 [] 0) (c.xr f.c.toNat)
      ∧ (c.wait = .waitv f 3 ∧ s.running c = true ∧ s.time.toNat < 3 + waitLimit c f) :=
  ⟨issues_of (by decide +kernel), by decide +kernel, by decide +kernel, (by unfold comparesX less; decide +kernel), by decide +kernel⟩

theorem witness_waitv_illegal :
    let s := poise (fun c => c.setP 6 (ptrMake 0x40010000 8 0x1000)) id
    let c := coachIn s
    let l := launchIn s
    let f := (n64 0 6 3 1 2)
    Issues s c l .waitv f
      ∧ (ptrWellFormed l.scopeMax (c.pr f.a.toNat) = true ∧ ptrFmt (c.pr f.a.toNat) = 8) :=
  ⟨issues_of (by decide +kernel), by decide +kernel⟩

theorem witness_waits_end : [Wait.sleep 3 4, Wait.fe (n32 0 6 4) [(standInCore, 0)]].all (fun w =>
    let s := poise (fun c => { c with wait := w }) (fun s => { s with time := 3, cycles := 6 })
    let c := coachIn s
    (s.coach? c.id) == some c && c.wait == w && s.running c) = true :=
  by decide +kernel

/-- A YIELD of the scalar slot that another issue has ended, and one that nothing has. -/
theorem witness_yield_ends :
    let y : Yielded := { vector := false, issued := 0, cycle := 9 }
    let s := poise (fun c => { c with yields := [y] }) (fun s => s.setCore { s.core standInCore with issued := 1 })
    yieldEnds s (coachIn s) y ∧ ¬ yieldEnds (poise id id) (coachIn (poise id id)) y := by
  refine ⟨.inl (by decide +kernel), ?_⟩
  rintro (h | ⟨h, -⟩)
  · revert h; decide +kernel
  · revert h; decide +kernel

theorem witness_fe_full : let s := poise id (fun s => s.setCore { s.core standInCore with full := [0] })
    s.isFull standInCore 0 = true ∧ s.isFull standInCore 1 = false :=
  by decide +kernel

/-! TrapEntry, SoftwareTraps, WorldAndReturn -/

/-- Where the coach waits for a trap, and the trap of SWTRAP 5. -/
def aTrap : Trap := { cls := 1, code := 5 }
def aSite (c : Coach) : TrapSite := { pce := c.pc, resume := c.pc + 4, act := c.cm, ilen := 4 }
theorem witness_handler :
    let s := poise id withPosts
    let c := coachIn s
    let l := launchIn s
    s.launch? c.id.q = some l ∧ ((1 ≤ aTrap.cls ∧ aTrap.cls ≤ 6) ∨ aTrap.cls = 8 ∨ aTrap.cls = 9)
      ∧ (l.posts.find? (fun p => p.id == 0xFFFE)).isSome
      ∧ (match s.ctxRead (l.party (some c.core)) (recordSlot l c + 16) 8 with
        | .ok bs => leNat bs / 2 ^ 17 % 2 == 0
        | .error _ => false) = true
      ∧ good (s.ctxWrite (l.party (some c.core)) (recordSlot l c) (recordOf s l c aTrap (aSite c) 0 1)) = true :=
  ⟨by decide +kernel, by decide +kernel, by decide +kernel, by decide +kernel, by decide +kernel⟩
/-- An active record slot of the coach, which resumes at its PC. -/
def active (s : State) : State :=
  let at_ := recordSlot standInLaunch (coachIn s)
  let m := Memory.writeBytes s.mem (at_ + 16) (natLe 8 (2 ^ 17))
  { s with mem := Memory.writeBytes m (at_ + 24) (natLe 8 (coachIn s).pc.toNat) }
theorem witness_terminal :
    let s := poise id (fun s => active (withPosts s))
    let c := coachIn s
    let l := launchIn s
    s.launch? c.id.q = some l ∧ l.sec = false ∧ l.terminal = none
      ∧ (match s.ctxRead (l.party (some c.core)) (recordSlot l c + 16) 8 with
        | .ok bs => leNat bs / 2 ^ 17 % 2 == 1
        | .error _ => false) = true :=
  ⟨by decide +kernel, by decide +kernel, by decide +kernel, by decide +kernel⟩
theorem witness_terminal_no_post :
    let s := poise id (fun s => { s with launches := s.launches.map (fun l => { l with sec := true }) })
    trapPostOf (launchIn s) = none ∧ (launchIn s).sec = true := by
  unfold trapPostOf; decide +kernel

theorem witness_trap :
    let s := poise id id
    let c := coachIn s
    let l := launchIn s
    let f := (n32 0 0 42)
    Issues s c l .trap f
      ∧ (c.act f ≠ 0) :=
  ⟨issues_of (by decide +kernel), by decide +kernel⟩

theorem witness_brk :
    let s := poise id id
    let c := coachIn s
    let l := launchIn s
    let f := (n32 0 0 42)
    Issues s c l .brk f
      ∧ (c.act f ≠ 0) :=
  ⟨issues_of (by decide +kernel), by decide +kernel⟩

theorem witness_haltc :
    let s := poise id id
    let c := coachIn s
    let l := launchIn s
    let f := (n32 0 9 0)
    Issues s c l .haltc f
      ∧ (c.act f ≠ 0) :=
  ⟨issues_of (by decide +kernel), by decide +kernel⟩

theorem witness_trap_none :
    let s := poise (fun c => { c with cm := 0 }) id
    let c := coachIn s
    let l := launchIn s
    let f := (n32 0 0 0)
    Issues s c l .trap f
      ∧ (c.act f = 0) :=
  ⟨issues_of (by decide +kernel), by decide +kernel⟩

theorem witness_brk_none :
    let s := poise (fun c => { c with cm := 0 }) id
    let c := coachIn s
    let l := launchIn s
    let f := (n32 0 0 0)
    Issues s c l .brk f
      ∧ (c.act f = 0) :=
  ⟨issues_of (by decide +kernel), by decide +kernel⟩

theorem witness_haltc_none :
    let s := poise (fun c => { c with cm := 0 }) id
    let c := coachIn s
    let l := launchIn s
    let f := (n32 0 0 0)
    Issues s c l .haltc f
      ∧ (c.act f = 0) :=
  ⟨issues_of (by decide +kernel), by decide +kernel⟩

theorem witness_undecoded : let s := poise id id
    let c := coachIn s
    s.current = some c ∧ (s.launch? c.id.q).isSome ∧ Op.ofCode ((0xCD : Word).toNat / 4 % 256) = none
      ∧ good (s.fetchWord (launchIn s) c (c.pc.toNat + 4)) = true ∧ good (s.fetch (launchIn s) c) = true :=
  by decide +kernel

theorem witness_unfetched : let s := poise (fun c => { c with pc := 0 }) id
    s.current = some (coachIn s) ∧ good (s.fetch (launchIn s) (coachIn s)) = false :=
  by decide +kernel

theorem witness_rft :
    let s := poise id (active)
    let c := coachIn s
    let l := launchIn s
    let f := (n32 0 0 0)
    Issues s c l .rft f
      ∧ (c.act f ≠ 0 ∧ c.suspended = none)
      ∧ ((match s.ctxRead (l.party (some c.core)) (recordSlot l c) 128 with
        | .ok bs => wordAt bs 16 / 2 ^ 17 % 2 == 1 && wordAt bs 96 % 2 ^ 32 == c.depth && wordAt bs 24 == c.pc.toNat
        | .error _ => false) = true)
      ∧ inImage l c c.pc
      ∧ (good (s.ctxWrite (l.party (some c.core)) (recordSlot l c + 16) (natLe 8 0)) = true) :=
  ⟨issues_of (by decide +kernel), by decide +kernel, by decide +kernel, (by unfold inImage; decide +kernel), by decide +kernel⟩

theorem witness_rft_idle :
    let s := poise id id
    let c := coachIn s
    let l := launchIn s
    let f := (n32 0 0 0)
    Issues s c l .rft f
      ∧ (c.act f ≠ 0)
      ∧ ((match s.ctxRead (l.party (some c.core)) (recordSlot l c) 128 with
        | .ok bs => wordAt bs 16 / 2 ^ 17 % 2 == 0 && wordAt bs 96 % 2 ^ 32 == c.depth
        | .error _ => false) = true) :=
  ⟨issues_of (by decide +kernel), by decide +kernel, by decide +kernel⟩

theorem witness_rft_unmapped :
    let s := poise id (fun s => { s with mem := Memory.writeBytes s.mem 0x40008 [0, 0, 0, 0] })
    let c := coachIn s
    let l := launchIn s
    let f := (n32 0 0 0)
    Issues s c l .rft f
      ∧ (good (s.ctxRead (l.party (some c.core)) (recordSlot l c) 128) = false) :=
  ⟨issues_of (by decide +kernel), by decide +kernel⟩

theorem witness_swcall :
    let s := poise id id
    let c := coachIn s
    let l := launchIn s
    let f := (n32 0 0 7)
    Issues s c l .swcall f
      ∧ (c.act f ≠ 0 ∧ s.outstanding c = false) :=
  ⟨issues_of (by decide +kernel), by decide +kernel⟩

theorem witness_swcall_behind :
    let s := poise id (fun s => { s with requests := [{ tag := 1, coach := standInId, kind := 1, key := 0, count := 4, limit := none, held := false }] })
    let c := coachIn s
    let l := launchIn s
    let f := (n32 0 0 7)
    Issues s c l .swcall f
      ∧ (c.act f ≠ 0 ∧ s.outstanding c = true) :=
  ⟨issues_of (by decide +kernel), by decide +kernel⟩

theorem witness_swcall_return : let s := poise (fun c => { c with wait := .swcall 7 }) id
    s.coach? (coachIn s).id = some (coachIn s) ∧ (coachIn s).wait = .swcall 7 :=
  by decide +kernel

/-! Invalidations, LaunchPublishes, SaveAndRestore, RecordRoundTrip -/

theorem witness_tlbi :
    let s := poise id id
    let c := coachIn s
    let l := launchIn s
    let f := (n32 1 0 0)
    Issues s c l .tlbi f
      ∧ (c.act f ≠ 0 ∧ s.outstanding c = false) :=
  ⟨issues_of (by decide +kernel), by decide +kernel⟩

theorem witness_tlbi_world :
    let s := poise id id
    let c := coachIn s
    let l := launchIn s
    let f := (n32 2 0 0)
    Issues s c l .tlbi f
      ∧ (l.sec = false) :=
  ⟨issues_of (by decide +kernel), by decide +kernel⟩

theorem witness_icinv :
    let s := poise id id
    let c := coachIn s
    let l := launchIn s
    let f := (n64 0 1 0 2 255)
    Issues s c l .icinv f
      ∧ (c.act f ≠ 0 ∧ s.outstanding c = false) :=
  ⟨issues_of (by decide +kernel), by decide +kernel⟩

theorem witness_cstatrc :
    let s := poise id id
    let c := coachIn s
    let l := launchIn s
    let f := (n32 7 0 3)
    Issues s c l .cstatrc f
      ∧ (c.act f ≠ 0 ∧ s.outstanding c = false) :=
  ⟨issues_of (by decide +kernel), by decide +kernel⟩

theorem witness_launch :
    let s := poise (fun c => c.setP 6 (ptrMake 0x40010000 0 0x1000)) (fun s => s.setQueue 0 { s.queue 0 with qbase := 0x60000, qpub := 0x61000, qcfg := 0x101 })
    let c := coachIn s
    let l := launchIn s
    let f := (n64 0 6 3 255 255)
    Issues s c l .launch f
      ∧ (c.act f ≠ 0)
      ∧ ((match s.loadElems l (awake c) f { lanes := false } 0 false
        [{ lane := 0, ptr := f.a.toNat, p := c.pr f.a.toNat, off := 0, size := 128, align := 256 },
         { lane := 0, ptr := f.a.toNat, p := c.pr f.a.toNat, off := 128, size := 128, align := 128 }] with
      | .ok ([_, _], s1) => !s1.outstanding c && (match s1.enterQueue (.coreReeve c.core) (c.id, c.pc) with
        | some s2 => !s2.queueAddrBad (s1.queue 0) && (s1.queue 0).enabled && decide (s2.read8 (s1.queue 0).qpub.toNat < (s1.queue 0).qcons.toNat + (s1.queue 0).size)
        | none => false)
      | _ => false) = true) :=
  ⟨issues_of (by decide +kernel), by decide +kernel, by decide +kernel⟩

theorem witness_launch_full :
    let s := poise (fun c => c.setP 6 (ptrMake 0x40010000 0 0x1000)) (fun s => { s.setQueue 0 { s.queue 0 with qbase := 0x60000, qpub := 0x61000, qcfg := 0x101 } with mem := Memory.writeBytes s.mem 0x61000 [2] })
    let c := coachIn s
    let l := launchIn s
    let f := (n64 0 6 3 255 255)
    Issues s c l .launch f
      ∧ (c.act f ≠ 0)
      ∧ ((match s.loadElems l (awake c) f { lanes := false } 0 false
        [{ lane := 0, ptr := f.a.toNat, p := c.pr f.a.toNat, off := 0, size := 128, align := 256 },
         { lane := 0, ptr := f.a.toNat, p := c.pr f.a.toNat, off := 128, size := 128, align := 128 }] with
      | .ok ([_, _], s1) => !s1.outstanding c && (match s1.enterQueue (.coreReeve c.core) (c.id, c.pc) with
        | some s2 => !s2.queueAddrBad (s1.queue 0) && (s1.queue 0).enabled && decide ((s1.queue 0).qcons.toNat + (s1.queue 0).size ≤ s2.read8 (s1.queue 0).qpub.toNat)
        | none => false)
      | _ => false) = true) :=
  ⟨issues_of (by decide +kernel), by decide +kernel, by decide +kernel⟩

theorem witness_launch_off :
    let s := poise (fun c => c.setP 6 (ptrMake 0x40010000 0 0x1000)) id
    let c := coachIn s
    let l := launchIn s
    let f := (n64 0 6 3 255 255)
    Issues s c l .launch f
      ∧ (c.act f ≠ 0)
      ∧ ((match s.loadElems l (awake c) f { lanes := false } 0 false
        [{ lane := 0, ptr := f.a.toNat, p := c.pr f.a.toNat, off := 0, size := 128, align := 256 },
         { lane := 0, ptr := f.a.toNat, p := c.pr f.a.toNat, off := 128, size := 128, align := 128 }] with
      | .ok ([_, _], s1) => !s1.outstanding c && (match s1.enterQueue (.coreReeve c.core) (c.id, c.pc) with
        | some s2 => !s2.queueAddrBad (s1.queue 0) && !(s1.queue 0).enabled
        | none => false)
      | _ => false) = true) :=
  ⟨issues_of (by decide +kernel), by decide +kernel, by decide +kernel⟩

theorem witness_launch_secure :
    let s := poise id (fun s => s.setQueue 0 { s.queue 0 with qcfg := 0x181 })
    let c := coachIn s
    let l := launchIn s
    let f := (n64 0 6 3 255 255)
    Issues s c l .launch f
      ∧ (l.sec = false ∧ (s.queue 0).secure = true) :=
  ⟨issues_of (by decide +kernel), by decide +kernel⟩

theorem witness_savec :
    let s := poise (fun c => { (c.setP 6 (ptrMake 0x40010000 0 0x20000)) with x := c.x.take 4, v := [.u 7], p := [0, 0, 0, 0, 0, 0, ptrMake 0x40010000 0 0x20000], str := [] }) id
    let c := coachIn s
    let l := launchIn s
    let f := (n32 0 6 3)
    Issues s c l .savec f
      ∧ (c.depth ≤ 16 ∧ c.act f ≠ 0 ∧ s.coachPoisoned c.id = false)
      ∧ recordPointer (c.pr f.a.toNat)
      ∧ ((savedRecord s c f.d.toNat).length ≤ ptrLen (c.pr f.a.toNat))
      ∧ (good (s.writeRange l (awake c) f.a.toNat (savedRecord s c f.d.toNat)) = true) :=
  ⟨issues_of (by decide +kernel), by decide +kernel, (by unfold recordPointer; decide +kernel), by decide +kernel, by decide +kernel⟩

theorem witness_savec_short :
    let s := poise (fun c => { (c.setP 6 (ptrMake 0x40010000 0 0x100)) with x := c.x.take 4, v := [.u 7], p := [0, 0, 0, 0, 0, 0, ptrMake 0x40010000 0 0x100], str := [] }) id
    let c := coachIn s
    let l := launchIn s
    let f := (n32 0 6 3)
    Issues s c l .savec f
      ∧ (c.depth ≤ 16 ∧ ptrLen (c.pr f.a.toNat) < (savedRecord s c f.d.toNat).length)
      ∧ recordPointer (c.pr f.a.toNat) :=
  ⟨issues_of (by decide +kernel), by decide +kernel, (by unfold recordPointer; decide +kernel)⟩

theorem witness_savec_format :
    let s := poise (fun c => c.setP 6 farPtr) id
    let c := coachIn s
    let l := launchIn s
    let f := (n32 0 6 3)
    Issues s c l .savec f
      ∧ ¬ recordPointer (c.pr f.a.toNat) :=
  ⟨issues_of (by decide +kernel), (by unfold recordPointer; decide +kernel)⟩

theorem witness_savec_deep :
    let s := poise (fun c => { c with depth := 17 }) id
    let c := coachIn s
    let l := launchIn s
    let f := (n32 0 6 3)
    Issues s c l .savec f
      ∧ (16 < c.depth) :=
  ⟨issues_of (by decide +kernel), by decide +kernel⟩

theorem witness_restc :
    let s := poise (fun c => { (c.setP 6 (ptrMake 0x40010000 0 0x20000)) with x := c.x.take 4, v := [.u 7], p := [0, 0, 0, 0, 0, 0, ptrMake 0x40010000 0 0x20000], str := [] }) id
    let c := coachIn s
    let l := launchIn s
    let f := (n32 0 6 0)
    Issues s c l .restc f
      ∧ (c.depth ≤ 16 ∧ 832 ≤ ptrLen (c.pr f.a.toNat) ∧ c.act f ≠ 0)
      ∧ recordPointer (c.pr f.a.toNat)
      ∧ ((match s.readRange l (awake c) f f.a.toNat 832 with
      | .ok (head, s1) =>
        let size := recordBodySize c.x.length c.p.length c.str.length c.width (recordTags head c.v.length)
        decide (size + 2336 ≤ ptrLen (c.pr f.a.toNat))
          && !(countBad head || headBad head || tagBad head) && good (s1.readRange l (awake c) f f.a.toNat size)
      | .error _ => false) = true) :=
  ⟨issues_of (by decide +kernel), by decide +kernel, (by unfold recordPointer; decide +kernel), by decide +kernel⟩

theorem witness_restc_bad :
    let s := poise (fun c => { (c.setP 6 (ptrMake 0x40010000 0 0x20000)) with x := c.x.take 4, v := [.u 7], p := [0, 0, 0, 0, 0, 0, ptrMake 0x40010000 0 0x20000], str := [] }) (fun s => { s with mem := Memory.writeBytes s.mem 0x40010060 [31] })
    let c := coachIn s
    let l := launchIn s
    let f := (n32 0 6 0)
    Issues s c l .restc f
      ∧ ((match s.readRange l (awake c) f f.a.toNat 832 with
      | .ok (head, s1) =>
        let size := recordBodySize c.x.length c.p.length c.str.length c.width (recordTags head c.v.length)
        decide (size + 2336 ≤ ptrLen (c.pr f.a.toNat))
          && (countBad head || headBad head || tagBad head) && good (s1.readRange l (awake c) f f.a.toNat size)
      | .error _ => false) = true) :=
  ⟨issues_of (by decide +kernel), by decide +kernel⟩

/-- A coach with few registers. -/
def slight (c : Coach) : Coach :=
  { c with
    x := [1, 2], v := [.u 7], p := [farPtr], str := [], cm := 3, ex := 0, stack := [], al := [0, 0, 0, 0]
    m := [0, 0, 0, 0, 0, 0, 0, 1], width := 64 }
theorem slight_recordable (c : Coach) :
    recordable (slight c) ∧ (slight c).p.length ≤ 128 ∧ (slight c).str.length ≤ 64 := by
  unfold recordable
  simp only [slight, List.length_cons, List.length_nil]
  have all (xs : List DWord) (h : xs.all (fun w => w &&& lowMask 64 == w) = true) : ∀ w ∈ xs, w &&& lowMask 64 = w :=
    fun w hw => by simpa using List.all_eq_true.mp h w hw
  exact ⟨⟨by omega, by omega, trivial, trivial, by omega, by omega, by simp, by simp, by decide +kernel,
    by decide +kernel, all _ (by decide +kernel), all _ (by decide +kernel)⟩, by omega, by omega⟩
theorem witness_record :
    let c := slight (coachIn (poise id id))
    recordable c ∧ c.p.length ≤ 128 ∧ c.str.length ≤ 64 :=
  slight_recordable _

/-! HostWrites, LaunchLife, GangLife, SendersAndWatchdog -/

theorem up_of {s : State} (h : (s.powered && s.booted) = true) : up s := by
  simpa [up] using h

/-- The words `ws` at Lunath address `a`. -/
def wordsAt (a : Nat) (ws : List DWord) (m : List Host.Cell) : List Host.Cell :=
  Memory.writeBytes m a (ws.flatMap (fun w => natLe 8 w.toNat))

/-- Queue 0 enabled with two places, one waybill published, a context 0 and the stand-in kernel. -/
def queued (ws : List DWord) : State :=
  let s := State.reset.withProgram []
  { s with
    launches := [], gangs := [], crews := [], coaches := []
    window := { s.window with ctxbase := 0x100001 }
    queues := s.queues.set 0 { qbase := 0x60000, qcfg := 0x101, qpub := 0x61000, qcons := 0, err := false, seen := 1 }
    mem := wordsAt 0x40000000 standInHeader (wordsAt 0x60000 ws (wordsAt 0x61000 [1] (wordsAt 0x100000 [0x20001] s.mem))) }

/-- What the scheduler finds when it takes the waybill: the status of a rejection. -/
def taken (s : State) : Option Nat :=
  let u := s.queue 0
  let ws := wordsOf (Memory.readBytes s.mem (u.qbase.toNat + 256 * (u.qcons.toNat % u.size)) 256)
  let s1 := s.setQueue 0 { u with qcons := u.qcons + 1 }
  match s1.checkLaunch (s1.newLaunch 0 ws) with
  | .ok l => if s1.tooLarge l then some 3 else none
  | .error n => some n

theorem witness_taken :
    (queued standInWaybill).mayTake 0 = true ∧ noStash (queued standInWaybill) ∧ taken (queued standInWaybill) = none
      ∧ taken (queued (List.replicate 32 0)) = some 1 :=
  ⟨by decide +kernel, noStash_of (by decide +kernel), by decide +kernel, by decide +kernel⟩

theorem witness_host_writes :
    let s := queued standInWaybill
    up s ∧ noStash s ∧ Memory.wf s.mem = true ∧ s.queueAddrBad (s.queue 0) = false
      ∧ s.dieLost (homeDie (s.queue 0).qpub.toNat) = false ∧ (s.queue 0).secure = false ∧ (s.queue 0).enabled = true
      ∧ s.queues.length = 64 ∧ (s.queue 1).enabled = false :=
  ⟨up_of (by decide +kernel), noStash_of (by decide +kernel), by decide +kernel, by decide +kernel, by decide +kernel,
    by decide +kernel, by decide +kernel, by decide +kernel, by decide +kernel⟩

/-- The stand-in launch changed by `g`, with nothing placed. -/
def unplaced (g : Launch → Launch) : State :=
  let s := queued standInWaybill
  { s with launches := [g standInLaunch], crews := [], coaches := [] }

theorem witness_launch_start :
    (unplaced (fun l => { l with phase := .taken })).launches.all (fun l =>
      l.phase == .taken && l.terminal.isNone && decide (l.minDie ≤ (unplaced id).healthy.length)) = true := by
  decide +kernel
theorem witness_place_gang :
    ((unplaced (fun l => { l with nextGang := 0 })).placement { standInLaunch with nextGang := 0 }).isSome
      ∧ (unplaced id).placement standInLaunch = none := by decide +kernel
theorem witness_prefetch :
    (unplaced id).prefetchDue { standInLaunch with nextReady := true } = true ∧ (unplaced id).prefetchDue standInLaunch = false
      ∧ (State.reset.withProgram []).prefetchDue standInLaunch = false := by
  decide +kernel
theorem witness_step_retire :
    standInLaunch.phase = .running ∧ standInLaunch.terminal = none ∧ standInLaunch.gangCount ≤ standInLaunch.nextGang
      ∧ standInLaunch.steps ≤ standInLaunch.step + 1 ∧ (unplaced id).gangs = []
      ∧ (unplaced (fun l => { l with waybill := l.waybill.set 2 0x0000000101100000 })).launches.all
        (fun l => decide (l.step + 1 < l.steps)) = true := by decide +kernel
theorem witness_completion :
    let s := unplaced (fun l => { l with phase := .ending })
    8 ∣ standInLaunch.done
      ∧ good (s.ctxWrite (standInLaunch.party none) standInLaunch.done (natLe 8 (completion standInLaunch 0))) = true
      ∧ good ({ s with mem := [] }.ctxWrite (standInLaunch.party none) standInLaunch.done
          (natLe 8 (completion standInLaunch 0))) = false := by decide +kernel
theorem witness_discard :
    let l := { standInLaunch with terminal := some { status := 4, record := some (List.replicate 128 1) } }
    let s := poise id (fun s => { s with launches := [l] })
    l.terminal.isSome ∧ (match (s.dropGangs 0).ctxWrite (l.party none) l.fa (List.replicate 128 1) with
      | .ok s1 => good (s1.ctxWrite (l.party none) l.done (natLe 8 (completion l 4)))
      | .error _ => false) = true := by decide +kernel

theorem witness_preempt_request :
    (queued []).booted = true ∧ (0x100 : DWord).getLsbD 8 = true ∧ (queued []).window.preemptGo = false := by
  decide +kernel

/-- A launch of a lower level on every wain core, and one that has waited 64 ticks. -/
def stopped : State := { poise id id with gangs := [{ standInGang with status := .stopping }] }
theorem witness_save :
    (stopped.gang? 0 0).map (·.status) = some .stopping ∧ stopped.gangDrained 0 0 = true
      ∧ (stopped.gangCoach 0 0).isSome ∧ stopped.saveTrap 0 0 = none := by decide +kernel
theorem witness_save_poisoned :
    ({ stopped with poison := [.register standInId .x 0] }.saveTrap 0 0).isSome := by decide +kernel

/-! GangLife: clearing, resuming, migrating -/

/-- A launch of a higher level whose 28-crew gang has waited 64 ticks for the only cluster that could take it. -/
def waitingLaunch : Launch :=
  { standInLaunch with
    q := 1, waybill := (standInWaybill.set 2 0x0110001B).set 3 0x0000000800100000, nextGang := 0 }
def crowded : State :=
  let s := State.reset.withProgram []
  { s with
    time := 64, launches := [standInLaunch, waitingLaunch], queues := s.queues.set 1 { Queue.reset with qcfg := 0x151 }
    steward := { s.steward with withdrawn := (List.range 5).map (fun i => ⟨0, BitVec.ofNat 3 (i + 1), 0⟩) } }
theorem witness_clearing :
    ((crowded.waiting waitingLaunch).find? (fun n => n.gang == 0)).all (fun n =>
      (crowded.priorityClearing waitingLaunch n).isSome) = true
      ∧ ((crowded.waiting waitingLaunch).find? (fun n => n.gang == 0)).isSome
      ∧ ({ crowded with time := 63 }.waiting waitingLaunch).all (fun n =>
        ({ crowded with time := 63 }.priorityClearing waitingLaunch n).isNone) = true := by decide +kernel

/-- The stand-in launch with few registers and little scratch. -/
def slightLaunch : Launch :=
  { standInLaunch with header := standInHeader.set 4 0x204, waybill := standInWaybill.set 3 0x10 }
/-- The stand-in gang, saved: its slot is valid. -/
def savedGang : Gang :=
  { standInGang with status := .saved, side := [{ coach := coachIn (poise id id), commands := [] }] }
def resuming (head : List Byte) : State :=
  let s := State.reset.withProgram []
  { s with
    launches := [slightLaunch], gangs := [savedGang], crews := [], coaches := []
    mem := Memory.writeBytes s.mem (slightLaunch.saveAt 0) head }
theorem witness_resume :
    let s := resuming [1]
    let l := slightLaunch
    (s.resumption l savedGang).isSome ∧ savedGang.sideCoach.isSome
      ∧ (l.slotParts.findSome? (fun q => s.readFails (l.party none) (l.saveAt 0 + q.1) q.2)).isNone = true := by
  decide +kernel
theorem witness_resume_reason :
    let s := resuming [1]
    let l := slightLaunch
    let head := s.slotBytes (l.party none) (l.saveAt 0) 2048
    let side := savedGang.side.map (fun d => (l.recordAt d.coach.id.crew d.coach.id.coach,
      s.slotBytes (l.party none) (l.saveAt 0 + l.recordAt d.coach.id.crew d.coach.id.coach) 832))
    (l.slotReason savedGang head side).isNone = true := by decide +kernel
theorem witness_resume_invalid :
    let s := resuming []
    let l := slightLaunch
    l.slotReason savedGang (s.slotBytes (l.party none) (l.saveAt 0) 2048) [] = some (l.saveAt 0, 1) := by decide +kernel
theorem witness_no_resume : ({ resuming [1] with launches := [{ slightLaunch with preempting := true }] }.resumption
    { slightLaunch with preempting := true } savedGang) = none := by decide +kernel

/-- The stand-in coach waits at a MIGRATE. -/
def migrateState (two : Bool) : State :=
  poise (fun c => { c with wait := .migrate 7, lastPost := some 7 }) (fun s => { s with launches := [{ standInLaunch with
    posts := [aPost 7]
    waybill := if two then standInWaybill.set 2 0x01100400 else standInWaybill
    header := if two then (standInHeader.set 0 0x0000001C0002DA3E).set 2 0x0001000000000100 else standInHeader }] })
theorem witness_migrate_declined :
    let s := migrateState false
    (match s.gang? 0 0, s.migrating 0 0 with
      | some g, some ws => g.status == .resident && (s.coaches.map (·.id)) == [standInId]
          && (match s.migrateAnswer (launchIn s) g ws with
            | .error n => n == 2
            | .ok _ => false)
      | _, _ => false) = true := by decide +kernel
theorem witness_migrate_granted :
    let s := migrateState true
    (match s.gang? 0 0, s.migrating 0 0 with
      | some g, some ws => good (s.migrateAnswer (launchIn s) g ws)
      | _, _ => false) = true := by decide +kernel

/-! SendersAndWatchdog -/

/-- The coach-to-memory sender of the core with an entry of the coach, NACKed since tick 0. -/
def nacked (n : Nat) (b : Option Nat) (s : State) : State :=
  { s with senders := [{ id := .coachMemory standInCore, entries := [some (standInId, 0x40000100)]
                         last := none, nacks := n, since := 0, backoff := b, packets := [] }] }
theorem witness_entry :
    let s := nacked 0 none (poise id id)
    let k := s.sender (.coachMemory standInCore)
    up s ∧ k.backoff = none ∧ k.entries = [some (standInId, 0x40000100)] :=
  ⟨up_of (by decide +kernel), by decide +kernel, by decide +kernel⟩
/-- The last entry accepted is NACKed after all. -/
theorem witness_last_entry :
    let s : State := { poise id id with senders := [{ id := .coachMemory standInCore, entries := []
                                                      last := some (standInId, 0x40000100), nacks := 0, since := 0
                                                      backoff := none, packets := [] }] }
    let k := s.sender (.coachMemory standInCore)
    up s ∧ k.backoff = none ∧ k.entries = [] ∧ k.last = some (standInId, 0x40000100) :=
  ⟨up_of (by decide +kernel), by decide +kernel, by decide +kernel, by decide +kernel⟩
theorem witness_backoff :
    ((nacked 1 (some 9) (poise id (fun s => { s with cycles := 9 }))).sender (.coachMemory standInCore)).backoff = some 9 := by
  decide +kernel
theorem witness_exhausted :
    let s := nacked 3 none (poise id (fun s => { s with time := BitVec.ofNat 64 Config.replayLimit }))
    let k := s.sender (.coachMemory standInCore)
    k.entries.head? = some (some (standInId, 0x40000100)) ∧ senderJoin k.id = some 0 ∧ 0 < k.nacks
      ∧ k.since + Config.replayLimit ≤ s.time.toNat ∧ (s.coach? standInId).isSome ∧ (s.launch? standInId.q).isSome
      ∧ (launchIn s).terminal = none := by decide +kernel
theorem witness_watchdog :
    [Wait.ready, .waitv (n64 0 6 3 1 2) 0, .migrate 7, .window 2, .engine true, .swcall 3].all (fun w =>
      let s := poise (fun c => { c with wait := w, wdc := 0x01A13B86 }) id
      s.coach? (coachIn s).id == some (coachIn s) && (s.launch? (coachIn s).id.q).isSome && s.watchdogDue (coachIn s)
        && (coachIn s).wait == w) = true := by decide +kernel
theorem witness_not_due :
    (poise id id).watchdogDue (coachIn (poise id id)) = false := by decide +kernel

/-! OutsideRequests, PackageEvents -/

/-- A packet of context 0 for the line of the pointer `farPtr`. -/
def aPacket : Packet :=
  { be := 15, dst := 0, src := 3, op := 0, sync := 0, sec := false, tag := 1, fctx := 0, dl := 9, aop := 0, aw := 0
    line := 0x800200, data := List.replicate 128 1 }
theorem witness_packet :
    let s := queued []
    up s ∧ noStash s ∧ Memory.wf s.mem = true ∧ good (s.packetLine aPacket false) = true
      ∧ good (s.packetLine aPacket true) = true ∧ aPacket.data.length = 128 :=
  ⟨up_of (by decide +kernel), noStash_of (by decide +kernel), by decide +kernel, by decide +kernel, by decide +kernel,
    by decide +kernel⟩
/-- A packet in the window of die 0 at tick `now`: it can pass at tick 0, is late at tick 20, and is held back while the
die's link retrains. -/
def departing (now : Nat) (ls : List Link) : State :=
  { queued [] with
    time := BitVec.ofNat 64 now, links := ls
    senders := [{ id := .dieFabric 0, entries := [some (standInId, 0x40000100)], last := none, nacks := 0, since := 0
                  backoff := none, packets := [aPacket] }] }
theorem witness_departure :
    let s := departing 0 []
    let k := s.sender (.dieFabric 0)
    up s ∧ k.backoff = none ∧ k.packets = [aPacket] ∧ ¬ late s aPacket ∧ mayPass s (.dieFabric 0) aPacket
      ∧ late (departing 20 []) aPacket
      ∧ ¬ mayPass (departing 0 [{ id := .die 0, width := 0, retraining := true, failed := 0 }]) (.dieFabric 0) aPacket :=
  ⟨up_of (by decide +kernel), by decide +kernel, by decide +kernel, by unfold late portUp portFor; decide +kernel,
    by unfold mayPass linkOpen portUp windowOpen portFor; decide +kernel, by unfold late portUp portFor; decide +kernel,
    by unfold mayPass linkOpen portUp windowOpen portFor; decide +kernel⟩
/-- The same packet in its port's window; a response in that of a port that is down. -/
def atPort (now : Nat) (op down : Nat) : State :=
  { queued [] with
    time := BitVec.ofNat 64 now, steward := { (queued []).steward with portsDown := BitVec.ofNat 16 down }
    senders := [{ id := .port 0, entries := [none], last := none, nacks := 0, since := 0, backoff := none
                  packets := [{ aPacket with op := BitVec.ofNat 4 op }] }] }
theorem witness_port_departure :
    up (atPort 0 0 0) ∧ portFor (atPort 0 0 0) aPacket = 0 ∧ ¬ late (atPort 0 0 0) aPacket ∧ mayPass (atPort 0 0 0) (.port 0) aPacket
      ∧ ¬ mayPass (atPort 0 0 1) (.port 0) aPacket
      ∧ ¬ late (atPort 20 3 0) { aPacket with op := 3 } ∧ late (atPort 20 3 1) { aPacket with op := 3 } :=
  ⟨up_of (by decide +kernel), by unfold portFor; decide +kernel, by unfold late portUp portFor; decide +kernel,
    by unfold mayPass linkOpen portUp; decide +kernel, by unfold mayPass linkOpen portUp; decide +kernel,
    by unfold late portUp portFor; decide +kernel, by unfold late portUp portFor; decide +kernel⟩
/-- A reeve's entry crosses the link of its core's die. -/
theorem witness_reeve_way :
    linkOpen (queued []) (.die standInCore.die)
      ∧ ¬ linkOpen (departing 0 [{ id := .die 0, width := 0, retraining := true, failed := 0 }]) (.die standInCore.die) := by
  unfold linkOpen; decide +kernel
theorem witness_port_world :
    let s := queued []
    s.steward.securePorts.getLsbD (portFor s aPacket).toNat = aPacket.sec
      ∧ s.steward.securePorts.getLsbD (portFor s aPacket).toNat ≠ { aPacket with sec := true }.sec := by
  unfold portFor; decide +kernel
theorem witness_packet_dropped :
    good ((queued []).packetLine { aPacket with fctx := 1 } true) = false
      ∧ good ((queued []).packetLine { aPacket with fctx := 1 } false) = false := by decide +kernel

/-- A read, and a write to the host, that the coach waits for. -/
def asking (limit : Option Nat) (kind : Nat) : State :=
  poise (fun c => { c with wait := .remote }) (fun s => { s with
    requests := [{ tag := 1, coach := standInId, kind := kind, key := 0, count := 4, limit := limit, held := false }] })
theorem witness_response : [0, 1, 2].all (fun kind =>
    let s := asking (some 100) kind
    s.powered && s.booted && (s.coach? standInId).isSome && (s.requests.find? (fun r => r.tag == 1
      && (match r.limit with
        | some t => true && decide (s.time.toNat < t)
        | none => !true))).isSome) = true := by decide +kernel
/-- The launch's word waits while a request of one of its coaches is outstanding. -/
theorem witness_completion_waits :
    (asking (some 100) 1).requests.map (·.coach.q) = [0] ∧ (unplaced id).requests = [] := by decide +kernel
theorem witness_host_response : ((asking none 0).requests.find? (fun r => r.tag == 1
    && (match r.limit with
      | some t => false && decide ((asking none 0).time.toNat < t)
      | none => !false))).isSome = true := by decide +kernel
theorem witness_timed_out :
    (asking (some 0) 0).requests.all (fun r => r.limit == some 0 && r.tag == 1) = true
      ∧ (asking (some 0) 0).time = 0 ∧ (asking (some 0) 0).requests.map (·.tag) ≠ [2] := by decide +kernel

theorem witness_bar2 :
    let s := queued []
    up s ∧ noStash s ∧ Memory.wf s.mem = true ∧ reachable s 0x61000 8 ∧ s.hostBreach (2 ^ 40) 8 = false
      ∧ (∀ j, j < 8 → s.tdiesAt (0x61000 + j) = none) := by
  refine ⟨up_of (by decide +kernel), noStash_of (by decide +kernel), by decide +kernel, ⟨by decide, ?_⟩,
    by decide +kernel, fun j hj => ?_⟩
  · intro l h1 h2
    have h : l = 0xC20 := by omega
    subst h
    decide +kernel
  · have h : (List.range 8).all (fun j => ((queued []).tdiesAt (0x61000 + j)).isNone) = true := by decide +kernel
    exact Option.isNone_iff_eq_none.mp (List.all_eq_true.mp h j (List.mem_range.mpr hj))
theorem witness_bar2_breach :
    { queued [] with steward := { Steward.reset with secureRegions := 1 } }.hostBreach 0x61000 8 = true := by
  decide +kernel

theorem witness_blocks :
    let s := queued []
    up s ∧ s.dieLost 3 = false ∧ s.steward.portsDown.getLsbD 2 = false
      ∧ ({ s with steward := { s.steward with portsDown := 4 } }.nextPort 2).isSome
      ∧ { s with steward := { s.steward with portsDown := 4 } }.portOf 2 = 2 ∧ s.steward.planes.length = 16
      ∧ { s with steward := { s.steward with portsDown := 0xFFFF } }.nextPort 2 = none
      ∧ { s with steward := { s.steward with healthyDies := 0xF7 } }.dieLost 3 = true :=
  ⟨up_of (by decide +kernel), by decide +kernel, by decide +kernel, by decide +kernel, by decide +kernel,
    by decide +kernel, by decide +kernel, by decide +kernel⟩
theorem witness_withdrawn :
    let s := poise id id
    up s ∧ (s.launches.map (·.q)).Nodup ∧ s.crews.map (fun w => (w.q, w.core)) = [(0, standInCore)]
      ∧ (launchIn s).terminal = none ∧ (launchIn s).dies.getLsbD 0 = true :=
  ⟨up_of (by decide +kernel), by decide +kernel, by decide +kernel, by decide +kernel, by decide +kernel⟩
theorem witness_links :
    let s (r : Bool) (w f : Nat) : State := { queued [] with links := [{ id := .die 2, width := w, retraining := r, failed := f }] }
    (s false 1 0).link (.die 2) = { id := .die 2, width := 1, retraining := false, failed := 0 }
      ∧ ((s true 1 2).link (.die 2)).failed = 2 ∧ ((s true 1 1).link (.die 2)).retraining = true
      ∧ ((s false 2 0).link (.die 2)).width = 2 ∧ ((queued []).die 2).id = 2 ∧ (queued []).dieLost 2 = false := by
  decide +kernel
theorem witness_patrol :
    { queued [] with poison := [.line 3] }.poison = [Poison.line 3] ∧ 2 * (homeDie (128 * 3)).toNat + 3 / 2 % 2 = 1 := by
  decide +kernel
theorem witness_held_plane :
    (departing 0 []).senders.any (fun k => k.packets.any (fun x => x.line.toNat % 16 == 0)) = true := by decide +kernel
theorem witness_errors :
    ErrorPlace.poison (.memoryLine 7) = some (.line 7) ∧ (queued []).stackPoisoned 0 = false
      ∧ (queued []).launches = [] ∧ (queued []).requests = [] ∧ (queued []).crews = []
      ∧ { poise id id with requests := [] }.blockIdle (.region 0) = false := by decide +kernel
theorem witness_scrub :
    let s : State := { queued [] with dies := (queued []).dies.map (fun d : Die => { d with dt := 0x5000 }) }
    let x := s.stamp 0
    homeDie 0 = 0 ∧ x.line = 0 ∧ Claims.rebased (s.die 0).dt x.rts = 0x1000 ∧ x.rts = 0 := by
  unfold Claims.rebased; decide +kernel

/-! ### Further hypotheses: requests in flight, spilled entries, other packages, lost dies -/

/-- One read of the stand-in coach is in flight; it issues. -/
def outstanding (g : Coach → Coach) : State :=
  poise g (fun s => { s with
    requests := [{ tag := 1, coach := standInId, kind := 0, key := 0, count := 4, limit := none, held := false }] })
theorem witness_outstanding :
    let s := outstanding id
    let c := coachIn s
    let l := launchIn s
    s.outstanding c = true ∧ Issues s c l .exit (n32 0 0 0) ∧ c.act (n32 0 0 0) ≠ 0
      ∧ Issues s c l .gbar (n32 0 0 0) ∧ c.slotValid 0 = true
      ∧ Issues s c l .reduce { n64 0 8 7 255 255 with x31 := true } ∧ ¬ fenceOpen s c { n64 0 8 7 255 255 with x31 := true } :=
  ⟨by decide +kernel, issues_of (by decide +kernel), by decide +kernel, issues_of (by decide +kernel), by decide +kernel,
    issues_of (by decide +kernel), by unfold fenceOpen; decide +kernel⟩
theorem witness_pop_waits :
    let s := outstanding (fun c => { c with rpc := c.pc })
    let c := coachIn s
    s.ready c = true ∧ mustReconverge c ∧ c.stack = [] ∧ c.grid = none ∧ s.outstanding c = true := by
  unfold mustReconverge; decide +kernel
/-- A held entry whose phase is complete, with the result of its GRED. -/
theorem witness_pop_held :
    let e : Entry := { elsewhere with kind := 2, ph := true }
    let s := poise (fun c => { c with rpc := c.pc, stack := [e], depth := 1
                                      gred := [{ entry := 0, slot := 0, ph := true, xd := 3, result := some 5 }] }) id
    let c := coachIn s
    s.ready c = true ∧ mustReconverge c ∧ c.stack = [e] ∧ s.phaseDone c e = true ∧ ¬ mustReconverge (popped c e)
      ∧ takesHeld c { popped c e with x := (c.setX 3 5).x, gred := [] } e := by
  unfold mustReconverge takesHeld; decide +kernel
/-- Depth 17, with the oldest entry in the spill area; and the same where that area has no page. -/
def spilling (mapped : Bool) : State :=
  poise (fun c => { c with rpc := c.pc, stack := List.replicate 16 elsewhere, spilled := [elsewhere], depth := 17 }) (fun s =>
    let c := (s.current).getD (standInLaunch.newCoach standInId standInCore 0)
    let at_ := standInLaunch.spill + 32 * standInLaunch.spillCap * standInLaunch.lc c.id
    if mapped then
      match s.ctxWrite (standInLaunch.party (some c.core)) at_ (natLe 32 (entryNumber elsewhere)) with
      | .ok t => t
      | .error _ => s
    else { s with mem := [] })
theorem witness_pop_refill :
    let s := spilling true
    let c := coachIn s
    let l := launchIn s
    s.ready c = true ∧ mustReconverge c ∧ 16 < c.depth ∧ ¬ mustReconverge (popped c elsewhere)
      ∧ (match s.ctxReadWith (l.party (some c.core)) (l.spill + 32 * l.spillCap * l.lc c.id + 32 * (c.depth - 17)) 32 with
        | .ok r => r.1 == natLe 32 (entryNumber elsewhere)
        | .error _ => false) = true := by unfold mustReconverge; decide +kernel
theorem witness_pop_unreadable :
    let s := spilling false
    let c := coachIn s
    let l := launchIn s
    (match s.ctxReadWith (l.party (some c.core)) (l.spill + 32 * l.spillCap * l.lc c.id + 32 * (c.depth - 17)) 32 with
      | .ok _ => false
      | .error b => b.cls == 6) = true := by decide +kernel
/-- An atomic at package 3, before its request and with its old value back. -/
def peerAtom (back : Bool) : State :=
  poise (fun c => { c.setP 6 (ptrMake 0x1000 0x185B405 0x1000) with
    answers := if back then [{ key := atomicKey 0, bytes := natLe 8 7, good := true }] else [] }) (fun s => { s with
      window := { s.window with podbase := 0x200000, podWritten := true }
      mem := Memory.writeBytes s.mem 0x200018 [BitVec.ofNat 8 (1 + 4 * standInLaunch.part.toNat)] })
theorem witness_remote_atomic : [false, true].all (fun back =>
    let s := peerAtom back
    let c := coachIn s
    let f := n64 4 6 3 1 2
    let is := s.atomItems (awake c) .atom f
    match s.resolve (launchIn s) (awake c) { lanes := false, hostBad := false, answered := back }
        (is.map (fun i => ⟨i.at_.lane, 6, c.pr 6, i.at_.off, 4, 4, 1, false, true, true⟩)),
      s.enterQueue (.coreReeve c.core) (c.id, c.pc) with
    | .ok rs, some s0 => !rs.isEmpty && rs.all (fun r => r.2.isRemote && s0.hasRoom c r.2.isPeer)
        && !c.gridBlocks (c.pr 6) rs && !s0.releaseBlocked c (c.pr 6) && !s0.ownPending c rs
        && rs.all (fun r => (c.answer (atomicKey r.1.lane)).isSome == back)
    | _, _ => false) = true := by decide +kernel
/-- The one member's phase, whose GREDs do not agree. -/
theorem witness_phase_mixed :
    let s := poise (fun c => { c with
      arr := [true, false, false, false], sent := [some ⟨0, 0, 5, true⟩, none, none, none] }) id
    let ms := s.members 0 0 0
    phaseMixed ms = true ∧ (s.gang? 0 0).map (·.mixed) = some [] ∧ ms.all (fun m => s.cur == some m.1.id && m.1.grid.isNone) = true
      ∧ ms.all (fun m => m.1.arr.getD m.2 false) = true ∧ ms ≠ [] := by decide +kernel
/-- TLBI while another coach's product runs. -/
theorem witness_tlbi_product :
    let t := poise id (fun s =>
      let other (c : Coach) : Coach := { inFlight c with id := { c.id with coach := 1 } }
      { s with coaches := s.coaches ++ s.coaches.map other })
    let c := coachIn t
    let l := launchIn t
    Issues t c l .tlbi (n32 1 0 0) ∧ t.outstanding c = false
      ∧ ∃ d ∈ t.coaches, d.grid ≠ none ∧ t.ctxOf d.id.q = some l.ctx :=
  ⟨issues_of (by decide +kernel), by decide +kernel, by decide +kernel⟩

/-- A LAUNCH to queue 0 from a launch that is secure as `sec` tells, with `g` on the state. -/
def launching (sec : Bool) (g : State → State) : State :=
  poise (fun c => c.setP 6 (ptrMake 0x40010000 0 0x1000)) (fun s => g { s.setQueue 0 { s.queue 0 with
    qbase := 0x60000, qpub := 0x61000, qcfg := 0x101 } with launches := [{ standInLaunch with sec := sec }] })
/-- What its two halves and its entry leave. -/
def launchTo (s : State) : Option State :=
  let c := coachIn s
  let f := n64 0 6 3 255 255
  match s.loadElems (launchIn s) (awake c) f { lanes := false } 0 false
    [{ lane := 0, ptr := 6, p := c.pr 6, off := 0, size := 128, align := 256 },
     { lane := 0, ptr := 6, p := c.pr 6, off := 128, size := 128, align := 128 }] with
  | .ok ([_, _], s1) => if s1.outstanding c then none else s1.enterQueue (.coreReeve c.core) (c.id, c.pc)
  | _ => none
theorem witness_launch_down :
    let s := launching true id
    Issues s (coachIn s) (launchIn s) .launch (n64 0 6 3 255 255) ∧ (launchIn s).sec = true ∧ (s.queue 0).secure = false
      ∧ (launchTo s).isSome = true :=
  ⟨issues_of (by decide +kernel), by decide +kernel, by decide +kernel, by decide +kernel⟩
theorem witness_launch_hazards :
    let word := launching false (fun s => { s with poison := [.line (0x61000 / 128)] })
    let ring := launching false (fun s => { s with
      queues := s.queues.set 0 { s.queue 0 with qbase := 2 ^ 37 }, steward := { s.steward with healthyDies := 0xFD } })
    Issues word (coachIn word) (launchIn word) .launch (n64 0 6 3 255 255)
      ∧ (launchTo word).any (fun t => t.readHazard (.lunath 0x61000) 8 == some 4) = true
      ∧ Issues ring (coachIn ring) (launchIn ring) .launch (n64 0 6 3 255 255)
      ∧ (launchTo ring).any (fun t => (t.readHazard (.lunath 0x61000) 8).isNone
          && (t.writeHazard (.lunath (t.queue 0).qbase.toNat)).isSome) = true :=
  ⟨issues_of (by decide +kernel), by decide +kernel, issues_of (by decide +kernel), by decide +kernel⟩

/-- The publish word, seen through either form of the aperture. -/
theorem witness_publish :
    let s := queued standInWaybill
    s.hostReaches (s.queue 0).qpub.toNat 8 = true ∧ reachable s (s.queue 0).qpub.toNat 8
      ∧ (∀ j, j < 8 → s.tdiesAt ((s.queue 0).qpub.toNat + j) = none) := by
  refine ⟨?_, ⟨by decide +kernel, fun l h1 h2 => ?_⟩, fun j hj => ?_⟩
  · unfold State.hostReaches
    rw [Bool.or_eq_true]
    exact .inr (by decide +kernel)
  · have e : ((queued standInWaybill).queue 0).qpub.toNat = 0x61000 := by decide +kernel
    rw [e] at h1 h2
    have h : l = 0xC20 := by omega
    subst h
    decide +kernel
  · have h : (List.range 8).all (fun j =>
        ((queued standInWaybill).tdiesAt (((queued standInWaybill).queue 0).qpub.toNat + j)).isNone) = true := by
      decide +kernel
    exact Option.isNone_iff_eq_none.mp (List.all_eq_true.mp h j (List.mem_range.mpr hj))
theorem witness_ring :
    (queued standInWaybill).ringReadable 0x60000 = true
      ∧ { queued standInWaybill with poison := [.line (0x60000 / 128)] }.ringReadable 0x60000 = false
      ∧ { queued standInWaybill with poison := [.line (0x60000 / 128)] }.mayTake 0 = true
      ∧ (queued standInWaybill).wordReadable 0x61000 = true := by decide +kernel
/-- The windows that a response and a drop leave by, with places and full. -/
theorem witness_answer_windows :
    let s := queued []
    let full (id : SenderId) : State := { s with
      senders := [{ id := id, entries := List.replicate 16 none, last := none, nacks := 0, since := 0, backoff := none
                    packets := [] }] }
    windowOpen s (answersBy 0x40010000) ∧ windowOpen s (dropsBy s aPacket)
      ∧ ¬ windowOpen (full (answersBy 0x40010000)) (answersBy 0x40010000)
      ∧ ¬ windowOpen (full (.port 0)) (dropsBy (full (.port 0)) aPacket) := by
  unfold windowOpen answersBy dropsBy portFor; decide +kernel
theorem witness_boot :
    let s := queued []
    (s.powered = true ∧ ¬ (s.powered = true ∧ s.booted = false ∧ s.steward.hostDown = false))
      ∧ (let t := State.reset; t.powered = true ∧ t.booted = false ∧ t.steward.hostDown = false)
      ∧ ({ State.reset with powered := false } : State).powered = false := by decide +kernel

/-! ### Hypotheses of the wider clauses -/

/-- The conditions of `sweepInside`, evaluated. -/
def sweepFits (o : Op) (f : Fields) (c : Coach) (scratch : Nat) : Bool :=
  (List.range (sweepIter f.lit)).all (fun k => (List.range c.width).all (fun j => !(c.act f).getLsbD j ||
    (sweepOffsets o f c k).all (fun a => decide (a % 4 = 0) && decide (0 ≤ a + 4 * (j : Int))
      && decide (a + 4 * (j : Int) + 4 ≤ scratch))))
theorem sweepInside_of {o : Op} {f : Fields} {c : Coach} {n : Nat} (h : sweepFits o f c n = true) : sweepInside o f c n := by
  intro k j hk hj ha a hm
  have h1 := List.all_eq_true.mp (List.all_eq_true.mp h k (List.mem_range.mpr hk)) j (List.mem_range.mpr hj)
  rw [Bool.or_eq_true] at h1
  have h2 := h1.resolve_left (by simp [ha])
  have h3 := List.all_eq_true.mp h2 a hm
  simp only [Bool.and_eq_true, decide_eq_true_eq] at h3
  exact ⟨Int.dvd_of_emod_eq_zero h3.1.1, h3.1.2, h3.2⟩
/-- FADD over three iterations, each 64 words behind the one before: A from 0, B from 1024, D from 2048. -/
def sweeping : Fields := { n96 0 1 2 255 (3 + 2 ^ 30 + 4 * 2 ^ 24 + 4 * 2 ^ 18 + 4 * 2 ^ 12) with b := 3, x31 := true }
theorem witness_sweep_iterations :
    let s := poise (fun c => (c.setX 3 1024).setX 2 2048) id
    let c := coachIn s
    Issues s c (launchIn s) .fadd sweeping ∧ sweepIter sweeping.lit = 3 ∧ (s.crewOf c).isSome
      ∧ good (uniformValue ((s.beginIssue c .fadd).readV (awake c) sweeping.c.toNat).value (c.act sweeping)) = true
      ∧ c.blockTrap .fadd sweeping = none ∧ sweepInside .fadd sweeping c standInLaunch.scratch ∧ s.poison = []
      ∧ c.grid = none :=
  ⟨issues_of (by decide +kernel), by decide +kernel, by decide +kernel, by decide +kernel, by decide +kernel,
    sweepInside_of (by decide +kernel), by decide +kernel, by decide +kernel⟩
/-- The same over the panel of the coach's product in flight. -/
theorem witness_sweep_waits :
    let s := poise inFlight id
    let c := coachIn s
    let f := { sweeping with lit := 1, b := 1, d := 1 }
    Issues s c (launchIn s) .fadd f ∧ c.grid.any (fun w => (w.a.meets (.store standInCore 0) 4 || w.b.meets (.store standInCore 0) 4)) = true
      ∧ sweepInside .fadd f c standInLaunch.scratch ∧ c.blockTrap .fadd f = none ∧ s.poison = []
      ∧ good (uniformValue ((s.beginIssue c .fadd).readV (awake c) f.c.toNat).value (c.act f)) = true
      ∧ (c.act f).getLsbD 0 = true ∧ sweepOffset f.lit 12 (c.xr f.d.toNat) 0 = 0 ∧ (s.crewOf c).map (·.base) = some 0 :=
  ⟨issues_of (by decide +kernel), by decide +kernel, sweepInside_of (by decide +kernel), by decide +kernel, by decide +kernel,
    by decide +kernel, by decide +kernel, by decide +kernel, by decide +kernel⟩

/-- PointerChecks, one element for each clause: a store into space 5, a crew beyond the gang, and one within it whose bytes
leave scratch at its end, at a boundary of every range. -/
theorem witness_pointer_local :
    let l := standInLaunch
    let crew (b : Nat) : BitVec 128 := ptrMake b 0x205 0x1000
    let host : BitVec 128 := ptrMake 0x1000 (5 + 0x500) 0x1000
    let good (p : BitVec 128) := ptrWellFormed l.scopeMax p = true
    (good host ∧ ptrSpace host = 5 ∧ (elemAt host 0 true).write = true)
      ∧ (good (crew 0x100000) ∧ ptrSpace (crew 0x100000) = 2 ∧ l.crewCount = 1
        ∧ ¬ ((ptrBase (crew 0x100000) : Int) + 0 < 2 ^ 20 * (l.crewCount : Int)))
      ∧ (good (crew 0xFFC) ∧ ((ptrBase (crew 0xFFC) : Int) + 0) % 2 ^ 20 + 4 = l.scratch
        ∧ ¬ ((ptrBase (crew 0xFFC) : Int) + 4) % 2 ^ 20 + 4 ≤ l.scratch)
      ∧ (0 ≤ ((ptrBase (crew 0xFFE) : Int) + 0) % 2 ^ 20 ∧ ((ptrBase (crew 0xFFE) : Int) + 0) % 2 ^ 20 < l.scratch
        ∧ ¬ ((ptrBase (crew 0xFFE) : Int) + 0) % 2 ^ 20 + 4 ≤ l.scratch)
      ∧ (¬ 0 ≤ (elemAt farPtr (-4) false).off ∧ (elemAt farPtr 4092 false).off + 4 = ptrLen farPtr)
      ∧ ¬ ((elemAt farPtr 2 false).align : Int) ∣ (ptrBase farPtr : Int) + (elemAt farPtr 2 false).off := by
  decide +kernel

/-- AtomicRequests: a request to the host while a read of host memory of the same core is under way. -/
theorem witness_requests :
    noStash (outstanding id) ∧ (outstanding id).requests.all (fun d => d.limit.isNone
      && ((outstanding id).coach? d.coach).any (fun k => k.core == standInCore)) = true
      ∧ ((elemAt farPtr 0 false, Loc.host 0x1000).2 = .host 0x1000) ∧ ((elemAt farPtr 0 false, Loc.peer 3).2 = .peer 3) :=
  ⟨noStash_of (by decide +kernel), by decide +kernel, rfl, rfl⟩

/-- A record of 8 half-byte elements of U4 in Lunath, and one of 32-bit elements with MCAST or REDOP in its last word. -/
def halfRecord : List DWord := (record.set 0 (BitVec.ofNat 64 (0x0D * 2 ^ 57 + 0x40010000))).set 8 0x0001000100010008#64
def recordWith (last : Nat) : List DWord := record.set 11 (BitVec.ofNat 64 last)
/-- The stand-in coach's command with a record in slot 1, in a gang of two crews on two cores. -/
def dray (o : Op) (r : List DWord) : Command := { op := o, f := n64 0 10 1 13 255, src := r, dst := r }
def twoCrews : State :=
  poise id (fun s => { s with crews := s.crews ++ [standInLaunch.newCrew 0 1 { standInCore with pos := 1 } 0 true 0 1] })
theorem witness_dray_forms :
    let s := poise id id
    let c := coachIn s
    let l := { standInLaunch with waybill := standInWaybill.set 2 1 }
    (fmtHalf (recFmt halfRecord) = true ∧ (dray .drst halfRecord).writes c ⟨0, 1⟩ = true
        ∧ good (s.drayTranslate (l.party (some c.core)) true false 1 (nibVa ((dray .drst halfRecord).writeNib c ⟨0, 1⟩))) = true)
      ∧ (recMcast (recordWith 3) = 3 ∧ l.crewCount = 2 ∧ noStash twoCrews
        ∧ (twoCrews.crew? 0 0 1).map (·.core) = some { standInCore with pos := 1 })
      ∧ (recRedop (recordWith (2 ^ 32)) = 1 ∧ (dray .drst (recordWith (2 ^ 32))).redop = 1
        ∧ good (s.drayTranslate (l.party (some c.core)) true true 4 (nibVa ((dray .drst (recordWith (2 ^ 32))).writeNib c ⟨0, 1⟩)))
          = true) := by
  refine ⟨by decide +kernel, ⟨by decide +kernel, by decide +kernel, noStash_of (by decide +kernel), by decide +kernel⟩,
    by decide +kernel⟩
theorem witness_dray_no_room :
    let s : State := { loading with senders := [{ id := joinSender standInCore 1, entries := List.replicate 16 none, last := none, nacks := 0, since := 0
                                                  backoff := none, packets := [] }] }
    let c := coachIn s
    s.coach? c.id = some c ∧ engaged s c standInLaunch ∧ ¬ roomy s c 1 ∧ lineElems .drld record 0 ≠ [] :=
  ⟨by decide +kernel, ⟨by decide +kernel, rfl, standInGang, by decide +kernel, by decide⟩, by unfold roomy; decide +kernel,
    by decide +kernel⟩

/-! GroupBarriers: the held path of a deep stack -/

/-- A coach at a group whose slot 0 it has reached, and whose stack of `n` entries has another path on top. -/
def deep (n : Nat) (c : Coach) : Coach :=
  { c with cm := 1, arr := [true, false, false, false], depth := n,
           stack := { elsewhere with kind := 1, mask := 2 } :: List.replicate 15 elsewhere }
theorem witness_gbar_deep :
    let s := poise (deep 17) id
    let c := coachIn s
    let l := launchIn s
    let runs := popped (awake c) { elsewhere with kind := 1, mask := 2 }
    let held : Entry := { elsewhere with kind := 2, mask := 1 }
    Issues s c l .gbar (n32 0 0 0) ∧ (c.slotValid 0 = true ∧ c.act (n32 0 0 0) ≠ 0 ∧ s.outstanding c = false)
      ∧ (c.arr.getD 0 false = true ∧ c.stack.head?.map (·.kind) = some 1 ∧ s.poison = [])
      ∧ (match s.refill l runs with
        | .ok (s1, c2) => match s1.push l c2 held with
          | .ok r => r.2.depth == 17
          | .error _ => false
        | .error _ => false) = true :=
  ⟨issues_of (by decide +kernel), by decide +kernel, by decide +kernel, by decide +kernel⟩
theorem witness_gbar_poisoned :
    let s := poise (deep 17) (fun s => { s with poison := [.register standInId .stack 16] })
    let c := coachIn s
    Issues s c (launchIn s) .gbar (n32 0 0 0) ∧ .register c.id .stack (c.depth - 1) ∈ s.poison
      ∧ (c.slotValid 0 = true ∧ c.act (n32 0 0 0) ≠ 0 ∧ s.outstanding c = false ∧ c.arr.getD 0 false = true) :=
  ⟨issues_of (by decide +kernel), by decide +kernel, by decide +kernel⟩
/-- Its refill meets an unmapped page, and its spill a poisoned entry. -/
theorem witness_gbar_refill :
    let s := poise (deep 17) (fun s => { s with mem := Memory.writeBytes s.mem 0x40008 [0, 0, 0, 0] })
    let c := coachIn s
    Issues s c (launchIn s) .gbar (n32 0 0 0) ∧ s.poison = []
      ∧ good (s.refill (launchIn s) (popped (awake c) { elsewhere with kind := 1, mask := 2 })) = false
      ∧ (c.slotValid 0 = true ∧ c.act (n32 0 0 0) ≠ 0 ∧ s.outstanding c = false ∧ c.arr.getD 0 false = true) :=
  ⟨issues_of (by decide +kernel), by decide +kernel, by decide +kernel, by decide +kernel⟩
theorem witness_gbar_spill :
    let s := poise (deep 17) (fun s => { s with poison := [.register standInId .stack 0] })
    let c := coachIn s
    let l := launchIn s
    Issues s c l .gbar (n32 0 0 0) ∧ .register c.id .stack (c.depth - 1) ∉ s.poison
      ∧ (match s.refill l (popped (awake c) { elsewhere with kind := 1, mask := 2 }) with
        | .ok (s1, c2) => match s1.push l c2 { elsewhere with kind := 2, mask := 1 } with
          | .error (.trap t) => t.cls == 11
          | _ => false
        | .error _ => false) = true
      ∧ (c.slotValid 0 = true ∧ c.act (n32 0 0 0) ≠ 0 ∧ s.outstanding c = false ∧ c.arr.getD 0 false = true) :=
  ⟨issues_of (by decide +kernel), by decide +kernel, by decide +kernel, by decide +kernel⟩

/-- A GBAR, and a WAITV, behind an access of its coach. -/
def behind (g : Coach → Coach) : State :=
  poise g (fun s => { s with requests := [{ tag := 1, coach := standInId, kind := 1, key := 0, count := 4, limit := none, held := false }] })
theorem witness_behind :
    let s := behind (fun c => c.setP 6 farPtr)
    let c := coachIn s
    Issues s c (launchIn s) .gbar (n32 0 0 0) ∧ Issues s c (launchIn s) .waitv (n64 0 6 3 1 2)
      ∧ Issues s c (launchIn s) .icinv (n32 0 6 0) ∧ Issues s c (launchIn s) .cstatrc (n32 0 0 3)
      ∧ (c.slotValid 0 = true ∧ s.outstanding c = true ∧ ptrFmt (c.pr 6) = 5
        ∧ c.act (n32 0 0 0) ≠ 0 ∧ c.act (n64 0 6 3 1 2) ≠ 0 ∧ c.act (n32 0 6 0) ≠ 0 ∧ c.act (n32 0 0 3) ≠ 0) :=
  ⟨issues_of (by decide +kernel), issues_of (by decide +kernel), issues_of (by decide +kernel), issues_of (by decide +kernel),
    by decide +kernel⟩

/-! IssueChecks -/

theorem witness_after_charg :
    let s := poise (fun c => { c with charg := some { pc := 0x400000F4, w0 := ⟨0, 255, 5⟩, w1 := W1.default, lit := 0x00FFFFFF } }) id
    let c := coachIn s
    s.current = some c ∧ (s.launch? c.id.q).isSome ∧ c.charg.isSome ∧ c.grid = none := by decide +kernel
/-- VADD with EW 3 and NOP with a nonzero D break a code, and no lower one (R357). -/
theorem witness_breaks :
    let s := poise id id
    let c := coachIn s
    let l := launchIn s
    let codes (o : Op) (f : Fields) : List Bool :=
      [formBreach o f, defaultBreach o f, codeBreach o f, spaceBreach o f, flagBreach o f, latchBreach o f, x31Breach o f,
       countBreach l c o f, maskBreach l o f]
    codes .vadd (n64 3 2 1 3 255) = [false, false, true, false, false, false, false, false, false]
      ∧ codes .nop (n32 0 0 1) = [false, true, false, false, false, false, false, false, false]
      ∧ (encode (.nop ⟨0, 0, 1⟩)).length = 1 := by decide +kernel
theorem witness_reads_poison :
    let s := poise id (fun s => { s with poison := [.register standInId .x 1] })
    let c := coachIn s
    s.current = some c ∧ c.charg = none ∧ s.readsPoison c .movx (n32 0 1 2) = true
      ∧ encodingBreach .movx (n32 0 1 2) = none ∧ countBreach (launchIn s) c .movx (n32 0 1 2) = false
      ∧ maskBreach (launchIn s) .movx (n32 0 1 2) = false := by decide +kernel
theorem witness_behind_grid :
    let s := poise inFlight id
    let c := coachIn s
    s.current = some c ∧ c.charg = none ∧ s.readsPoison c .mxzero (n32 0 0 64) = false ∧ c.gridHolds .mxzero (n32 0 0 64) = true
      ∧ encodingBreach .mxzero (n32 0 0 64) = none := by decide +kernel

/-! ReturnFromTrap -/

/-- An RFT in a state whose record is read and cleared, with the coach as `g` leaves it. -/
def returns (g : Coach → Coach) (h : State → State) : Bool :=
  let s := poise g (fun s => h (active s))
  let c := coachIn s
  let l := launchIn s
  mayIssue s .rft (n32 0 0 0) && c.act (n32 0 0 0) != 0 && !s.ownWaits c
    && (match s.ctxReadWith (l.party (some c.core)) (recordSlot l c) 128 with
      | .ok (bs, s1) => wordAt bs 16 / 2 ^ 17 % 2 == 1 && wordAt bs 96 % 2 ^ 32 == c.depth && wordAt bs 24 == c.pc.toNat
          && good (s1.ctxWrite (l.party (some c.core)) (recordSlot l c + 16) (natLe 8 0))
      | .error _ => false)
    && (c.suspended.all (fun w => w.1 == c.pc))
/-- One for each kind of interrupted wait of the instruction at the resume address, and one behind a request to the own
package. -/
theorem witness_rft_waits : [Wait.ended 4 [(3, 7)] (some 1), .migrate 5, .barrier 0 4 true none 1, .gwait 0,
    .fe (n32 0 6 4) [(standInCore, 0)], .swcall 7, .remote, .window 0, .window 3, .engine true].all (fun w =>
    returns (fun c => { c with suspended := some (c.pc, w), heldAnswers := [{ key := 0, bytes := [1], good := true }] }) id)
      = true := by decide +kernel
theorem witness_rft_own :
    let s := poise id (fun s => { active s with requests := [{ tag := 1, coach := standInId, kind := 1, key := 0, count := 4,
                                                               limit := none, held := false, own := true }] })
    Issues s (coachIn s) (launchIn s) .rft (n32 0 0 0) ∧ s.ownWaits (coachIn s) = true :=
  ⟨issues_of (by decide +kernel), by decide +kernel⟩

/-! With act 0 -/

theorem witness_act_none :
    let s := poise (fun c => { c with cm := 0 }) id
    let c := coachIn s
    let l := launchIn s
    [(Op.tlbi, n32 1 0 0), (.icinv, n32 0 6 0), (.icinv, { n64 0 6 0 2 255 with pen := true }), (.cstatrc, n32 1 0 3),
      (.launch, n64 0 6 3 255 255)].all (fun i => mayIssue s i.1 i.2 && c.act i.2 == 0) = true
      ∧ s.current = some c ∧ s.launch? c.id.q = some l := by decide +kernel

/-! LaunchesEnd, PackageEvents -/

/-- An ending launch whose die 1 holds a dirty copy of a poisoned line: its write-back ends the launch. -/
theorem witness_completion_ends :
    let s : State := { unplaced (fun l => { l with phase := .ending }) with
      remote := [{ die := 1, line := 0x4000, q := some 0, behind := [] }], poison := [.line 0x4000] }
    (s.launch? 0).all (fun l => l.phase == .ending && l.terminal.isNone) = true ∧ s.requests = []
      ∧ (s.writeBackAll.launch? 0).any (fun m => m.terminal.isSome) = true := by decide +kernel
/-- A line whose times stand, of which an acquire would learn a time 2^14 behind the die's. -/
theorem witness_scrub_cover :
    let s : State := { queued [] with stamps := [{ line := 0, wts := 0, rts := 0, cov := 0xA000 }] }
    let x := s.stamp 0
    homeDie 0 = 0 ∧ x.line = 0 ∧ x.rts = Claims.rebased (s.die 0).dt x.rts ∧ 2 ^ 14 ≤ (x.cov - (s.die 0).dt).toNat
      ∧ 2 ^ 14 ≤ ((s.die 0).dt - x.cov).toNat ∧ ((s.die 0).dt - x.cov).toNat < 2 ^ 15 := by
  unfold Claims.rebased; decide +kernel
theorem witness_scrub_cover_near :
    let s : State := { queued [] with stamps := [{ line := 0, wts := 0, rts := 0, cov := 0xC000 }] }
    let x := s.stamp 0
    Claims.rebased (s.die 0).dt x.rts = x.rts ∧ 2 ^ 14 ≤ (x.cov - (s.die 0).dt).toNat
      ∧ 2 ^ 14 ≤ ((s.die 0).dt - x.cov).toNat := by unfold Claims.rebased; decide +kernel

/-! PeerRequests, ResponsesArrive: what a port accepts and what it NACKs -/

/-- Port 0 with links that retrain, with an entry that it has NACKed, and with a full window in each place. -/
def portWith (ids : List LinkId) (r : List (BitVec 4 × Instr)) (full : List SenderId) (s : State) : State :=
  { s with
    links := ids.map (fun i => { id := i, width := 0, retraining := true, failed := 0 }), refused := r
    senders := full.map (fun i => { id := i, entries := List.replicate 16 none, last := none, nacks := 0, since := 0
                                    backoff := none, packets := [] }) }
theorem witness_port_takes :
    let s := queued []
    let w := Instr.fabricWrite aPacket
    let q := portWith
    [true, false].all (fun write => match s.packetLine aPacket write with
        | .ok a => a == 0x40010000
        | .error _ => false) = true
      ∧ (s.refusedAt 0 = none ∧ (q [] [(0, w)] [] s).refusedAt 0 = some w
        ∧ (q [] [(0, .fabricReadRequest aPacket)] [] s).refusedAt 0 = some (.fabricReadRequest aPacket))
      ∧ portFor s aPacket = 0 ∧ homeDie 0x40010000 = 0
      ∧ (linkOpen s (.port 0) ∧ linkOpen s (.die 0) ∧ windowOpen s (.dieFabric 0) ∧ windowOpen s (.port 0))
      ∧ ¬ linkOpen (q [.port 0] [] [] s) (.port 0) ∧ ¬ linkOpen (q [.die 0] [] [] s) (.die 0)
      ∧ linkOpen (q [.die 0] [] [] s) (.port 0)
      ∧ ¬ windowOpen (q [] [] [.dieFabric 0] s) (.dieFabric 0) ∧ ¬ windowOpen (q [] [] [.port 0] s) (.port 0) := by
  unfold linkOpen windowOpen portFor; decide +kernel
theorem witness_port_responses :
    let s := asking (some 100) 0
    s.requests.all (fun r => r.kind == 0 && s.steward.planes.getD r.plane 0 == 0) = true
      ∧ (s.coach? standInId).map (·.core.die) = some 0
      ∧ (s.refusedAt 0 = none ∧ (portWith [] [(0, .fabricWrite aPacket)] [] s).refusedAt 0 = some (.fabricWrite aPacket))
      ∧ (linkOpen s (.port 0) ∧ linkOpen s (.die 0)) ∧ ¬ linkOpen (portWith [.port 0] [] [] s) (.port 0)
      ∧ ¬ linkOpen (portWith [.die 0] [] [] s) (.die 0) := by
  unfold linkOpen; decide +kernel

/-! StepDispatch, DecodeEncode -/

theorem turn_of {s : State} {c : Coach} {l : Launch} (h1 : s.inbox = []) (h2 : (s.powered && s.booted) = true)
    (h3 : s.agenda = none) (h4 : s.nextCoach = some c) (h5 : s.coach? c.id = some c) (h6 : s.launch? c.id.q = some l) :
    Turn s c l :=
  ⟨h1, up_of h2, h3, h4, h5, h6⟩
/-- The stand-in coach. -/
def firstCoach (s : State) : Coach := s.nextCoach.getD (standInLaunch.newCoach standInId standInCore 0)
/-- Fetch and decode of the coach's words. -/
noncomputable def decodes (s : State) : Bool :=
  match (s.select (firstCoach s)).fetch standInLaunch (firstCoach s) with
  | .ok ws => good (decode ws)
  | .error _ => false
theorem witness_turn :
    let s := State.reset.withFetchWord 32 0x0000ABC0
    Turn s (firstCoach s) standInLaunch ∧ decodes s = true :=
  ⟨turn_of (by decide +kernel) (by decide +kernel) (by decide +kernel) (by decide +kernel) (by decide +kernel)
    (by decide +kernel), by decide +kernel⟩
theorem witness_turn_unassigned :
    let s := State.reset.withFetchWord 32 0xCC
    Turn s (firstCoach s) standInLaunch ∧ decodes s = false :=
  ⟨turn_of (by decide +kernel) (by decide +kernel) (by decide +kernel) (by decide +kernel) (by decide +kernel)
    (by decide +kernel), by decide +kernel⟩
theorem witness_turn_unfetched :
    let s0 := State.reset.withFetchWord 32 0xCC
    let s := { s0 with mem := [] }
    Turn s (firstCoach s) standInLaunch ∧ good ((s.select (firstCoach s)).fetch standInLaunch (firstCoach s)) = false :=
  ⟨turn_of (by decide +kernel) (by decide +kernel) (by decide +kernel) (by decide +kernel) (by decide +kernel)
    (by decide +kernel), by decide +kernel⟩
theorem witness_events :
    isOutside .mailboxHealth = true ∧ isOutside (.nop ⟨0, 0, 0⟩) = false ∧ State.reset.powered = true
      ∧ State.reset.inbox = [] ∧ State.reset.agenda = none ∧ State.reset.booted = false
      ∧ Config.tickCycles ≤ { State.reset with cycle := 256 }.cycle
      ∧ { State.reset with cycle := 256 }.agenda.isSome = true := by decide +kernel
/-- The end of a tick, before which nothing is due. -/
theorem witness_tick_end :
    let s : State := { State.reset with booted := true, cycle := 256 }
    s.booted = true ∧ s.gangs.findSome? s.phaseEvent = none ∧ Config.tickCycles ≤ s.cycle := by decide +kernel
theorem witness_view : (view (.trap ⟨0, 0, 42⟩)).map (·.1) = some .trap := rfl

/-! ### Events of the device and of the outside world -/

/-- The state after an event, tested. -/
noncomputable def then_ (i : Instr) (s : State) (p : State → Bool) : Bool :=
  match exec i s with
  | .next t => p t
  | _ => false

/-- (R5) -/
theorem test_tick : then_ .tick State.reset (fun t => t.time == 1 && t.cycle == 0) = true := by decide +kernel
/-- A publish word of 2 fills the ring of two; 4 runs past it and stops the queue (R52). -/
theorem test_publish : (let t := (queued []).hostWriteAt ((queued []).queue 0).qpub.toNat (natLe 8 2)
    (t.queue 0).seen == 2 && !(t.queue 0).err) = true := by decide +kernel
theorem test_publish_past : (let t := (queued []).hostWriteAt ((queued []).queue 0).qpub.toNat (natLe 8 4)
    (t.queue 0).err && bit t.window.irqstat 16) = true := by decide +kernel
/-- The waybill is taken and QCONS counts it (R51). -/
theorem test_take_waybill : then_ (.takeWaybill 0) (queued standInWaybill) (fun t =>
    t.launches.map (·.phase) == [.taken] && (t.queue 0).qcons == 1) = true := by decide +kernel
/-- A sum of 5 from one member: X3 is 5 and the coach goes on after the GRED of 8 bytes (R286). -/
theorem test_phase : then_ (.groupPhaseComplete 0 0 0) (phase (.barrier 0 8 true (some 3) 1) true) (fun t =>
    (coachIn t).xr 3 == 5 && (coachIn t).pc == 0x40000108 && (t.gang? 0 0).map (·.parity) == some 1) = true := by
  decide +kernel
/-- IRQSTAT is cleared by ones (R321). -/
theorem test_irqstat : then_ (.irqstatWrite 5) { queued [] with window := { Window.reset with irqstat := 7 } }
    (fun t => t.window.irqstat == 2) = true := by decide +kernel
/-- A port that goes down is reported with health bit 4 and vector 17 (R353). -/
theorem test_port_down : then_ (.portDown 2) (queued []) (fun t => bit t.steward.health 4 && bit t.window.irqstat 17) = true := by
  decide +kernel
/-- QSTAT of a queue that has stopped while its launch runs is ERR and RUN (R49). -/
theorem test_qstat : ({ poise id id with queues := [{ Queue.reset with err := true }] } : State).windowReg 0x10020 = 3 := by
  decide +kernel
/-- The SHA-256 of "abc" (FIPS 180-4), its first four bytes. -/
theorem test_sha256 : (sha256 [0x61, 0x62, 0x63]).take 4 = [0xBA, 0x78, 0x16, 0xBF] := by decide +kernel

/-- The header flit of a read request with DST 5, SYNC 1, SEC 1, TAG 3, FCTX 1, DL 2 and LINE 4 (R315). -/
theorem test_packet_header :
    packetHeader { be := 1, dst := 5, src := 0, op := 0, sync := 1, sec := true, tag := 3, fctx := 1, dl := 2, aop := 0, aw := 0, line := 4, data := [] } =
      0x0000000000000000000000000000000102800183000100020000000000000200#256 := by decide +kernel
/-- A write is a header flit and four data flits (R315). -/
theorem test_packet_flits :
    (packetFlits { be := 1, dst := 5, src := 0, op := 1, sync := 0, sec := true, tag := 3, fctx := 1, dl := 2, aop := 0, aw := 0, line := 4, data := List.replicate 128 7 }).length = 5 := by
  decide +kernel

end Sys2Proof.Tests
end

section
/-! The state after reset (R5, R49, R60, R325, R375) and a coach at placement (R44, R76, R117). -/

namespace Sys2Proof.Claims

open Sys2Proof Sys2Proof.Machine

/-- Every queue is as at reset (R49). -/
theorem queue_reset (q : BitVec 6) : State.reset.queue q = Queue.reset := by
  show (List.replicate 64 Queue.reset).getD q.toNat Queue.reset = Queue.reset
  rw [List.getD_eq_getElem?_getD, List.getElem?_replicate, if_pos q.isLt]
  rfl

/-- A new coach has every lane, but half 1 of the last Fupen coach of an odd number (R44, R117). -/
theorem exitedAtLaunch_cases (l : Launch) (coach : Nat) :
    l.exitedAtLaunch coach = 0 ∨ l.cmp16 = true ∧ l.exitedAtLaunch coach = 0xFFFF0000 := by
  unfold Launch.exitedAtLaunch
  split
  · rename_i h
    simp only [Bool.and_eq_true] at h
    exact .inr ⟨h.1.1, rfl⟩
  · exact .inl rfl

/-- Settles O55: each part of the reset state and of a new coach stands in its definition, but for the queues, which are a
list, and the lanes that the driver may have set as exited. -/
theorem resetState : Obligations.ResetState :=
  ⟨rfl, rfl, rfl, fun _ => rfl, rfl, rfl, rfl, rfl, rfl, queue_reset, rfl, fun _ => rfl, fun l id _ _ =>
    ⟨rfl, rfl, rfl, exitedAtLaunch_cases l id.coach, rfl, rfl, rfl, rfl, rfl⟩⟩

end Sys2Proof.Claims
end

section
/-! What an operation on memory leaves alone: times, copies, timestamps and the watch list may move, the rest of the state
does not (R104, R303, R307, R308). Every operation of Home.lean has its lemma here; the statements about loads, requests
of peers, the host's memory and the tick cite these. -/

namespace Sys2Proof.Machine

open Sys2Proof

/-- No operation on memory changes TIME, a coach, a sender's window or the package's number. -/
structure Aside (s t : State) : Prop where
  time : t.time = s.time
  coaches : t.coaches = s.coaches
  senders : t.senders = s.senders
  pkgno : t.window.pkgno = s.window.pkgno

/-- Most of them change no crew and no byte of a local store either, and leave no line dirty in another die's L2 where
none was. -/
structure Around (s t : State) : Prop extends Aside s t where
  crews : t.crews = s.crews
  cells : ∀ k, (t.core k).cells = (s.core k).cells
  remote : s.remote = [] → t.remote = []

variable {s t u : State}

theorem Aside.refl (s : State) : Aside s s := ⟨rfl, rfl, rfl, rfl⟩

theorem Aside.trans (h : Aside s t) (h' : Aside t u) : Aside s u :=
  ⟨h'.time.trans h.time, h'.coaches.trans h.coaches, h'.senders.trans h.senders, h'.pkgno.trans h.pkgno⟩

theorem Around.refl (s : State) : Around s s := ⟨Aside.refl s, rfl, fun _ => rfl, id⟩

theorem Around.trans (h : Around s t) (h' : Around t u) : Around s u :=
  ⟨h.toAside.trans h'.toAside, h'.crews.trans h.crews, fun k => (h'.cells k).trans (h.cells k),
    fun e => h'.remote (h.remote e)⟩

/-! ### Local stores and caches of cores that change together -/

/-- The bytes written in a core's local store, from the list of cores. -/
theorem State.core_cells (s : State) (k : CoreId) :
    (s.core k).cells = ((s.cores.find? (fun j => j.id == k)).map (·.cells)).getD [] := by
  unfold State.core
  cases s.cores.find? (fun j => j.id == k) <;> rfl

/-- The copies in a core's data cache, from the list of cores. -/
theorem State.core_copies (s : State) (k : CoreId) :
    (s.core k).copies = ((s.cores.find? (fun j => j.id == k)).map (·.copies)).getD [] := by
  unfold State.core
  cases s.cores.find? (fun j => j.id == k) <;> rfl

theorem find?_map_core {g : Core → Core} (hid : ∀ k, (g k).id = k.id) (l : List Core) (c : CoreId) :
    (l.map g).find? (fun j => j.id == c) = (l.find? (fun j => j.id == c)).map g := by
  rw [List.find?_map]
  exact congrArg (Option.map g) (congrArg (List.find? · l) (funext fun k => by simp [hid]))

theorem State.cells_congr (h : t.cores = s.cores) (k : CoreId) : (t.core k).cells = (s.core k).cells := by
  rw [State.core_cells, State.core_cells, h]

/-- A change of every core that keeps the bytes of its local store. -/
theorem State.cells_map {g : Core → Core} (h : t.cores = s.cores.map g) (hid : ∀ k, (g k).id = k.id)
    (hc : ∀ k, (g k).cells = k.cells) (k : CoreId) : (t.core k).cells = (s.core k).cells := by
  rw [State.core_cells, State.core_cells, h, find?_map_core hid]
  cases s.cores.find? (fun j => j.id == k) <;> simp [hc]

@[simp] theorem Core.near_id (k : Core) (dt : BitVec 16) : (k.near dt).id = k.id := by
  unfold Core.near Core.atTime
  dsimp only
  split <;> rfl

@[simp] theorem Core.near_cells (k : Core) (dt : BitVec 16) : (k.near dt).cells = k.cells := by
  unfold Core.near Core.atTime
  dsimp only
  split <;> rfl

/-! ### Replacing one part -/

/-- A core may change in anything but its name and the bytes of its local store. -/
theorem Around.setCore {k : Core} {c : CoreId} (hid : k.id = c) (h : k.cells = (s.core c).cells) :
    Around s (s.setCore k) := by
  refine ⟨⟨rfl, rfl, rfl, rfl⟩, rfl, fun j => ?_, id⟩
  rw [State.core_setCore, hid]
  split
  · rename_i hj
    rw [h, hj]
  · rfl

theorem Around.setCopies (s : State) (c : CoreId) (cs : List Copy) :
    Around s (s.setCore { s.core c with copies := cs }) := Around.setCore (State.core_id s c) rfl

theorem Around.setDie (s : State) (d : Die) : Around s (s.setDie d) :=
  ⟨⟨rfl, rfl, rfl, rfl⟩, rfl, State.cells_congr rfl, id⟩

theorem Around.setStamp (s : State) (x : LineStamp) : Around s (s.setStamp x) :=
  ⟨⟨rfl, rfl, rfl, rfl⟩, rfl, State.cells_congr rfl, id⟩

theorem Aside.setCrew (s : State) (k : Crew) : Aside s (s.setCrew k) := ⟨rfl, rfl, rfl, rfl⟩

theorem Aside.storeWrite (s : State) (k : CoreId) (a : Nat) (bs : List Byte) : Aside s (s.storeWrite k a bs) :=
  ⟨rfl, rfl, rfl, rfl⟩

theorem Around.endLaunch (s : State) (q : BitVec 6) (e : Terminal) : Around s (s.endLaunch q e) := by
  unfold State.endLaunch
  split
  · exact Around.refl s
  · split
    · exact Around.refl s
    · exact ⟨⟨rfl, rfl, rfl, rfl⟩, rfl, State.cells_congr rfl, id⟩

theorem Around.watch (s : State) (a n : Nat) : Around s (s.watch a n) := by
  unfold State.watch
  dsimp only
  split
  · split
    · exact ⟨⟨rfl, rfl, rfl, rfl⟩, rfl, State.cells_congr rfl, id⟩
    · exact ⟨⟨rfl, rfl, rfl, rfl⟩, rfl, State.cells_congr rfl, id⟩
  · exact Around.refl s

/-! ### Times (R307-R309) -/

theorem Around.noteDt (s : State) (d : BitVec 3) (x : BitVec 16) : Around s (s.noteDt d x) := by
  unfold State.noteDt
  dsimp only
  split
  · exact Around.refl s
  · refine ⟨⟨rfl, rfl, rfl, rfl⟩, rfl, State.cells_map rfl ?_ ?_, id⟩ <;> intro k <;> split <;> simp

theorem Around.noteWts (s : State) (d : BitVec 3) (x : BitVec 16) : Around s (s.noteWts d x) :=
  (Around.noteDt s d x).trans (Around.setDie _ _)

theorem Around.learn (s : State) (c : CoreId) (x : BitVec 16) : Around s (s.learn c x) := by
  refine Around.trans ?_ (Around.noteDt _ _ _)
  exact Around.setCore (State.core_id s c) rfl

theorem Around.acquireTime (s : State) (c : CoreId) (acq : Bool) (x : BitVec 16) : Around s (s.acquireTime c acq x) := by
  unfold State.acquireTime
  split
  · exact Around.learn s c x
  · exact Around.refl s

theorem Around.carryTime (s : State) (by_ : Option CoreId) (line : Nat) : Around s (s.carryTime by_ line) := by
  cases by_
  · exact Around.refl s
  · exact Around.noteDt s _ _

theorem Around.stampWrite (s : State) (by_ : Option CoreId) (joined : Bool) (line : Nat) :
    Around s (s.stampWrite by_ joined line).2 := by
  unfold State.stampWrite
  dsimp only
  cases by_ with
  | none =>
    refine Around.trans ?_ (Around.noteWts _ _ _)
    exact (Around.carryTime s none line).trans (Around.setStamp _ _)
  | some c =>
    refine Around.trans ?_ (Around.learn _ _ _)
    refine Around.trans ?_ (Around.noteWts _ _ _)
    exact (Around.carryTime s (some c) line).trans (Around.setStamp _ _)

/-! ### Writes at the home L2 (R104, R303, R308) -/

theorem Around.spread (s : State) (by_ : Option CoreId) (a n : Nat) : Around s (s.spread by_ a n) := by
  refine ⟨⟨rfl, rfl, rfl, rfl⟩, rfl, State.cells_map rfl ?_ ?_, id⟩ <;> intro k <;> split <;> rfl

theorem Around.endRemote (s : State) (r : Remote) : Around s (s.endRemote r) := by
  unfold State.endRemote
  split
  · exact Around.refl s
  · exact Around.endLaunch _ _ _

theorem Around.drainL2 (s : State) (line : Nat) : Around s (s.drainL2 line) := by
  unfold State.drainL2
  split
  · exact Around.refl s
  · dsimp only
    split
    · refine Around.trans ?_ (Around.endRemote _ _)
      exact ⟨⟨rfl, rfl, rfl, rfl⟩, rfl, State.cells_congr rfl, fun h => by simp [h]⟩
    · refine Around.trans ?_ (Around.watch _ _ _)
      refine Around.trans ?_ (Around.stampWrite _ _ _ _)
      exact ⟨⟨rfl, rfl, rfl, rfl⟩, rfl, State.cells_congr rfl, fun h => by simp [h]⟩

/-- The first part of a write at the home L2: its bytes, before its times. -/
def State.putHome (s : State) (by_ : Option CoreId) (a : Nat) (data : List Byte) : State :=
  let s0 := (s.drainL2 (a / 128)).spread by_ a data.length
  { s0 with
    mem := Memory.writeBytes s0.mem a data
    poison := if data.length = 128 then s0.poison.filter (· != Poison.line (a / 128)) else s0.poison }

/-- The last part: the copies of a core that writes, at the time of the write. -/
def State.putCopies (s : State) (by_ : Option CoreId) (a n : Nat) (time : BitVec 16) : State :=
  match by_ with
  | some c => s.setCore { s.core c with copies := ownCopies (a / 128) a n time (s.core c).copies }
  | none => s

/-- A write at the home L2: the bytes, the times, and the copies of a core that writes. -/
theorem State.homeWriteAs_eq (s : State) (by_ : Option CoreId) (joined : Bool) (a : Nat) (data : List Byte) :
    s.homeWriteAs by_ joined a data =
      let x := (s.putHome by_ a data).stampWrite by_ joined (a / 128)
      (x.2.putCopies by_ a data.length x.1).watch a data.length := by
  rcases hx : (s.putHome by_ a data).stampWrite by_ joined (a / 128) with ⟨t, s2⟩
  unfold State.putHome at hx
  unfold State.homeWriteAs
  dsimp only at hx ⊢
  rw [hx]
  cases by_ <;> rfl

/-- A write at the home L2 changes Lunath, and nothing else that is not time or a copy. -/
theorem Around.homeWriteAs (s : State) (by_ : Option CoreId) (joined : Bool) (a : Nat) (data : List Byte) :
    Around s (s.homeWriteAs by_ joined a data) := by
  have hput : Around s (s.putHome by_ a data) := by
    have hs := (Around.drainL2 s (a / 128)).trans (Around.spread _ by_ a data.length)
    exact ⟨⟨hs.time, hs.coaches, hs.senders, hs.pkgno⟩, hs.crews, fun k => (State.cells_congr rfl k).trans (hs.cells k),
      hs.remote⟩
  have hst := hput.trans (Around.stampWrite _ by_ joined (a / 128))
  rw [State.homeWriteAs_eq]
  refine Around.trans ?_ (Around.watch _ _ _)
  cases by_ with
  | none => exact hst
  | some c => exact hst.trans (Around.setCopies _ c _)

theorem Around.homeWrite (s : State) (by_ : Option CoreId) (a : Nat) (data : List Byte) :
    Around s (s.homeWrite by_ a data) := Around.homeWriteAs s by_ false a data

theorem Around.coverCluster (s : State) (c : CoreId) (line : Nat) : Around s (s.coverCluster c line) := Around.setStamp _ _

/-! ### Stashes (R99) -/

theorem Aside.returnLine (s : State) (k : Crew) (l : StashLine) (stay : Bool) : Aside s (s.returnLine k l stay) := by
  have finish (x : State) (n : Option Crew) (f : Crew → Crew) (h : Aside s x) :
      Aside s (match n with | none => x | some k1 => x.setCrew (f k1)) := by
    cases n
    · exact h
    · exact h.trans (Aside.setCrew _ _)
  unfold State.returnLine
  dsimp only
  refine finish _ _ (fun k1 => { k1 with lines := _ }) ?_
  split
  · split
    · exact (Around.endLaunch _ _ _).toAside
    · exact ((Around.homeWrite _ _ _ _).trans (Around.coverCluster _ _ _)).toAside
  · split
    · exact Aside.storeWrite _ _ _ _
    · exact Aside.refl s

theorem Aside.recall (s : State) (line : Nat) (isRead : Bool) : Aside s (s.recall line isRead) := by
  unfold State.recall
  split
  · exact Aside.refl s
  · split
    · exact Aside.refl s
    · exact Aside.returnLine _ _ _ _

theorem Aside.writeBack (s : State) (line : Nat) : Aside s (s.writeBack line) := by
  unfold State.writeBack
  split
  · exact (Aside.recall s line false).trans (Around.drainL2 _ _).toAside
  · exact Aside.refl s

/-- Where no stash holds a line, none is recalled. -/
theorem State.recall_noLines (h : ∀ k ∈ s.crews, k.lines = []) (line : Nat) (isRead : Bool) :
    s.recall line isRead = s := by
  have : s.crews.find? (fun k => k.lines.any (fun l => l.home == line)) = none :=
    List.find?_eq_none.2 fun k hk => by simp [h k hk]
  unfold State.recall
  rw [this]

theorem Around.writeBack (h : ∀ k ∈ s.crews, k.lines = []) (line : Nat) : Around s (s.writeBack line) := by
  unfold State.writeBack
  rw [State.recall_noLines h]
  split
  · exact Around.drainL2 s line
  · exact Around.refl s

/-- Where no stash holds a line, a write-back moves no byte. -/
theorem State.writeBack_mem (h : ∀ k ∈ s.crews, k.lines = []) (line : Nat) : (s.writeBack line).mem = s.mem := by
  unfold State.writeBack
  rw [State.recall_noLines h]
  split
  · exact State.drainL2_mem s line
  · rfl

/-- Where no L2 holds a dirty line of another die, none is written back. -/
theorem State.writeBack_noRemote (h : s.remote = []) (line : Nat) : s.writeBack line = s := by
  simp [State.writeBack, h]

theorem Around.dropCopy (s : State) (c : CoreId) (line : Nat) : Around s (s.dropCopy c line) := by
  unfold State.dropCopy
  dsimp only
  by_cases hc : (s.core c).copies.isEmpty = true
  · rw [if_pos hc]
    split
    · exact Around.refl s
    · exact Around.setDie _ _
  · rw [if_neg hc]
    split
    · exact Around.setCopies s c _
    · exact (Around.setCopies s c _).trans (Around.setDie _ _)

end Sys2Proof.Machine

namespace Sys2Proof.Claims

open Sys2Proof Sys2Proof.Machine

variable {s t : State}

/-- Every byte is as it was where Lunath, the crews and the cells of the cores are. -/
theorem sameBytes_of (hm : t.mem = s.mem) (hk : t.crews = s.crews) (hc : ∀ k, (t.core k).cells = (s.core k).cells) :
    sameBytes s t := by
  intro p a
  cases p with
  | lunath => exact congrArg (Memory.read · a) hm
  | store k =>
    show t.storeByte k a = s.storeByte k a
    unfold State.storeByte State.crewAt
    rw [hc, hk]

theorem sameBytes_of_around (h : Around s t) (hm : t.mem = s.mem) : sameBytes s t := sameBytes_of hm h.crews h.cells

theorem sameBytes.trans {u : State} (h : sameBytes s t) (h' : sameBytes t u) : sameBytes s u :=
  fun p a => (h' p a).trans (h p a)

theorem noStash_around (h : Around s t) (hs : noStash s) : noStash t :=
  ⟨fun k hk => hs.1 k (h.crews ▸ hk), h.remote hs.2⟩

theorem noStash.noLines (h : noStash s) : ∀ k ∈ s.crews, k.lines = [] := fun k hk => (h.1 k hk).1

end Sys2Proof.Claims
end

section
/-! The tick (R5, R307, R309, R375, R376, R396): the state before the L2s replace lines, and what a replacement of lines
leaves alone. -/

namespace Sys2Proof.Claims

open Sys2Proof Sys2Proof.Machine

/-- The dies after a tick. -/
def tickedDies (s : State) : List Die :=
  s.dies.map (fun d => d.tick (rebase d.dt ((s.time + 1).setWidth 16) ::
    ((s.cores.filter (fun k => k.id.die == d.id)).map (fun k => k.pts + 1))))

/-- DT of a die after a tick. -/
def tickedDt (s : State) (d : BitVec 3) : BitVec 16 := (((tickedDies s).find? (fun k => k.id == d)).map (·.dt)).getD 0

/-- The state after a tick, before the L2s replace any line. -/
def ticked (s : State) : State :=
  { s with
    time := s.time + 1, cycle := 0, cycles := s.cycles + (Config.tickCycles - min s.cycle Config.tickCycles)
    wdogLive := s.wdog, dies := tickedDies s, stamps := scrubbed (s.time + 1).toNat (tickedDt s) s.stamps
    cores := s.idleSlots.cores.map (fun k => k.tick (tickedDt s k.id.die))
    coaches := s.coaches.map s.tickCoach }

theorem exec_tick (s : State) : exec .tick s = .next (ticked s).evictSome := rfl

theorem ticked_die_dt (s : State) (d : BitVec 3) : ((ticked s).die d).dt = tickedDt s d := by
  show (((tickedDies s).find? (fun k => k.id == d)).getD (Die.reset d)).dt = _
  unfold tickedDt
  cases (tickedDies s).find? (fun k => k.id == d) <;> rfl

/-- A tick moves times and drops leases; it leaves every byte. -/
theorem sameBytes_ticked (s : State) : sameBytes s (ticked s) := by
  have hcores : (ticked s).cores
      = s.cores.map ((fun k => k.tick (tickedDt s k.id.die)) ∘ fun k => if s.slotIdle k then { k with prev := none } else k) := by
    rw [← List.map_map]
    rfl
  refine sameBytes_of rfl rfl (State.cells_map hcores ?_ ?_) <;> intro k <;> simp only [Function.comp] <;> split <;> rfl

/-! ### Lines that an L2 replaces (R104) -/

/-- The write-backs of several lines. -/
theorem Aside.writeBacks (rs : List Remote) : ∀ s : State, Aside s (rs.foldl (fun s r => s.writeBack r.line) s) := by
  induction rs with
  | nil => exact Aside.refl
  | cons r rest ih => exact fun s => (Aside.writeBack s r.line).trans (ih _)

theorem Aside.evictSome (s : State) : Aside s s.evictSome := Aside.writeBacks _ s

/-- Where no stash holds a line, no byte moves with them. -/
theorem sameBytes_writeBacks (rs : List Remote) :
    ∀ s : State, (∀ k ∈ s.crews, k.lines = []) → sameBytes s (rs.foldl (fun s r => s.writeBack r.line) s) := by
  induction rs with
  | nil => exact fun s _ _ _ => rfl
  | cons r rest ih =>
    intro s h
    have hr := Around.writeBack h r.line
    exact (sameBytes_of_around hr (State.writeBack_mem h r.line)).trans (ih _ (hr.crews ▸ h))

/-- Without a dirty copy none is replaced. -/
theorem evictSome_noRemote {s : State} (h : s.remote = []) : s.evictSome = s := by
  simp [State.evictSome, h]

/-! ### Times after a tick -/

/-- The time of a die's L2 and of its writes (R309). -/
theorem ticked_dies {s : State} {d : Die} (hd : d ∈ s.dies) : ∃ e ∈ (ticked s).dies, e.id = d.id
    ∧ e.dt = (rebased d.dt ((ticked s).time.setWidth 16)
        :: (s.cores.filter (fun k => k.id.die == d.id)).map (fun k => k.pts + 1)).foldl smax d.dt
    ∧ e.mts = rebased e.dt d.mts ∧ e.last = rebased e.dt d.last :=
  ⟨_, List.mem_map_of_mem hd, rfl, rfl, rfl, rfl⟩

/-- A lease that stays is near its core's time (R309, R396). -/
theorem mem_nearCopies {pts : BitVec 16} {cs : List Copy} {c : Copy} (h : c ∈ nearCopies pts cs) :
    c ∈ cs ∧ ∀ w r, c.lease = some (w, r) → (r - pts).toNat < 2 ^ 14 ∨ (pts - r).toNat < 2 ^ 14 := by
  obtain ⟨hc, hn⟩ := List.mem_filter.1 h
  refine ⟨hc, fun w r hl => ?_⟩
  rw [hl] at hn
  have hfar : ¬ 2 ^ 14 ≤ min (r - pts).toNat (pts - r).toNat :=
    of_decide_eq_false (Bool.not_eq_true' _ ▸ hn)
  omega

/-- The time of a core and its leases (R307, R396). -/
theorem ticked_cores {s : State} {k : Core} (hk : k ∈ s.cores) : ∃ j ∈ (ticked s).cores, j.id = k.id
    ∧ j.pts = rebased ((ticked s).die k.id.die).dt (k.pts + 1)
    ∧ ∀ c ∈ j.copies, c ∈ k.copies ∧ ∀ w r, c.lease = some (w, r) →
        (r - j.pts).toNat < 2 ^ 14 ∨ (j.pts - r).toNat < 2 ^ 14 := by
  obtain ⟨i, hi, hid, hpts, hcopies⟩ :
      ∃ i ∈ s.idleSlots.cores, i.id = k.id ∧ i.pts = k.pts ∧ i.copies = k.copies := by
    refine ⟨_, List.mem_map_of_mem hk, ?_⟩
    split <;> exact ⟨rfl, rfl, rfl⟩
  refine ⟨_, List.mem_map_of_mem hi, hid, ?_, ?_⟩
  · rw [ticked_die_dt, ← hid, ← hpts]
    rfl
  · intro c hc
    rw [← hcopies]
    exact mem_nearCopies hc

/-! ### The statement -/

/-- Settles O54: the tick itself is a record of new times, and the write-backs of replaced lines touch neither TIME nor a
coach. -/
theorem tickPasses : Obligations.TickPasses := by
  intro s
  have hev := Aside.evictSome (ticked s)
  exact ⟨ticked s, (ticked s).evictSome, exec_tick s, rfl, fun h => evictSome_noRemote h,
    fun h => (sameBytes_ticked s).trans (sameBytes_writeBacks _ _ h), hev.time, hev.coaches, rfl, rfl, rfl,
    fun _ => ticked_dies, fun _ => ticked_cores, rfl, rfl, rfl, rfl, rfl⟩

end Sys2Proof.Claims
end

section
/-! Reads (R104, R304, R308): where no stash binds memory, no L2 holds a dirty line of another die and the copies that a
core can meet are current, a read delivers the bytes of memory and leaves all that so. -/

namespace Sys2Proof.Claims

open Sys2Proof Sys2Proof.Machine

variable {s t u : State} {k : CoreId}

/-- The copies that a core can meet, in its data cache and in its die's L2, are current. -/
def Fresh (s : State) (k : CoreId) : Prop :=
  (∀ c ∈ (s.core k).copies, c.old = []) ∧ ∀ c ∈ (s.die k.die).copies, c.old = []

/-- What a read by core `k` may do: no byte changes, and current copies stay current. -/
structure Quiet (k : CoreId) (s t : State) : Prop extends Around s t where
  mem : t.mem = s.mem
  fresh : Fresh s k → Fresh t k

theorem Quiet.refl (k : CoreId) (s : State) : Quiet k s s := ⟨Around.refl s, rfl, id⟩

theorem Quiet.trans (h : Quiet k s t) (h' : Quiet k t u) : Quiet k s u :=
  ⟨h.toAround.trans h'.toAround, h'.mem.trans h.mem, fun hf => h'.fresh (h.fresh hf)⟩

theorem Quiet.sameBytes (h : Quiet k s t) : sameBytes s t := sameBytes_of_around h.toAround h.mem

/-! ### Copies of cores and of L2s -/

theorem die_setDie (s : State) (d : Die) (x : BitVec 3) : (s.setDie d).die x = if d.id = x then d else s.die x := by
  unfold State.die State.setDie
  rw [find_upsert (by intro b hb; simp_all) (by intro b h1 h2; simp_all)]
  by_cases h : d.id = x <;> simp [h]

@[simp] theorem die_id (s : State) (x : BitVec 3) : (s.die x).id = x := by
  unfold State.die
  cases h : s.dies.find? (fun k => k.id == x) with
  | none => rfl
  | some d => simpa using List.find?_some h

theorem core_copies_congr (h : t.cores = s.cores) : (t.core k).copies = (s.core k).copies := by
  rw [State.core_copies, State.core_copies, h]

/-- A change of every core that adds no copy. -/
theorem mem_copies_map {g : Core → Core} (h : t.cores = s.cores.map g) (hid : ∀ j, (g j).id = j.id)
    (hc : ∀ j, ∀ c ∈ (g j).copies, c ∈ j.copies) {c : Copy} (hm : c ∈ (t.core k).copies) : c ∈ (s.core k).copies := by
  rw [State.core_copies, h, find?_map_core hid] at hm
  rw [State.core_copies]
  cases hf : s.cores.find? (fun j => j.id == k) with
  | none => simp [hf] at hm
  | some j => rw [hf] at hm; exact hc j c hm

theorem mem_near_copies {j : Core} {dt : BitVec 16} {c : Copy} (h : c ∈ (j.near dt).copies) : c ∈ j.copies := by
  unfold Core.near Core.atTime at h
  dsimp only at h
  split at h
  · exact h
  · exact (mem_nearCopies h).1

/-- A core changes in anything but the bytes of its local store, and its copies stay current. -/
theorem Quiet.setCore {j : Core} {c : CoreId} (hid : j.id = c) (hcells : j.cells = (s.core c).cells)
    (hold : Fresh s k → c = k → ∀ x ∈ j.copies, x.old = []) : Quiet k s (s.setCore j) := by
  refine ⟨Around.setCore hid hcells, rfl, fun hf => ⟨fun x hx => ?_, hf.2⟩⟩
  rw [State.core_setCore, hid] at hx
  split at hx
  · exact hold hf ‹_› x hx
  · exact hf.1 x hx

/-- A die changes, and its copies stay current. -/
theorem Quiet.setDie {e : Die} {d : BitVec 3} (hid : e.id = d) (hold : Fresh s k → d = k.die → ∀ x ∈ e.copies, x.old = []) :
    Quiet k s (s.setDie e) := by
  refine ⟨Around.setDie s e, rfl, fun hf => ⟨fun x hx => ?_, fun x hx => ?_⟩⟩
  · rw [core_copies_congr (t := s.setDie e) (s := s) rfl] at hx
    exact hf.1 x hx
  · rw [die_setDie, hid] at hx
    split at hx
    · exact hold hf ‹_› x hx
    · exact hf.2 x hx

theorem Quiet.setStamp (s : State) (x : LineStamp) : Quiet k s (s.setStamp x) := ⟨Around.setStamp s x, rfl, id⟩

/-! ### Times -/

theorem Quiet.noteDt (s : State) (d : BitVec 3) (x : BitVec 16) : Quiet k s (s.noteDt d x) := by
  refine ⟨Around.noteDt s d x, State.noteDt_mem s d x, fun hf => ?_⟩
  unfold State.noteDt
  dsimp only
  split
  · exact hf
  · refine ⟨fun c hc => hf.1 c (mem_copies_map (s := s) rfl ?_ ?_ hc), fun c hc => hf.2 c ?_⟩
    · intro j; split <;> simp
    · intro j x hx
      split at hx
      · exact mem_near_copies hx
      · exact hx
    · have hd : c ∈ ((s.setDie { s.die d with dt := smax (s.die d).dt x }).die k.die).copies := hc
      rw [die_setDie, die_id] at hd
      split at hd
      · rename_i h; rw [← h]; exact hd
      · exact hd

theorem Quiet.learn (s : State) (c : CoreId) (x : BitVec 16) : Quiet k s (s.learn c x) := by
  refine Quiet.trans ?_ (Quiet.noteDt _ _ _)
  exact Quiet.setCore (State.core_id s c) rfl fun hf hk y hy => hf.1 y (hk ▸ (mem_nearCopies hy).1)

theorem Quiet.acquireTime (s : State) (c : CoreId) (acq : Bool) (x : BitVec 16) : Quiet k s (s.acquireTime c acq x) := by
  unfold State.acquireTime
  split
  · exact Quiet.learn s c x
  · exact Quiet.refl k s

theorem Quiet.carryTime (s : State) (by_ : Option CoreId) (line : Nat) : Quiet k s (s.carryTime by_ line) := by
  cases by_
  · exact Quiet.refl k s
  · exact Quiet.noteDt s _ _

theorem Quiet.orderHome (s : State) (c : CoreId) (line : Nat) : Quiet k s (s.orderHome c line) :=
  (Quiet.carryTime s _ _).trans ((Quiet.learn _ _ _).trans (Quiet.setStamp _ _))

theorem Quiet.orderPlain (s : State) (p : Party) (acq sc : Bool) (scope : Nat) (page loc : Loc) :
    Quiet k s (s.orderPlain p acq sc scope page loc) := by
  unfold State.orderPlain
  split
  · exact Quiet.refl k s
  · split
    · exact Quiet.refl k s
    · split
      · exact Quiet.refl k s
      · split
        · dsimp only
          split
          · exact (Quiet.learn s _ _).trans ((Quiet.learn _ _ _).trans (Quiet.orderHome _ _ _))
          · exact (Quiet.learn s _ _).trans (Quiet.learn _ _ _)
        · exact Quiet.learn s _ _
      · exact Quiet.learn s _ _

/-! ### Translations and stashes -/

theorem Quiet.noteTranslation (h : noStash s) (p : Party) (va : Nat) : Quiet k s (s.noteTranslation p va) := by
  have hw : s.walkRecall p va = s := by
    unfold State.walkRecall
    exact if_pos (List.all_eq_true.2 fun c hc => by simp [h.noLines c hc])
  unfold State.noteTranslation
  split
  · exact Quiet.refl k s
  · split
    · rw [hw]
      exact ⟨⟨⟨rfl, rfl, rfl, rfl⟩, rfl, fun _ => rfl, id⟩, rfl, id⟩
    · exact Quiet.refl k s

/-- No stash serves an access, and none gives a line back: an access is performed where it lies (R99). -/
theorem place_noStash (h : noStash s) (p : Party) (space va : Nat) (wide write : Bool) (loc : Loc) :
    s.place p space va wide write loc = (loc, s) := by
  have hb : s.binding p va = none := by
    unfold State.binding
    split
    · rfl
    · rw [List.find?_eq_none.2]
      intro j hj
      have : j.stash.any (fun e => bindCovers e va) = false :=
        List.any_eq_false.2 fun e he => by simp [bindCovers, (h.1 j hj).2 e he]
      simp [this]
  unfold State.place State.servedBy
  cases loc with
  | lunath a => simp [hb, State.recall_noLines h.noLines]
  | _ => rfl

/-! ### Reads of Lunath (R104, R304, R308) -/

/-- A current copy has the bytes of memory. -/
theorem copyBytes_current {c : Copy} (h : c.old = []) (a n : Nat) : copyBytes s c a n = Memory.readBytes s.mem a n := by
  unfold copyBytes Memory.readBytes
  rw [h]
  rfl

theorem behind_noRemote (h : s.remote = []) (d : Option (BitVec 3)) (line : Nat) : s.behind d line = [] := by
  unfold State.behind
  rw [h]
  rfl

theorem homeBytes_noRemote (h : s.remote = []) (d : Option (BitVec 3)) (a n : Nat) :
    s.homeBytes d a n = Memory.readBytes s.mem a n := by
  unfold State.homeBytes
  rw [h]
  rfl

theorem mem_withoutLine {line : Nat} {cs : List Copy} {c : Copy} (h : c ∈ withoutLine line cs) : c ∈ cs :=
  (List.mem_filter.1 h).1

theorem dropCells_nil (a n : Nat) : dropCells [] a n = [] := by
  induction n generalizing a with
  | zero => rfl
  | succ n ih => exact ih (a + 1)

/-- Current copies stay current as a core meets bytes of a line. -/
theorem freshCopies_current {line a n : Nat} {cs : List Copy} (h : ∀ c ∈ cs, c.old = []) :
    ∀ c ∈ freshCopies line a n cs, c.old = [] := by
  intro c hc
  obtain ⟨d, hd, rfl⟩ := List.mem_map.1 hc
  split
  · simp [h d hd, dropCells_nil]
  · exact h d hd

theorem mem_upsert {α : Type} {p : α → Bool} {a b : α} {l : List α} (h : b ∈ upsert p a l) : b = a ∨ b ∈ l := by
  induction l with
  | nil => simpa [upsert] using h
  | cons c rest ih =>
    unfold upsert at h
    split at h
    · exact (List.mem_cons.1 h).imp_right (List.mem_cons_of_mem c)
    · rcases List.mem_cons.1 h with rfl | h
      · exact .inr List.mem_cons_self
      · exact (ih h).imp_right (List.mem_cons_of_mem c)

/-- The copy that a miss leaves in the data cache, with `fill`, and in the die's L2, with `keep`. -/
def keepCopy (s : State) (k : CoreId) (fill keep : Bool) (c : Copy) : State :=
  let s1 := s.setCore { s.core k with copies := (if fill then [c] else []) ++ withoutLine c.line (s.core k).copies }
  s1.setDie { s1.die k.die with copies := (if keep then [c] else []) ++ withoutLine c.line (s1.die k.die).copies }

/-- The copy that a miss finds: that of the die's L2, or the line as its home has it (R104). -/
def missedCopy (s : State) (k : CoreId) (line : Nat) : Copy :=
  ⟨line, none, (s.l2Copy k.die line).elim (s.behind (some k.die) line) (·.old)⟩

theorem missCached_eq (s : State) (k : CoreId) (fill : Bool) (a n : Nat) :
    s.missCached k fill a n = (copyBytes s (missedCopy s k (a / 128)) a n,
      (keepCopy s k fill (k.die != homeDie a && (fill || (s.l2Copy k.die (a / 128)).isSome))
        (missedCopy s k (a / 128))).noteDt (homeDie a) (s.core k).pts) := by
  unfold State.missCached keepCopy missedCopy
  dsimp only
  cases s.l2Copy k.die (a / 128) <;> rfl

theorem missedCopy_current (hr : s.remote = []) (hf : Fresh s k) (line : Nat) : (missedCopy s k line).old = [] := by
  unfold missedCopy
  cases hq : s.l2Copy k.die line with
  | none => exact behind_noRemote hr _ _
  | some q => exact hf.2 q (List.mem_of_find?_eq_some hq)

theorem keepCopy_quiet {c : Copy} (hc : c.old = []) (fill keep : Bool) : Quiet k s (keepCopy s k fill keep c) := by
  have hput (b : Bool) (cs : List Copy) (h : ∀ x ∈ cs, x.old = []) :
      ∀ x ∈ (if b then [c] else []) ++ withoutLine c.line cs, x.old = [] := by
    intro x hx
    rcases List.mem_append.1 hx with hx | hx
    · cases b
      · cases hx
      · rw [List.mem_singleton.1 hx]; exact hc
    · exact h x (mem_withoutLine hx)
  refine Quiet.trans ?_ (Quiet.setDie (die_id _ k.die) fun hf _ => hput _ _ hf.2)
  exact Quiet.setCore (State.core_id s k) rfl fun hf _ => hput _ _ hf.1

/-- A miss of the data cache, served by the die's L2 or at the line's home (R104, R105). -/
theorem missCached_quiet (hr : s.remote = []) (hf : Fresh s k) (fill : Bool) (a n : Nat) :
    (s.missCached k fill a n).1 = Memory.readBytes s.mem a n ∧ Quiet k s (s.missCached k fill a n).2 := by
  have hold := missedCopy_current hr hf (a / 128)
  rw [missCached_eq]
  exact ⟨copyBytes_current hold a n, (keepCopy_quiet hold _ _).trans (Quiet.noteDt _ _ _)⟩

/-- A load performed at the home L2, or under a lease taken there (R308). -/
theorem missHome_quiet (hr : s.remote = []) (lease : Option Nat) (ord a n : Nat) :
    (s.missHome k lease ord a n).1 = Memory.readBytes s.mem a n ∧ Quiet k s (s.missHome k lease ord a n).2 := by
  unfold State.missHome
  simp only [hr, List.any_nil, Bool.false_eq_true, if_false]
  refine ⟨homeBytes_noRemote hr _ _ _, Quiet.trans ?_ (Quiet.acquireTime _ _ _ _)⟩
  refine Quiet.trans ?_ (Quiet.acquireTime _ _ _ _)
  have hc := Quiet.carryTime (k := k) s (some k) (a / 128)
  refine Quiet.trans ?_ (Quiet.setDie (die_id _ k.die) fun hf' _ y hy => hf'.2 y (mem_withoutLine hy))
  have hcopy : Quiet k s ((s.carryTime (some k) (a / 128)).setCore { (s.carryTime (some k) (a / 128)).core k with
      copies := match lease with
        | some _ => upsert (fun c => c.line == a / 128)
            ⟨a / 128, some (((s.carryTime (some k) (a / 128)).stampNow (a / 128)).wts,
              ((s.carryTime (some k) (a / 128)).core k).pts + BitVec.ofNat 16 (lease.getD 0)),
              (s.carryTime (some k) (a / 128)).behind (some k.die) (a / 128)⟩ ((s.carryTime (some k) (a / 128)).core k).copies
        | none => freshCopies (a / 128) a n ((s.carryTime (some k) (a / 128)).core k).copies }) := by
    refine hc.trans (Quiet.setCore (State.core_id _ k) rfl fun hf' _ y hy => ?_)
    cases lease with
    | none => exact freshCopies_current hf'.1 y hy
    | some _ =>
      rcases mem_upsert hy with rfl | hy
      · exact behind_noRemote (hc.remote hr) _ _
      · exact hf'.1 y hy
  split
  · exact hcopy.trans (Quiet.setStamp _ _)
  · exact hcopy.trans (Quiet.setStamp _ _)

/-- A load of a core delivers the bytes of memory, from whatever serves it. -/
theorem homeRead_quiet {p : Party} (hp : p.core = some k) (hr : s.remote = []) (hf : Fresh s k) (kind : ReadKind)
    (fill : Bool) (ord a n : Nat) :
    (s.homeRead p kind fill ord a n).1 = Memory.readBytes s.mem a n
      ∧ Quiet k s (s.homeRead p kind fill ord a n).2 := by
  unfold State.homeRead
  rw [hp]
  dsimp only
  split
  · rename_i c hc
    refine ⟨copyBytes_current (hf.1 c (List.mem_of_find?_eq_some hc)) a n, ?_⟩
    dsimp only
    split
    · exact Quiet.acquireTime s k _ _
    · exact Quiet.refl k s
  · cases kind
    · exact missHome_quiet hr _ _ _ _
    · exact missHome_quiet hr _ _ _ _
    · exact missCached_quiet hr hf _ _ _

end Sys2Proof.Claims
end

section
/-! The elements of a load (R229-R237): the bytes at their locations, or those that have come back from another package or
the host. -/

namespace Sys2Proof.Claims

open Sys2Proof Sys2Proof.Machine

variable {s t : State} {k : CoreId} {c : Coach} {l : Launch}

/-- Bytes of a local store are those of its cells and of the crews' regions. -/
theorem storeBytes_quiet (h : Quiet k s t) (j : CoreId) (a n : Nat) : t.storeBytes j a n = s.storeBytes j a n :=
  List.map_congr_left fun i _ => h.sameBytes (.store j) (a + i)

theorem valueAt_quiet (h : Quiet k s t) (c : Coach) (r : Elem × Loc) : valueAt t c r = valueAt s c r := by
  unfold valueAt
  split
  · rw [h.mem]
  · rw [storeBytes_quiet h]
  · rfl

/-! ### One element -/

/-- The data cache after a read of host memory: no copy of a line of Lunath changes. -/
theorem Quiet.keepHost (s : State) (c : Coach) (e : Elem) (loc : Loc) (bs : List Byte) :
    Quiet k s (s.keepHost c e loc bs) := by
  unfold State.keepHost
  split
  · dsimp only
    split
    · exact Quiet.setCore (State.core_id s _) rfl fun hf hk y hy => hf.1 y (hk ▸ hy)
    · exact Quiet.refl k s
  · exact Quiet.refl k s

/-- A location of the package is read as memory has it. -/
theorem readLoc_quiet {p : Party} (hp : p.core = some k) (hr : s.remote = []) (hf : Fresh s k) (m : ReadMode) (c : Coach)
    {r : Elem × Loc} (hloc : r.2.isRemote = false) :
    leNat (s.readLoc p m r.2 r.1.size).1 = valueAt s c r ∧ Quiet k s (s.readLoc p m r.2 r.1.size).2 := by
  obtain ⟨e, loc⟩ := r
  cases loc with
  | lunath a =>
    obtain ⟨hb, hq⟩ := homeRead_quiet hp hr hf m.kind m.fill m.ord a e.size
    exact ⟨congrArg leNat hb, hq⟩
  | store j a => exact ⟨rfl, Quiet.refl k s⟩
  | host a => cases hloc
  | peer va => cases hloc

/-- The read of one element. -/
theorem readElem_quiet (hs : noStash s) (hf : Fresh s c.core) (relaxed : Bool) (r : Elem × Loc) :
    (s.readElem l c relaxed r).1 = valueAt s c r ∧ Quiet c.core s (s.readElem l c relaxed r).2 := by
  unfold State.readElem
  dsimp only
  split
  · rename_i hrem
    refine ⟨?_, (Quiet.keepHost s c r.1 r.2 (c.answerBytes r.1 r.2)).trans ?_⟩
    · obtain ⟨e, loc⟩ := r
      cases loc with
      | host a => rfl
      | peer va => rfl
      | lunath a => cases hrem
      | store j a => cases hrem
    · dsimp only
      exact Quiet.orderPlain _ _ _ _ _ _ _
  · rename_i hrem
    have hn : Quiet c.core s (if translated (ptrSpace r.1.p) = true then
        s.noteTranslation (l.party (some c.core)) r.1.va else s) := by
      split
      · exact Quiet.noteTranslation hs _ _
      · exact Quiet.refl _ s
    generalize (if translated (ptrSpace r.1.p) = true then
      s.noteTranslation (l.party (some c.core)) r.1.va else s) = s0 at hn ⊢
    have hs0 := noStash_around hn.toAround hs
    rw [place_noStash hs0]
    dsimp only
    obtain ⟨hv, hq⟩ := readLoc_quiet (p := l.party (some c.core)) rfl hs0.2 (hn.fresh hf) (ptrReadMode r.1.p relaxed) c
      (Bool.eq_false_iff.2 hrem)
    refine ⟨hv.trans (valueAt_quiet hn c r), (hn.trans hq).trans ?_⟩
    exact Quiet.orderPlain _ _ _ _ _ _ _

/-- The reads of several elements, in their order. -/
theorem readElems_quiet (relaxed : Bool) (rs : List (Elem × Loc)) : ∀ {s : State}, noStash s → Fresh s c.core →
    (s.readElems l c relaxed rs).1 = rs.map (valueAt s c) ∧ Quiet c.core s (s.readElems l c relaxed rs).2 := by
  induction rs with
  | nil => exact fun _ _ => ⟨rfl, Quiet.refl _ _⟩
  | cons r rest ih =>
    intro s hs hf
    obtain ⟨hv, hq⟩ := readElem_quiet (l := l) hs hf relaxed r
    obtain ⟨hvs, hqs⟩ := ih (noStash_around hq.toAround hs) (hq.fresh hf)
    have hrest := hvs.trans (List.map_congr_left fun x _ => valueAt_quiet hq c x)
    exact ⟨congr (congrArg List.cons hv) hrest, hq.trans hqs⟩

/-! ### What the data cache delivers of host memory -/

theorem length_noCells (a n : Nat) : ((List.range n).filterMap (fun i => cellAt [] (a + i))).length = 0 :=
  congrArg List.length (List.filterMap_eq_nil_iff.2 fun _ _ => rfl)

/-- A data cache that holds nothing of host memory delivers only accesses of no bytes. -/
theorem hostCopy_empty (h : (s.core c.core).host = []) {e : Elem} {loc : Loc} {bs : List Byte}
    (hb : s.hostCopy c e loc = some bs) : e.size = 0 := by
  unfold State.hostCopy at hb
  split at hb
  · rw [h] at hb
    dsimp only at hb
    split at hb
    · rename_i hc
      obtain ⟨-, hall, -⟩ := hc
      exact hall.symm.trans (length_noCells _ _)
    · cases hb
  · cases hb

theorem answerBytes_empty {e : Elem} (h : e.size = 0) (c : Coach) (loc : Loc) : c.answerBytes e loc = [] := by
  unfold Coach.answerBytes
  rw [h]
  split <;> rfl

/-- What the data cache delivers beside the answers changes no value where it holds nothing of host memory. -/
theorem valueAt_withCopies (h : (s.core c.core).host = []) {rs : List (Elem × Loc)} {r : Elem × Loc} (hr : r ∈ rs)
    (hl : s.lacksAnswer c rs = false) : valueAt s (s.withCopies c rs) r = valueAt s c r := by
  have hbytes (hrem : r.2.isRemote = true) : (s.withCopies c rs).answerBytes r.1 r.2 = c.answerBytes r.1 r.2 := by
    cases ha : c.answer (readKey r.1 r.2) with
    | some bs =>
      have : (s.withCopies c rs).answer (readKey r.1 r.2) = some bs := by
        unfold Coach.answer State.withCopies at *
        rw [List.find?_append]
        cases hf : c.answers.find? (fun a => a.key == readKey r.1 r.2) with
        | none => rw [hf] at ha; cases ha
        | some x => rw [hf] at ha; exact ha
      unfold Coach.answerBytes
      rw [this, ha]
    | none =>
      have hlack : s.lacks c r = false := by
        have := List.any_eq_false.1 hl r hr
        simpa using this
      have hsize : r.1.size = 0 := by
        unfold State.lacks at hlack
        rw [hrem, ha] at hlack
        cases hc : s.hostCopy c r.1 r.2 with
        | none => rw [hc] at hlack; cases hlack
        | some bs => exact hostCopy_empty h hc
      rw [answerBytes_empty hsize, answerBytes_empty hsize]
  obtain ⟨e, loc⟩ := r
  cases loc with
  | lunath a => rfl
  | store j a => rfl
  | host a => exact congrArg leNat (hbytes rfl)
  | peer va => exact congrArg leNat (hbytes rfl)

/-! ### The elements of an instruction -/

theorem Quiet.clearGranules (gs : List (CoreId × Nat)) : ∀ s : State, Quiet k s (s.clearGranules gs) := by
  induction gs with
  | nil => exact Quiet.refl k
  | cons g rest ih =>
    intro s
    refine Quiet.trans ?_ (ih _)
    exact Quiet.setCore (State.core_id s g.1) rfl fun hf hk y hy => hf.1 y (hk ▸ hy)

/-- The elements of a load and what it leaves (R229, R304). -/
theorem loadReadsMemory : LoadReadsMemory := by
  intro s l c f m feq relaxed es vs s1 hs hcur h
  obtain ⟨hcore, hdie, hhost⟩ := hcur
  unfold State.loadElems at h
  split at h
  · cases h
  · rename_i rs hrs
    split at h
    · cases h
    · split at h
      · cases h
      · rename_i hlack
        dsimp only at h
        split at h
        · cases h
        · obtain ⟨hvs, hq⟩ := readElems_quiet (l := l) (c := s.withCopies c rs) relaxed rs hs ⟨hcore, hdie⟩
          simp only [Except.ok.injEq, Prod.mk.injEq] at h
          obtain ⟨rfl, rfl⟩ := h
          refine ⟨⟨_, rs, hrs, ?_⟩, Quiet.sameBytes (k := c.core) (hq.trans ?_)⟩
          · rw [hvs]
            exact List.map_congr_left fun r hr => valueAt_withCopies hhost hr (Bool.eq_false_iff.2 hlack)
          · have hclear (x : State) (gs : List (CoreId × Nat)) :
                Quiet c.core x (if feq = 2 then x.clearGranules gs else x) := by
              split
              · exact Quiet.clearGranules gs x
              · exact Quiet.refl _ x
            split
            · exact hclear _ _
            · exact (hclear _ _).trans (Quiet.learn _ _ _)

end Sys2Proof.Claims
end

section
/-! LD in its forms (R229-R233, R237): what its meaning does in each case, and with it the statement about loads. -/

namespace Sys2Proof.Claims

open Sys2Proof Sys2Proof.Machine

variable {s s0 s1 : State} {c : Coach} {l : Launch} {o : Op} {f : Fields} {i : Instr}

/-- Every format of LD has the one meaning. -/
theorem exec_ld (h : view i = some (.ld, f)) (s : State) : exec i s = issue .ld f (ldBody f) s := by
  cases i <;> cases h <;> rfl

/-- An instruction whose meaning raises a trap takes it. -/
theorem traps_of_error {body : Body} {t : Trap} (hi : exec i s = issue o f body s) (h : Issues s c l o f)
    (hb : body (s.beginIssue c o) l (awake c) = .error (.trap t)) : Traps i s c o f t := by
  have ht := issue_trap h.selected h.launched h.preTrap h.free hb
  unfold State.trapAfterGrid at ht
  refine ⟨fun hg => ?_, fun hg => ?_⟩
  · rw [hi, ht, if_neg (by simp [hg])]
  · rw [hi, ht, if_pos (Option.isSome_iff_ne_none.2 hg)]

theorem checked_error {ts : List (Option Trap)} {t : Trap} (h : firstTrap ts = some t) (r : Except Stop State) :
    checked ts r = .error (.trap t) := by
  unfold checked
  rw [h]

theorem checked_none {ts : List (Option Trap)} (h : firstTrap ts = none) (r : Except Stop State) : checked ts r = r := by
  unfold checked
  rw [h]

theorem entering_some {join : Nat} (h : s.enterQueue (joinSender c.core join) (c.id, c.pc) = some s0)
    (g : State → Except Stop State) : s.entering c join g = g s0 := by
  unfold State.entering
  rw [h]

/-! ### Fields -/

theorem memForm_eq (f : Fields) : memForm f = f.k6.toNat / 8 := by
  have := f.k6.isLt
  simp only [memForm, Fields.k, bits, Nat.shiftRight_eq_div_pow]
  omega

theorem loadFeq_eq (f : Fields) : loadFeq f = f.k6.toNat / 2 % 4 := by
  simp [loadFeq, Fields.k, bits, Nat.shiftRight_eq_div_pow]

/-- The scalar forms index with B alone, whatever the state. -/
theorem formLane_scalar (h : memForm f = 0 ∨ memForm f = 4) (s t : State) (j : Nat) : s.formLane c f j = t.formLane c f j := by
  unfold State.formLane
  rcases h with h | h <;> simp only [h]

/-- The progress of a load that waited on full-empty bits. -/
theorem feProgress_eq (d : Coach) (f : Fields) : d.feProgress f = if loadFeq f = 0 then d else { d with wdc := 0 } := rfl

theorem feProgress_awake (d : Coach) (f : Fields) : (awake d).feProgress f = awake (d.feProgress f) := by
  simp only [feProgress_eq]
  split <;> rfl

/-! ### The vector forms -/

/-- Writing a vector register keeps a coach's name and core, and its wait. -/
theorem writeV_coach (s : State) (d : Coach) (n : Nat) (act : DWord) (r : Result) :
    (s.writeV d n act r).2.id = d.id ∧ (s.writeV d n act r).2.core = d.core ∧ (s.writeV d n act r).2.wait = d.wait := by
  unfold State.writeV
  split
  · exact ⟨rfl, rfl, rfl⟩
  · split <;> exact ⟨rfl, rfl, rfl⟩

/-- The register of a vector load: the value of each lane that was loaded. -/
def loadedReg (w : Nat) (vals : List (Nat × Word)) : VReg :=
  .g ((List.range w).map (fun j => match vals.find? (fun r => r.1 == j) with
    | some r => r.2
    | none => 0))

theorem loadedReg_elem {w j : Nat} {vals : List (Nat × Word)} {x : Word} (hj : j < w)
    (h : vals.find? (fun r => r.1 == j) = some (j, x)) : (loadedReg w vals).elem j = x := by
  simp [loadedReg, VReg.elem, hj, h]

/-- The meaning of a vector load whose elements have been read. -/
theorem loadVector_ok {vals : List (Nat × Word)}
    (h : s.loadLanes l c f (formPlan c f) (loadFeq f) ((c.actLanes f).map (s.formLane c f)) = .ok (vals, s1)) :
    loadVector f s l c =
      let q := s1.writeV (c.feProgress f) f.d.toNat (c.act f) { value := loadedReg c.width vals, keepExited := true }
      finish q.1 q.2 f := by
  unfold loadVector
  rw [h]
  rfl

/-! ### The scalar forms -/

/-- The coach after LD.s and LD.p of the element `v`. -/
def loadedScalar (s : State) (c : Coach) (f : Fields) (v : Nat) : Coach :=
  let fmt := ptrFmt (c.pr f.a.toNat)
  if memForm f = 4 then c.setP f.d.toNat (BitVec.ofNat 128 v)
  else c.setX f.d.toNat
    (fmtToDWord fmt (s.cbSlot c (fmt - 0x10)).entries (if fmtHalf fmt then nibble v (s.formLane c f 0).nib else v))

theorem loadedScalar_coach (s : State) (c : Coach) (f : Fields) (v : Nat) :
    (loadedScalar s c f v).id = c.id ∧ (loadedScalar s c f v).core = c.core ∧ (loadedScalar s c f v).wait = c.wait := by
  unfold loadedScalar
  dsimp only
  split
  · exact ⟨rfl, rfl, rfl⟩
  · unfold Coach.setX
    split <;> exact ⟨rfl, rfl, rfl⟩

/-- The meaning of a scalar load whose element has been read. -/
theorem loadScalar_ok {v : Nat} {rest : List Nat}
    (h : s.loadElems l c f { lanes := false } (loadFeq f) false
      ((formPlan c f).elems c false false [s.formLane c f 0]) = .ok (v :: rest, s1)) :
    loadScalar f s l c = finish s1 ((loadedScalar s c f v).feProgress f) f := by
  unfold loadScalar
  dsimp only
  rw [h]
  rfl

/-- What a coach waited for makes no difference to its load. -/
theorem loadedScalar_awake (s : State) (c : Coach) (f : Fields) (v : Nat) :
    loadedScalar s (awake c) f v = awake (loadedScalar s c f v) := by
  by_cases hf : memForm f = 4
  · simp only [loadedScalar, hf, if_true]
    rfl
  · simp only [loadedScalar, hf, if_false, Coach.setX]
    split <;> rfl

/-! ### The statement -/

/-- Scalar-slot instructions find the core as it is. -/
theorem beginIssue_ld (s : State) (c : Coach) : s.beginIssue c .ld = s := State.beginIssue_scalar rfl

/-- LD whose operand checks pass has the meaning of its form. -/
theorem ldBody_scalar (hc : firstTrap (s.formChecks l c .ld f) = none) (hf : memForm f = 0 ∨ memForm f = 4) :
    ldBody f s l c = whenActive s c f (s.entering c 0 (fun s1 => loadScalar f s1 l c)) := by
  unfold ldBody
  rw [checked_none hc, if_pos hf]

theorem ldBody_vector (hc : firstTrap (s.formChecks l c .ld f) = none) (hf : ¬ (memForm f = 0 ∨ memForm f = 4))
    (hin : letIn s c (.coachMemory c.core) (c.act f ≠ 0) s0) : ldBody f s l c = loadVector f s0 l c := by
  unfold ldBody
  rw [checked_none hc, if_neg hf]
  split
  · rename_i ha
    rw [hin.2 (Classical.not_not.2 ha)]
  · rename_i ha
    exact entering_some (hin.1 ha) _

/-- LD.s and LD.p complete with their element in X[D] or P[D]. -/
theorem load_scalar_ends (hv : view i = some (.ld, f)) (h : Issues s c l .ld f)
    (hc : firstTrap (s.formChecks l (awake c) .ld f) = none) (hf : memForm f = 0 ∨ memForm f = 4) (ha : c.act f ≠ 0)
    (hin : letIn s c (.coachMemory c.core) (c.act f ≠ 0) s0) {v : Nat} {rest : List Nat}
    (he : s0.loadElems l (awake c) f { lanes := false } (loadFeq f) false
      ((formPlan c f).elems c false false [s.formLane c f 0]) = .ok (v :: rest, s1)) :
    Ends i s s1 c (onward f ((loadedScalar s0 c f v).feProgress f)) .ld f := by
  have hbody : ldBody f (s.beginIssue c .ld) l (awake c)
      = finish s1 ((loadedScalar s0 (awake c) f v).feProgress f) f := by
    rw [formLane_scalar hf s s0] at he
    rw [beginIssue_ld, ldBody_scalar hc hf]
    exact (if_neg ha).trans ((entering_some (c := awake c) (hin.1 ha) _).trans (loadScalar_ok he))
  obtain ⟨hid, hcore, hwait⟩ := loadedScalar_coach s0 (awake c) f v
  have hends := ends_of_finish (exec_ld hv s) h hbody (by rw [feProgress_eq]; split <;> exact hid)
    (by rw [feProgress_eq]; split <;> exact hcore) (by rw [feProgress_eq]; split <;> exact hwait)
  rw [loadedScalar_awake, feProgress_awake] at hends
  exact hends

/-- LD.v, LD.b and LD.bt complete with the lanes' elements in V[D]. -/
theorem load_vector_ends (hv : view i = some (.ld, f)) (h : Issues s c l .ld f)
    (hc : firstTrap (s.formChecks l (awake c) .ld f) = none) (hf : ¬ (memForm f = 0 ∨ memForm f = 4))
    (hin : letIn s c (.coachMemory c.core) (c.act f ≠ 0) s0) {vals : List (Nat × Word)}
    (he : s0.loadLanes l (awake c) f (formPlan c f) (loadFeq f) ((c.actLanes f).map (s0.formLane c f)) = .ok (vals, s1)) :
    let q := s1.writeV ((awake c).feProgress f) f.d.toNat (c.act f)
      { value := loadedReg c.width vals, keepExited := true }
    Ends i s q.1 c (onward f q.2) .ld f := by
  intro q
  have hbody : ldBody f (s.beginIssue c .ld) l (awake c) = finish q.1 q.2 f := by
    rw [beginIssue_ld, ldBody_vector (c := awake c) hc hf hin]
    exact loadVector_ok he
  obtain ⟨hid, hcore, hwait⟩ := writeV_coach s1 ((awake c).feProgress f) f.d.toNat (c.act f)
    { value := loadedReg c.width vals, keepExited := true }
  rw [feProgress_eq] at hid hcore hwait
  exact ends_of_finish (exec_ld hv s) h hbody (hid.trans (by split <;> rfl)) (hcore.trans (by split <;> rfl))
    (hwait.trans (by split <;> rfl))

theorem loadCompletes : LoadCompletes := by
  intro i f hv s c l h form feq
  have hform : memForm f = form := memForm_eq f
  have hfeq : loadFeq f = feq := loadFeq_eq f
  refine ⟨fun t ht => ?_, fun hc ha hf => ?_, fun hc s0 hin => ⟨fun hf ha v rest s1 he => ?_, fun h0 h4 vals s1 he => ?_⟩⟩
  · refine traps_of_error (exec_ld hv s) h ?_
    rw [beginIssue_ld]
    exact checked_error ht _
  · refine ends_of_finish (exec_ld hv s) h (d := awake c) ?_ rfl rfl rfl
    rw [beginIssue_ld, ldBody_scalar hc (hform ▸ hf)]
    exact if_pos ha
  · rw [← hfeq] at he
    have hends := load_scalar_ends hv h hc (hform ▸ hf) ha hin he
    rw [feProgress_eq, loadedScalar, hform, hfeq, formLane_scalar (hform ▸ hf) s0 s] at hends
    exact hends
  · rw [← hfeq] at he
    have hends := load_vector_ends hv h hc (by rw [hform]; omega) hin he
    rw [feProgress_eq, hfeq] at hends
    exact ⟨loadedReg c.width vals, rfl, fun j x hj hx => loadedReg_elem hj hx, hends⟩

/-- Settles O23: LD completes in each of its forms, and its elements are the bytes at their locations. -/
theorem loads : Obligations.Loads := ⟨loadCompletes, loadReadsMemory⟩

end Sys2Proof.Claims
end

section
/-! The frame of a store (R232, R234, R400): its checks, made anew without what the coach has received, can fail where the
store completes. The peer check of R400 is made once, before the first packet leaves; a store whose packets have all left
completes without it, and the pod-table entry of the package may have become invalid since. -/

namespace Sys2Proof.Claims

open Sys2Proof Sys2Proof.Machine

/-- A package whose pod table, at 0, is empty: the entry of every package is invalid. -/
def emptyPod : State := { State.reset with window := { State.reset.window with podWritten := true } }

/-- The plan of a store of four bytes at P0. -/
def wordAtP0 : LanePlan := { ptr := 0, scalePtr := none, raw := 4 }

/-- The one lane of the store, at offset 0. -/
def firstLane : LaneAt := { lane := 0, off := 0 }

/-- A coach whose P0 names the first 8 bytes of package 0 in pod space, and that has sent the write of their line. -/
def sentCoach : Coach := { standInLaunch.newCoach standInId standInCore 0 with
  p := [ptrMake 0 0x400 8]
  answers := [{ key := sentKey 4, bytes := [] }] }

/-- The store completes: its packet has been sent, and the peer check is not made again. -/
theorem sentStore_isOk :
    (emptyPod.storeLanes standInLaunch sentCoach {} wordAtP0 32 [(firstLane, 7)]).isOk = true := by
  decide +kernel

/-- The checks of an access that has had no answer meet the invalid pod-table entry. -/
theorem sentStore_checks_fail :
    (emptyPod.resolve standInLaunch sentCoach {} (wordAtP0.elems sentCoach true false [firstLane])).isOk = false := by
  decide +kernel

/-- The statement asks that the checks of every store that completes pass; those of `sentCoach` do not. -/
theorem not_storeFrame : ¬ StoreFrame := by
  intro h
  have hok := sentStore_isOk
  cases hstore : emptyPod.storeLanes standInLaunch sentCoach {} wordAtP0 32 [(firstLane, 7)] with
  | error e => rw [hstore] at hok; cases hok
  | ok r =>
    obtain ⟨rs, hrs, -⟩ := h emptyPod standInLaunch sentCoach {} wordAtP0 32 [(firstLane, 7)] r.1 r.2
      ⟨nofun, rfl⟩ rfl hstore
    have hfail := sentStore_checks_fail
    rw [show [firstLane] = [(firstLane, 7)].map (·.1) from rfl, hrs] at hfail
    cases hfail

/-- Refutes O24: a store to another package completes once its packets have left, though the pod-table entry of the package
is invalid by then; the frame resolves its elements as if the packets were still to leave, and that fails. -/
theorem not_stores : ¬ Obligations.Stores := fun h => not_storeFrame h.2

end Sys2Proof.Claims
end

section
/-! Entries from the switches: acceptance, NACK and answer (R59, R315, R316, R318, R324, R404). -/

namespace Sys2Proof.Machine

open Sys2Proof

variable {s t : State}

/-! ### Windows (R59, R316) -/

theorem State.sender_congr (h : t.senders = s.senders) (id : SenderId) : t.sender id = s.sender id := by
  unfold State.sender
  rw [h]

theorem State.sender_id (s : State) (id : SenderId) : (s.sender id).id = id := by
  unfold State.sender
  cases h : s.senders.find? (fun k => k.id == id) with
  | none => rfl
  | some k => simpa using List.find?_some h

/-- A sender replaced is found. -/
theorem State.sender_setSender (s : State) (k : Sender) : (s.setSender k).sender k.id = k := by
  unfold State.sender State.setSender
  rw [find_upsert (fun b hb => by simpa using hb) (fun b hb _ => hb), if_pos (by simp)]
  rfl

theorem State.sender_joinWindow (s : State) (id : SenderId) (o : Option (CoachId × DWord)) (p : Packet) :
    (s.joinWindow id o p).sender id
      = { s.sender id with entries := (s.sender id).entries ++ [o], packets := (s.sender id).packets ++ [p] } := by
  have h := State.sender_setSender s
    { s.sender id with entries := (s.sender id).entries ++ [o], packets := (s.sender id).packets ++ [p] }
  rwa [show ({ s.sender id with
    entries := (s.sender id).entries ++ [o], packets := (s.sender id).packets ++ [p] } : Sender).id = id
    from State.sender_id s id] at h

theorem Around.acceptAt (s : State) (port : BitVec 4) : Around s (s.acceptAt port) :=
  ⟨⟨rfl, rfl, rfl, rfl⟩, rfl, State.cells_congr rfl, id⟩

theorem Around.logRecord (s : State) (r : List Byte) : Around s (s.logRecord r) :=
  ⟨⟨rfl, rfl, rfl, rfl⟩, rfl, State.cells_congr rfl, id⟩

end Sys2Proof.Machine

namespace Sys2Proof.Claims

open Sys2Proof Sys2Proof.Machine

variable {s t : State} {p : Packet} {e : Instr} {line : Except (Option Breach) Nat} {act : State → Nat → State}
  {port : BitVec 4} {room : Bool} {b : Option Breach} {a : Nat}

/-! ### Acceptance -/

theorem ifUp_next (h : up s) (t : State) : s.ifUp t = .next t := by
  obtain ⟨hp, hb⟩ := h
  simp [State.ifUp, hp, hb]

/-- Changing nothing is no change, whether the package runs or not. -/
theorem ifUp_self (s : State) : s.ifUp s = .next s := by
  unfold State.ifUp
  split <;> rfl

theorem linkOpen_iff (s : State) (id : LinkId) : linkOpen s id ↔ s.retraining id = false := by
  simp only [linkOpen, State.retraining, List.any_eq_false, Bool.and_eq_true, beq_iff_eq, not_and]
  exact ⟨fun h k hk hid hr => h k hk hr hid, fun h k hk hr hid => h k hk hid hr⟩

theorem windowOpen_iff (s : State) (id : SenderId) : windowOpen s id ↔ s.hasPlace id = true := by
  simp [windowOpen, State.hasPlace]

theorem arrive_accepted {f : State → State} (h : accepted s port e (room = true)) :
    s.arrive port e room f = f (s.acceptAt port) := by
  obtain ⟨hroom, hfirst⟩ := h
  unfold State.arrive
  rw [hroom]
  cases hr : s.refusedAt port with
  | none => rfl
  | some r => simp [hfirst r hr]

theorem arrive_nacked {f : State → State} (h : ¬ accepted s port e (room = true)) :
    s.arrive port e room f = s.nackAt port e := by
  unfold State.arrive
  refine if_neg fun hc => h ?_
  rw [Bool.and_eq_true] at hc
  obtain ⟨hroom, hfirst⟩ := hc
  refine ⟨hroom, fun r hr => ?_⟩
  rw [hr] at hfirst
  simpa using hfirst

/-! ### Requests of peers -/

/-- Room for a request, as the model judges it, is that of the line that it reaches. -/
theorem requestOpen_iff (s : State) (p : Packet) (line : Except (Option Breach) Nat) :
    s.requestOpen p line = true ↔ hasRoom s p line.toOption := by
  cases line <;>
    simp [State.requestOpen, hasRoom, State.replySender, Except.toOption, linkOpen_iff, windowOpen_iff, State.portOf, portFor,
      and_assoc]

theorem accepted_congr {p q : Prop} (h : p ↔ q) : accepted s port e p ↔ accepted s port e q := and_congr_left' h

theorem serve_otherWorld (h : s.steward.securePorts.getLsbD (portFor s p).toNat ≠ p.sec) : s.serve e p line act = s := by
  have hc : s.portCarries p = false := beq_eq_false_iff_ne.2 h
  unfold State.serve
  rw [hc]
  rfl

theorem serve_eq (h : s.steward.securePorts.getLsbD (portFor s p).toNat = p.sec) :
    s.serve e p line act = s.arrive (portFor s p) e (s.requestOpen p line) (fun s1 =>
      match line with
      | .error b => s1.dropPacket p b
      | .ok a => act s1 a) := by
  have hc : s.portCarries p = true := beq_iff_eq.2 h
  unfold State.serve
  rw [hc]
  rfl

theorem idle_otherWorld (hexec : exec e s = s.ifUp (s.serve e p line act))
    (h : s.steward.securePorts.getLsbD (portFor s p).toNat ≠ p.sec) : Idle e s := by
  unfold Idle
  rw [hexec, serve_otherWorld h, ifUp_self]

/-- A packet in answer to a request joins the window that the answer leaves by. -/
theorem joins_reply (h : Aside s t) (id : SenderId) (p : Packet) (op : Nat) (data : List Byte) :
    joins s (t.reply id p op data) id none (replied s p (BitVec.ofNat 4 op) data) := by
  unfold joins State.reply
  rw [State.sender_joinWindow, State.sender_congr h.senders, h.pkgno]
  rfl

theorem sameBytes_reply (t : State) (id : SenderId) (p : Packet) (op : Nat) (data : List Byte) :
    sameBytes t (t.reply id p op data) := sameBytes_of rfl rfl (State.cells_congr rfl)

section
variable (hup : up s) (hexec : exec e s = s.ifUp (s.serve e p line act))
  (hworld : s.steward.securePorts.getLsbD (portFor s p).toNat = p.sec)
include hup hexec hworld

theorem request_nacked (h : ¬ accepted s (portFor s p) e (hasRoom s p line.toOption)) : Nacked e s (portFor s p) := by
  unfold Nacked
  rw [hexec, ifUp_next hup, serve_eq hworld, arrive_nacked (by rwa [accepted_congr (requestOpen_iff s p line)])]
  rfl

/-- A request that is accepted and reaches no line is answered with a drop. -/
theorem request_dropped (hline : line = .error b) (h : accepted s (portFor s p) e (hasRoom s p none)) :
    ∃ t, Answers e s t ∧ sameBytes s t ∧ joins s t (dropsBy s p) none (replied s p 5 []) := by
  subst hline
  have hanswer : Answers e s ((s.acceptAt (portFor s p)).dropPacket p b) := by
    unfold Answers
    rw [hexec, ifUp_next hup, serve_eq hworld, arrive_accepted ((accepted_congr (requestOpen_iff s p (.error b))).2 h)]
  have hlog : ∃ u, (s.acceptAt (portFor s p)).dropPacket p b = u.reply (dropsBy s p) p 5 [] ∧ Around s u ∧ u.mem = s.mem := by
    cases b with
    | none => exact ⟨_, rfl, Around.acceptAt s _, rfl⟩
    | some b =>
      by_cases hb : b.cls = 10
      · exact ⟨_, by simp only [State.dropPacket, if_pos hb]; rfl, (Around.acceptAt s _).trans (Around.logRecord _ _), rfl⟩
      · exact ⟨_, by simp only [State.dropPacket, if_neg hb]; rfl, Around.acceptAt s _, rfl⟩
  obtain ⟨u, hu, haround, hmem⟩ := hlog
  exact ⟨_, hanswer, hu ▸ (sameBytes_of_around haround hmem).trans (sameBytes_reply _ _ _ _ _),
    hu ▸ joins_reply haround.toAside _ _ _ _⟩

/-- A request that is accepted and reaches a line is performed. -/
theorem request_performed (hline : line = .ok a) (h : accepted s (portFor s p) e (hasRoom s p (some a))) :
    Answers e s (act (s.acceptAt (portFor s p)) a) := by
  subst hline
  unfold Answers
  rw [hexec, ifUp_next hup, serve_eq hworld, arrive_accepted ((accepted_congr (requestOpen_iff s p (.ok a))).2 h)]

end

end Sys2Proof.Claims
end

section
/-! What requests of peers do to memory, and the statement about them (R314-R318). -/

namespace Sys2Proof.Machine

open Sys2Proof

variable {s : State}

/-! ### Enabled bytes of a line (R315) -/

/-- Write the enabled bytes of a line at `a`, one by one. -/
def writeEnabled (be : BitVec 128) (data : List Byte) (a : Nat) (m : List Host.Cell) (is : List Nat) : List Host.Cell :=
  is.foldl (fun m i => if be.getLsbD i then Memory.write m (a + i) (data.getD i 0) else m) m

/-- Writing runs leaves what writing their bytes one by one leaves. -/
theorem foldl_enabledRuns (be : BitVec 128) (data : List Byte) (a : Nat) (is : List Nat) (m : List Host.Cell) :
    (enabledRuns be data is).foldl (fun m r => Memory.writeBytes m (a + r.1) r.2) m = writeEnabled be data a m is := by
  induction is generalizing m with
  | nil => rfl
  | cons i rest ih =>
    unfold enabledRuns
    by_cases hi : be.getLsbD i = true
    · have hcons : writeEnabled be data a m (i :: rest)
          = writeEnabled be data a (Memory.write m (a + i) (data.getD i 0)) rest := by simp [writeEnabled, hi]
      rw [if_pos hi, hcons, ← ih]
      cases hruns : enabledRuns be data rest with
      | nil => rfl
      | cons r more =>
        obtain ⟨j, bs⟩ := r
        by_cases hj : j = i + 1
        · simp only [hj, if_true]
          rfl
        · simp only [hj, if_false]
          rfl
    · have hcons : writeEnabled be data a m (i :: rest) = writeEnabled be data a m rest := by simp [writeEnabled, hi]
      rw [if_neg hi, hcons, ih]

/-- The enabled bytes among the first `n` of a line are written, and no other byte. -/
theorem writeEnabled_range (be : BitVec 128) (data : List Byte) (a : Nat) {m : List Host.Cell} (h : Memory.wf m = true)
    (n : Nat) :
    let m' := writeEnabled be data a m (List.range n)
    Memory.wf m' = true ∧ ∀ x, Memory.read m' x
      = if a ≤ x ∧ x < a + n ∧ be.getLsbD (x - a) = true then data.getD (x - a) 0 else Memory.read m x := by
  induction n with
  | zero => exact ⟨h, fun x => by rw [if_neg (by omega)]; rfl⟩
  | succ n ih =>
    obtain ⟨hwf, hread⟩ := ih
    have hstep : writeEnabled be data a m (List.range (n + 1))
        = if be.getLsbD n then Memory.write (writeEnabled be data a m (List.range n)) (a + n) (data.getD n 0)
          else writeEnabled be data a m (List.range n) := by
      simp [writeEnabled, List.range_succ]
    dsimp only
    rw [hstep]
    by_cases hn : be.getLsbD n = true
    · rw [if_pos hn]
      refine ⟨Memory.write_wf _ _ hwf, fun x => ?_⟩
      rw [Memory.read_write _ _ _ (Memory.wf_rise hwf), hread]
      by_cases hx : x = a + n
      · subst hx
        simp [hn]
      · simp only [if_neg hx, show (x < a + (n + 1)) ↔ x < a + n by omega]
    · rw [if_neg hn]
      refine ⟨hwf, fun x => ?_⟩
      rw [hread]
      by_cases hx : x = a + n
      · subst hx
        simp [hn]
      · simp only [show (x < a + (n + 1)) ↔ x < a + n by omega]

/-! ### Writes of the home L2 one after another -/

/-- Where no stash holds a line, a write of Lunath changes its bytes and what is around. -/
theorem Around.lunathWrite (h : ∀ k ∈ s.crews, k.lines = []) (by_ : Option CoreId) (a : Nat) (data : List Byte) :
    Around s (s.lunathWrite by_ a data) := by
  unfold State.lunathWrite
  rw [State.recall_noLines h]
  exact Around.homeWrite s by_ a data

theorem lunathWrite_mem (h : ∀ k ∈ s.crews, k.lines = []) (by_ : Option CoreId) (a : Nat) (data : List Byte) :
    (s.lunathWrite by_ a data).mem = Memory.writeBytes s.mem a data := by
  unfold State.lunathWrite
  rw [State.recall_noLines h, State.homeWrite_mem]

/-- Several writes, each at `at_ r` of the bytes `bytes r`. -/
theorem foldl_lunathWrite {α : Type} (at_ : α → Nat) (bytes : α → List Byte) (rs : List α)
    (h : ∀ k ∈ s.crews, k.lines = []) :
    let t := rs.foldl (fun s r => s.lunathWrite none (at_ r) (bytes r)) s
    Around s t ∧ t.mem = rs.foldl (fun m r => Memory.writeBytes m (at_ r) (bytes r)) s.mem := by
  induction rs generalizing s with
  | nil => exact ⟨Around.refl s, rfl⟩
  | cons r rest ih =>
    have hfirst := Around.lunathWrite h none (at_ r) (bytes r)
    obtain ⟨haround, hmem⟩ := ih (s := s.lunathWrite none (at_ r) (bytes r)) (by rw [hfirst.crews]; exact h)
    rw [lunathWrite_mem h] at hmem
    dsimp only
    rw [List.foldl_cons, List.foldl_cons]
    exact ⟨hfirst.trans haround, hmem⟩

/-- A request of the package's own changes a copy at most, where no L2 holds a dirty line. -/
theorem Around.meetOwn (h : s.remote = []) (p : Packet) (a : Nat) : Around s (s.meetOwn p a) := by
  unfold State.meetOwn
  split
  · rw [State.writeBack_noRemote h]
    exact Around.dropCopy s _ _
  · exact Around.refl s

theorem meetOwn_mem (h : s.remote = []) (p : Packet) (a : Nat) : (s.meetOwn p a).mem = s.mem := by
  unfold State.meetOwn
  split
  · rw [State.writeBack_noRemote h, State.dropCopy_mem]
  · rfl

end Sys2Proof.Machine

namespace Sys2Proof.Claims

open Sys2Proof Sys2Proof.Machine

variable {s t : State} {p : Packet} {a : Nat}

/-! ### The three requests -/

/-- A state whose bytes of Lunath are those of `s` with `data` written at `a`. -/
theorem wrote_of (hwf : Memory.wf s.mem = true) (h : Around s t) {data : List Byte}
    (hmem : t.mem = Memory.writeBytes s.mem a data) : wrote s t a data := by
  have hread (x : Nat) : byteAt t .lunath x = if a ≤ x ∧ x < a + data.length then data.getD (x - a) 0 else byteAt s .lunath x := by
    show Memory.read t.mem x = _
    rw [hmem, Memory.read_writeBytes data a x hwf]
    rfl
  refine ⟨fun j hj => ?_, fun b hb => ?_, fun k b => ?_⟩
  · rw [hread, if_pos (by omega), Nat.add_sub_cancel_left]
  · rw [hread, if_neg (by omega)]
  · exact sameBytes_of (s := { s with mem := t.mem }) (t := t) rfl h.crews (fun k => h.cells k) (.store k) b

theorem wrote.congr {u : State} {data : List Byte} (h : wrote s t a data) (hu : sameBytes t u) : wrote s u a data := by
  obtain ⟨hin, hout, hstores⟩ := h
  exact ⟨fun j hj => (hu _ _).trans (hin j hj), fun b hb => (hu _ _).trans (hout b hb),
    fun k b => (hu _ _).trans (hstores k b)⟩

theorem packetRead_answers (h : noStash s) (p : Packet) (a : Nat) :
    sameBytes s (s.packetRead p a) ∧ joins s (s.packetRead p a) (answersBy a) none
      (replied s p 3 (Memory.readBytes s.mem a 128)) := by
  have haround := Around.meetOwn h.2 p a
  have hmem := meetOwn_mem h.2 p a
  unfold State.packetRead
  rw [State.recall_noLines h.noLines]
  dsimp only
  rw [homeBytes_noRemote (haround.remote h.2), hmem]
  exact ⟨(sameBytes_of_around haround hmem).trans (sameBytes_reply _ _ _ _ _), joins_reply haround.toAside _ _ _ _⟩

theorem packetWrite_answers (h : noStash s) (hwf : Memory.wf s.mem = true) (p : Packet) (a : Nat) :
    let t := s.packetWrite p a
    joins s t (answersBy a) none (replied s p 4 [])
      ∧ (∀ j, j < 128 → byteAt t .lunath (a + j) = if p.be.getLsbD j then p.data.getD j 0 else byteAt s .lunath (a + j))
      ∧ (∀ x, x < a ∨ a + 128 ≤ x → byteAt t .lunath x = byteAt s .lunath x)
      ∧ ∀ k x, byteAt t (.store k) x = byteAt s (.store k) x := by
  obtain ⟨hwrites, hmem⟩ := foldl_lunathWrite (fun r => a + r.1) (fun r => r.2)
    (enabledRuns p.be p.data (List.range 128)) h.noLines
  generalize hu : (enabledRuns p.be p.data (List.range 128)).foldl (fun s r => s.lunathWrite none (a + r.1) r.2) s = u
    at hwrites hmem
  rw [foldl_enabledRuns] at hmem
  have hown := Around.meetOwn (hwrites.remote h.2) p a
  have hbytes : sameBytes u ((u.meetOwn p a).reply (answersBy a) p 4 []) :=
    (sameBytes_of_around hown (meetOwn_mem (hwrites.remote h.2) p a)).trans (sameBytes_reply _ _ _ _ _)
  have hread := (writeEnabled_range p.be p.data a hwf 128).2
  have ht : s.packetWrite p a = (u.meetOwn p a).reply (answersBy a) p 4 [] := by
    unfold State.packetWrite
    rw [hu]
    rfl
  have hlunath (x : Nat) : byteAt (s.packetWrite p a) .lunath x
      = if a ≤ x ∧ x < a + 128 ∧ p.be.getLsbD (x - a) = true then p.data.getD (x - a) 0 else byteAt s .lunath x := by
    rw [ht, hbytes, ← show Memory.read s.mem x = byteAt s .lunath x from rfl, ← hread, ← hmem]
    rfl
  refine ⟨?_, fun j hj => ?_, fun x hx => ?_, fun k x => ?_⟩
  · rw [ht]
    exact joins_reply (hwrites.trans hown).toAside _ _ _ _
  · rw [hlunath, Nat.add_sub_cancel_left]
    simp [hj]
  · rw [hlunath, if_neg (by omega)]
  · rw [ht, hbytes]
    exact sameBytes_of (s := { s with mem := u.mem }) (t := u) rfl hwrites.crews (fun k => hwrites.cells k) (.store k) x

/-! ### Atomics (R239, R315) -/

/-- The bytes of an atomic's operand, its first enabled byte, and the value that it leaves, as the model finds them. -/
def atomSize (p : Packet) : Nat := if p.aw = 1 then 8 else 4
def atomPlace (p : Packet) : Nat := ((List.range 128).find? p.be.getLsbD).getD 0
def atomOld (s : State) (p : Packet) (a : Nat) : Nat := leNat (Memory.readBytes s.mem (a + atomPlace p) (atomSize p))
def atomLeft (s : State) (p : Packet) (a : Nat) : Nat :=
  atomNew (atomicFmt (p.aw == 1) (Config.freeNat s.fresh 0)) p.aop.toNat (Config.freeNat s.fresh 1 % 3) (atomSize p)
    (atomOld s p a) (numAt p.data 0 (atomSize p)) (numAt p.data 8 (atomSize p))

theorem packetAtomic_eq (h : noStash s) (p : Packet) (a : Nat) : s.packetAtomic p a
    = (atomOld s p a, (s.homeWrite none (a + atomPlace p) (natLe (atomSize p) (atomLeft s p a))).meetOwn p a) := by
  unfold State.packetAtomic
  rw [State.recall_noLines h.noLines, State.writeBack_noRemote h.2]
  rfl

theorem atomicFmt_mem (aw : BitVec 2) (pick : Nat) : atomicFmt (aw == 1) pick ∈ (if aw = 1 then [0, 7] else [5, 6, 10]) := by
  unfold atomicFmt
  by_cases haw : aw = 1
  · rw [if_pos haw, if_pos (beq_iff_eq.2 haw)]
    rcases Nat.mod_two_eq_zero_or_one pick with h | h <;> simp [h]
  · rw [if_neg haw, if_neg (mt beq_iff_eq.1 haw)]
    have : pick % 3 = 0 ∨ pick % 3 = 1 ∨ pick % 3 = 2 := by omega
    rcases this with h | h | h <;> simp [h]

/-- The state after a peer's atomic. -/
def afterAtomic (p : Packet) (s : State) (a : Nat) : State :=
  match s.packetAtomic p a with
  | (old, s1) => s1.reply (.dieFabric (homeDie a)) p 4 (natLe 8 old)

theorem packetAtomic_answers (h : noStash s) (hwf : Memory.wf s.mem = true) (p : Packet) (a : Nat) :
    joins s (afterAtomic p s a) (answersBy a) none (replied s p 4 (natLe 8 (atomOld s p a)))
      ∧ wrote s (afterAtomic p s a) (a + atomPlace p) (natLe (atomSize p) (atomLeft s p a)) := by
  unfold afterAtomic
  rw [packetAtomic_eq h]
  dsimp only
  have hwrite := Around.homeWrite s none (a + atomPlace p) (natLe (atomSize p) (atomLeft s p a))
  have hown := Around.meetOwn (hwrite.remote h.2) p a
  have hmem := (meetOwn_mem (hwrite.remote h.2) p a).trans (State.homeWrite_mem s _ _ _)
  have haround := hwrite.trans hown
  exact ⟨joins_reply haround.toAside _ _ _ _, (wrote_of hwf haround hmem).congr (sameBytes_reply _ _ _ _ _)⟩

/-! ### The statement -/

theorem toOption_ok {e : Except (Option Breach) Nat} (h : e = .ok a) : e.toOption = some a := h ▸ rfl
theorem toOption_error {e : Except (Option Breach) Nat} {b : Option Breach} (h : e = .error b) : e.toOption = none := h ▸ rfl

theorem exec_fabricReadRequest (p : Packet) (s : State) : exec (.fabricReadRequest p) s
    = s.ifUp (s.serve (.fabricReadRequest p) p (s.packetLine p false) (fun s a => s.packetRead p a)) := rfl

theorem exec_fabricWrite (p : Packet) (s : State) : exec (.fabricWrite p) s
    = s.ifUp (s.serve (.fabricWrite p) p (s.packetLine p true) (fun s a => s.packetWrite p a)) := rfl

/-- The line that an atomic reaches: it must be able to write it and to read it. -/
def atomicLine (s : State) (p : Packet) : Except (Option Breach) Nat :=
  match s.packetLine p true with
  | .error b => .error b
  | .ok _ => s.packetLine p false

theorem exec_fabricAtomic (p : Packet) (s : State) : exec (.fabricAtomic p) s
    = s.ifUp (s.serve (.fabricAtomic p) p (atomicLine s p) (afterAtomic p)) := rfl

theorem atomicLine_ok (hw : s.packetLine p true = .ok a) (hr : s.packetLine p false = .ok a) : atomicLine s p = .ok a := by
  unfold atomicLine
  rw [hw]
  exact hr

theorem atomicLine_error (h : (∃ b, s.packetLine p true = .error b) ∨ ∃ b, s.packetLine p false = .error b) :
    ∃ b, atomicLine s p = .error b := by
  unfold atomicLine
  cases hw : s.packetLine p true with
  | error b => exact ⟨b, rfl⟩
  | ok a =>
    rcases h with ⟨b, hb⟩ | h
    · rw [hw] at hb
      cases hb
    · exact h

theorem noStash_acceptAt {port : BitVec 4} (h : noStash s) : noStash (s.acceptAt port) :=
  noStash_around (Around.acceptAt s port) h

/-- A read or a write of a peer is one of the two events, each with the line that it reaches. -/
theorem exec_readOrWrite {e : Instr} {write : Bool} (s : State)
    (h : e = .fabricReadRequest p ∧ write = false ∨ e = .fabricWrite p ∧ write = true) :
    ∃ act, exec e s = s.ifUp (s.serve e p (s.packetLine p write) act) := by
  rcases h with ⟨rfl, rfl⟩ | ⟨rfl, rfl⟩
  · exact ⟨_, exec_fabricReadRequest p s⟩
  · exact ⟨_, exec_fabricWrite p s⟩

theorem peerRequests : PeerRequests := by
  intro s p hup
  refine ⟨fun hother => ⟨idle_otherWorld (exec_fabricReadRequest p s) hother,
    idle_otherWorld (exec_fabricWrite p s) hother, idle_otherWorld (exec_fabricAtomic p s) hother⟩, fun hworld => ?_⟩
  intro port good bad
  refine ⟨fun e write he => ?_, ⟨fun a hw hr hn => ?_, fun hbad hn => ?_, fun hbad hacc => ?_⟩,
    fun hs hwf => ⟨fun a hgood hacc => ?_, fun a hgood _ hacc => ?_, fun a hw hr hacc => ?_⟩⟩
  · obtain ⟨act, hexec⟩ := exec_readOrWrite s he
    refine ⟨fun a ha hn => request_nacked hup hexec hworld (by rwa [toOption_ok ha]), fun ⟨b, hb⟩ hn =>
      request_nacked hup hexec hworld (by rwa [toOption_error hb]), fun ⟨b, hb⟩ hacc =>
      request_dropped hup hexec hworld hb hacc⟩
  · exact request_nacked hup (exec_fabricAtomic p s) hworld (by rwa [toOption_ok (atomicLine_ok hw hr)])
  · obtain ⟨b, hb⟩ := atomicLine_error hbad
    exact request_nacked hup (exec_fabricAtomic p s) hworld (by rwa [toOption_error hb])
  · obtain ⟨b, hb⟩ := atomicLine_error hbad
    exact request_dropped hup (exec_fabricAtomic p s) hworld hb hacc
  · exact ⟨_, request_performed hup (exec_fabricReadRequest p s) hworld hgood hacc,
      packetRead_answers (noStash_acceptAt hs) p a⟩
  · exact ⟨_, request_performed hup (exec_fabricWrite p s) hworld hgood hacc,
      packetWrite_answers (noStash_acceptAt hs) hwf p a⟩
  · obtain ⟨hjoins, hwrote⟩ := packetAtomic_answers (s := s.acceptAt port) (noStash_acceptAt hs) hwf p a
    refine ⟨_, _, _, request_performed hup (exec_fabricAtomic p s) hworld (atomicLine_ok hw hr) hacc, hjoins,
      atomicFmt_mem p.aw (Config.freeNat s.fresh 0), ?_, hwrote⟩
    have : Config.freeNat s.fresh 1 % 3 < 3 := Nat.mod_lt _ (by decide)
    simp only [List.mem_cons, List.not_mem_nil, or_false]
    omega

end Sys2Proof.Claims
end

section
/-! Responses to the package's own requests (R59, R316, R319, R395, R401, R404). -/

namespace Sys2Proof.Claims

open Sys2Proof Sys2Proof.Machine

variable {s t : State} {r : Request} {c : Coach} {tag : Nat} {e : Instr} {bytes : List Byte} {fto : Bool}

theorem brings_iff (r : Request) : r.brings = true ↔ bringsData r := by simp [Request.brings, bringsData]

theorem reads_iff (r : Request) : r.reads = true ↔ r.kind = 0 ∨ r.kind = 3 := by simp [Request.reads]

/-! ### The coach of a request -/

/-- A coach as the wake-up of the coaches that waited for a response leaves it. -/
def woken (s : State) (id : CoachId) (fabric : Bool) (c : Coach) : Coach :=
  if s.remoteOver id c || (fabric && c.wait == .window 3) then { c with wait := .ready } else c

theorem woken_eq (s : State) (id : CoachId) (fabric : Bool) (c : Coach) :
    woken s id fabric c = { c with wait := (woken s id fabric c).wait } := by
  unfold woken
  split <;> rfl

theorem coach?_wakeRemote (s : State) (id : CoachId) (fabric : Bool) (i : CoachId) :
    (s.wakeRemote id fabric).coach? i = (s.coach? i).map (woken s id fabric) := by
  have hid (k : Coach) : (woken s id fabric k).id = k.id := by rw [woken_eq]
  show (s.coaches.map (woken s id fabric)).find? (fun k => k.id == i) = _
  rw [List.find?_map]
  exact congrArg (Option.map _) (congrArg (List.find? · s.coaches) (funext fun k => by simp [hid]))

/-- The coach that a request awaits data for waits no more, once the last of it has come. -/
theorem woken_ready (h : c.wait = .remote) (fabric : Bool) :
    (woken s c.id fabric c).wait = .ready ↔ ∀ k ∈ s.requests, k.coach = c.id → k.held = false → ¬ bringsData k := by
  have hawaits : s.awaitsData c.id = false ↔ ∀ k ∈ s.requests, k.coach = c.id → k.held = false → ¬ bringsData k := by
    simp [State.awaitsData, ← brings_iff, Request.brings]
  rw [← hawaits]
  unfold woken State.remoteOver
  cases s.awaitsData c.id <;> simp [h]

/-- The state in which a request's coach has what the response brings, and waits still. -/
def handedOver (s : State) (r : Request) (c : Coach) (bytes : List Byte) (fto : Bool) : State :=
  ({ s with requests := s.requests.erase r } : State).setCoach (c.answered r bytes fto)

theorem respond_eq (hc : s.coach? r.coach = some c) (bytes : List Byte) (fto : Bool) :
    s.respond r bytes fto = (handedOver s r c bytes fto).wakeRemote c.id r.limit.isSome := by
  have hc' : ({ s with requests := s.requests.erase r } : State).coach? r.coach = some c := hc
  unfold State.respond handedOver
  dsimp only
  rw [hc', State.coach?_id hc]

/-- A response gives the coach of its request what it brings. -/
theorem respond_answers (hc : s.coach? r.coach = some c) (bytes : List Byte) (fto : Bool) :
    answeredBy s (s.respond r bytes fto) c r bytes fto := by
  rw [respond_eq hc]
  refine ⟨rfl, ⟨woken (handedOver s r c bytes fto) c.id r.limit.isSome (c.answered r bytes fto), ?_⟩,
    sameBytes_of rfl rfl (State.cells_congr rfl)⟩
  have hfound : (handedOver s r c bytes fto).coach? c.id = some (c.answered r bytes fto) :=
    State.coach?_setCoach_self _ (c.answered r bytes fto)
  have hready (hw : c.wait = .remote) := woken_ready (s := handedOver s r c bytes fto) (c := c.answered r bytes fto) hw
    r.limit.isSome
  rw [woken_eq]
  refine ⟨?_, ?_, ?_, ?_, ?_, rfl, ?_, hready, rfl⟩
  · rw [coach?_wakeRemote, hfound, ← woken_eq]
    rfl
  · intro hb hheld
    simp [Coach.answered, (brings_iff r).2 hb, hheld]
  · intro hb hheld
    simp [Coach.answered, (brings_iff r).2 hb, hheld]
  · intro hb
    have : (r.brings && !r.held) = false := by
      rcases hb with hb | hb
      · simp [Bool.eq_false_iff.2 (mt (brings_iff r).1 hb)]
      · simp [hb]
    simp [Coach.answered, this]
  · intro hb
    have : (r.brings && r.held) = false := by
      rcases hb with hb | hb
      · simp [Bool.eq_false_iff.2 (mt (brings_iff r).1 hb)]
      · simp [hb]
    simp [Coach.answered, this]
  · simp only [Coach.answered, ← reads_iff]
    cases r.reads <;> cases fto <;> rfl

/-! ### Arrival -/

/-- A response crosses the links of its port and of the die of its coach. -/
theorem responseOpen_iff (hc : s.coach? r.coach = some c) : s.responseOpen r = true ↔ responseRoom s r c := by
  simp [State.responseOpen, responseRoom, hc, linkOpen_iff, State.responsePort, State.portOf]

/-- The port of a request's response. -/
def portBack (s : State) (r : Request) : BitVec 4 := s.steward.planes.getD r.plane 0

section
variable (hup : up s) (hc : s.coach? r.coach = some c)
include hup hc

/-- A response that its port accepts is delivered. -/
theorem response_delivered (hexec : exec e s = s.ifUp (s.responseArrives r e (·.respond r bytes fto)))
    (h : accepted s (portBack s r) e (responseRoom s r c)) : ∃ t, Answers e s t ∧ answeredBy s t c r bytes fto := by
  refine ⟨(s.acceptAt (portBack s r)).respond r bytes fto, ?_, respond_answers (s := s.acceptAt (portBack s r)) hc bytes fto⟩
  unfold Answers
  rw [hexec, ifUp_next hup, State.responseArrives]
  exact congrArg _ (arrive_accepted ((accepted_congr (responseOpen_iff hc)).2 h))

theorem response_nacked (hexec : exec e s = s.ifUp (s.responseArrives r e (·.respond r bytes fto)))
    (h : ¬ accepted s (portBack s r) e (responseRoom s r c)) : Nacked e s (portBack s r) := by
  unfold Nacked
  rw [hexec, ifUp_next hup, State.responseArrives]
  exact congrArg _ (arrive_nacked (mt (accepted_congr (responseOpen_iff hc)).1 h))

/-- A response of the host is delivered. -/
theorem completion_delivered (hexec : exec e s = s.ifUp (s.respond r bytes fto)) :
    ∃ t, Answers e s t ∧ answeredBy s t c r bytes fto :=
  ⟨_, hexec.trans (ifUp_next hup _), respond_answers hc bytes fto⟩

end

/-! ### The events -/

theorem fabricReadData_reads (hr : s.request? tag true = some r) (h : r.kind = 0 ∨ r.kind = 3) (data : List Byte) :
    exec (.fabricReadData tag data) s
      = s.ifUp (s.responseArrives r (.fabricReadData tag data) (·.respond r data false)) := by
  show execFabricReadData tag data s = _
  unfold execFabricReadData
  rw [hr]
  exact congrArg s.ifUp (if_pos ((reads_iff r).2 h))

theorem fabricReadData_other (hr : s.request? tag true = some r) (h : ¬ (r.kind = 0 ∨ r.kind = 3)) (data : List Byte) :
    Idle (.fabricReadData tag data) s := by
  show execFabricReadData tag data s = _
  unfold execFabricReadData
  rw [hr]
  exact (congrArg s.ifUp (if_neg (mt (reads_iff r).1 h))).trans (ifUp_self s)

theorem fabricAck_other (hr : s.request? tag true = some r) (h : ¬ (r.kind = 0 ∨ r.kind = 3)) (old : DWord) :
    exec (.fabricAck tag old) s
      = s.ifUp (s.responseArrives r (.fabricAck tag old) (·.respond r (natLe 8 old.toNat) false)) := by
  show execFabricAck tag old s = _
  unfold execFabricAck
  rw [hr]
  exact congrArg s.ifUp (if_neg (mt (reads_iff r).1 h))

theorem fabricAck_reads (hr : s.request? tag true = some r) (h : r.kind = 0 ∨ r.kind = 3) (old : DWord) :
    Idle (.fabricAck tag old) s := by
  show execFabricAck tag old s = _
  unfold execFabricAck
  rw [hr]
  exact (congrArg s.ifUp (if_pos ((reads_iff r).2 h))).trans (ifUp_self s)

theorem fabricDrop_found (hr : s.request? tag true = some r) : exec (.fabricDrop tag) s
    = s.ifUp (s.responseArrives r (.fabricDrop tag) (·.respond r (List.replicate r.count 0xFF) true)) := by
  show execFabricDrop tag s = _
  unfold execFabricDrop
  rw [hr]
  rfl

theorem hostCompletion_found (hr : s.request? tag false = some r) (ok : Bool) (data : List Byte) :
    exec (.hostCompletion tag ok data) s
      = s.ifUp (if ok then s.respond r data false else s.respond r (List.replicate r.count 0xFF) true) := by
  show execHostCompletion tag ok data s = _
  unfold execHostCompletion
  rw [hr]
  rfl

/-- The limit of a request, the only one of its tag, passes. -/
theorem fabricResponseTimeout_found (hr : r ∈ s.requests) (hone : ∀ k ∈ s.requests, k.tag = r.tag → k = r)
    (hpast : s.overdue r = true) : exec (.fabricResponseTimeout r.tag) s
      = .next { s.timeOut r with staleTags := r.tag :: (s.timeOut r).staleTags } := by
  have hfound : s.requests.find? (fun k => k.tag == r.tag && s.overdue k) = some r := by
    cases hk : s.requests.find? (fun k => k.tag == r.tag && s.overdue k) with
    | none => simpa [hpast] using List.find?_eq_none.1 hk r hr
    | some k =>
      have htag := List.find?_some hk
      simp only [Bool.and_eq_true, beq_iff_eq] at htag
      rw [hone k (List.mem_of_find?_eq_some hk) htag.1]
  show execFabricResponseTimeout r.tag s = _
  unfold execFabricResponseTimeout
  rw [hfound]

theorem request?_none (h : ∀ k ∈ s.requests, k.tag ≠ tag) (fabric : Bool) : s.request? tag fabric = none :=
  List.find?_eq_none.2 fun k hk => by simp [h k hk]

/-- Events for a tag that no request has. -/
theorem lateResponses (hup : up s) (h : ∀ k ∈ s.requests, k.tag ≠ tag) (data : List Byte) (old : DWord) (ok : Bool) :
    Answers (.fabricReadData tag data) s (s.lateResponse tag) ∧ Answers (.fabricAck tag old) s (s.lateResponse tag)
      ∧ Answers (.fabricDrop tag) s (s.lateResponse tag) ∧ Idle (.fabricResponseTimeout tag) s
      ∧ Idle (.hostCompletion tag ok data) s := by
  have hfabric := request?_none h true
  have hnone : s.requests.find? (fun k => k.tag == tag && s.overdue k) = none :=
    List.find?_eq_none.2 fun k hk => by simp [h k hk]
  refine ⟨?_, ?_, ?_, ?_, ?_⟩
  · show execFabricReadData tag data s = _
    unfold execFabricReadData
    rw [hfabric]
    exact ifUp_next hup _
  · show execFabricAck tag old s = _
    unfold execFabricAck
    rw [hfabric]
    exact ifUp_next hup _
  · show execFabricDrop tag s = _
    unfold execFabricDrop
    rw [hfabric]
    exact ifUp_next hup _
  · show execFabricResponseTimeout tag s = _
    unfold execFabricResponseTimeout
    rw [hnone]
  · show execHostCompletion tag ok data s = _
    unfold execHostCompletion
    rw [request?_none h false]

/-! ### The statement -/

theorem responsesArrive : ResponsesArrive := by
  intro s tag r c hup hc
  refine ⟨fun hr => ?_, fun hr data => ?_, fun ⟨n, hn, hpast⟩ hmem hone => ?_, fun h data old ok =>
    lateResponses hup h data old ok⟩
  · replace hr : s.request? tag true = some r := hr
    refine ⟨fun data hk => ⟨response_delivered hup hc (fabricReadData_reads hr hk data),
        response_nacked hup hc (fabricReadData_reads hr hk data), fabricAck_reads hr hk⟩,
      fun old h0 h3 => ?_, response_delivered hup hc (fabricDrop_found hr), response_nacked hup hc (fabricDrop_found hr)⟩
    have hk : ¬ (r.kind = 0 ∨ r.kind = 3) := not_or.2 ⟨h0, h3⟩
    exact ⟨response_delivered hup hc (fabricAck_other hr hk old), response_nacked hup hc (fabricAck_other hr hk old),
      fabricReadData_other hr hk⟩
  · replace hr : s.request? tag false = some r := hr
    exact ⟨completion_delivered hup hc (hostCompletion_found hr true data),
      completion_delivered hup hc (hostCompletion_found hr false data)⟩
  · have hover : s.overdue r = true := by simp [State.overdue, hn, hpast]
    exact ⟨_, fabricResponseTimeout_found hmem hone hover, respond_answers hc _ true, List.mem_cons_self⟩

end Sys2Proof.Claims
end

section
/-! The host's reads and writes of Lunath (R320, R323, R407, R412). -/

namespace Sys2Proof.Machine

open Sys2Proof

/-! ### A range in pieces -/

theorem Memory.readBytes_add (m : List Host.Cell) (a n k : Nat) :
    Memory.readBytes m a (n + k) = Memory.readBytes m a n ++ Memory.readBytes m (a + n) k := by
  unfold Memory.readBytes
  rw [List.range_add, List.map_append, List.map_map]
  simp [Function.comp_def, Nat.add_assoc]

theorem Memory.writeBytes_append (xs ys : List Byte) (m : List Host.Cell) (a : Nat) :
    Memory.writeBytes m a (xs ++ ys) = Memory.writeBytes (Memory.writeBytes m a xs) (a + xs.length) ys := by
  induction xs generalizing m a with
  | nil => rfl
  | cons x xs ih =>
    rw [List.cons_append, Memory.writeBytes, Memory.writeBytes, ih, List.length_cons]
    congr 1
    omega

/-- How far into `n` bytes from `a` on the first `k` lines reach. -/
def lineEnd (a n k : Nat) : Nat := min (a + n) (128 * (a / 128 + k)) - a

theorem lineEnd_zero (a n : Nat) : lineEnd a n 0 = 0 := by
  unfold lineEnd
  omega

theorem lineEnd_mono (a n k : Nat) : lineEnd a n k ≤ lineEnd a n (k + 1) := by
  unfold lineEnd
  omega

/-- The lines that a range meets. -/
def spanLines (a n : Nat) : Nat := if n = 0 then 0 else (a + n - 1) / 128 - a / 128 + 1

theorem lineEnd_count (a n : Nat) : lineEnd a n (spanLines a n) = n := by
  unfold lineEnd spanLines
  split <;> omega

theorem linesOf_eq (a n : Nat) : linesOf a n = (List.range (spanLines a n)).map (fun i => a / 128 + i) := by
  unfold linesOf spanLines
  split <;> rfl

theorem mem_linesOf {a n l : Nat} : l ∈ linesOf a n ↔ 0 < n ∧ a / 128 ≤ l ∧ 128 * l < a + n := by
  rw [linesOf_eq]
  simp only [List.mem_map, List.mem_range, spanLines]
  constructor
  · rintro ⟨i, hi, rfl⟩
    split at hi <;> omega
  · rintro ⟨hn, hl, hend⟩
    exact ⟨l - a / 128, by rw [if_neg (by omega)]; omega, by omega⟩

/-- The pieces of a range follow one another, each to the end of its line. -/
theorem linePieces_eq (a n : Nat) : linePieces a n
    = (List.range (spanLines a n)).map (fun k => (a + lineEnd a n k, lineEnd a n (k + 1) - lineEnd a n k)) := by
  unfold linePieces
  rw [linesOf_eq, List.map_map]
  refine List.map_congr_left fun k hk => ?_
  have hk : k < spanLines a n := List.mem_range.1 hk
  have hin : 128 * (a / 128 + k) < a + n := by
    unfold spanLines at hk
    split at hk <;> omega
  simp only [Function.comp_apply, Prod.mk.injEq, lineEnd]
  omega

/-- A range is read piece by piece. -/
theorem flatMap_linePieces (m : List Host.Cell) (a n : Nat) :
    (linePieces a n).flatMap (fun q => Memory.readBytes m q.1 q.2) = Memory.readBytes m a n := by
  have upto (k : Nat) : (List.range k).flatMap
      (fun k => Memory.readBytes m (a + lineEnd a n k) (lineEnd a n (k + 1) - lineEnd a n k))
      = Memory.readBytes m a (lineEnd a n k) := by
    induction k with
    | zero => rw [lineEnd_zero]; rfl
    | succ k ih =>
      rw [List.range_succ, List.flatMap_append, ih, List.flatMap_singleton, ← Memory.readBytes_add,
        Nat.add_sub_cancel' (lineEnd_mono a n k)]
  rw [linePieces_eq, List.flatMap_map, upto, lineEnd_count]

/-- A range is written piece by piece. -/
theorem foldl_linePieces (m : List Host.Cell) (a : Nat) (bs : List Byte) :
    (linePieces a bs.length).foldl (fun m q => Memory.writeBytes m q.1 ((bs.drop (q.1 - a)).take q.2)) m
      = Memory.writeBytes m a bs := by
  have upto (k : Nat) : (List.range k).foldl (fun m k => Memory.writeBytes m (a + lineEnd a bs.length k)
      ((bs.drop (lineEnd a bs.length k)).take (lineEnd a bs.length (k + 1) - lineEnd a bs.length k))) m
      = Memory.writeBytes m a (bs.take (lineEnd a bs.length k)) := by
    induction k with
    | zero => rw [lineEnd_zero]; rfl
    | succ k ih =>
      have hle : lineEnd a bs.length k ≤ bs.length := by unfold lineEnd; omega
      have hlen : (bs.take (lineEnd a bs.length k)).length = lineEnd a bs.length k := List.length_take_of_le hle
      rw [List.range_succ, List.foldl_append, ih, List.foldl_cons, List.foldl_nil,
        ← Nat.add_sub_cancel' (lineEnd_mono a bs.length k), List.take_add, Memory.writeBytes_append, hlen,
        Nat.add_sub_cancel_left]
  have hall := upto (spanLines a bs.length)
  rw [lineEnd_count, List.take_length] at hall
  rw [linePieces_eq, List.foldl_map, ← hall]
  simp only [Nat.add_sub_cancel_left]

end Sys2Proof.Machine

namespace Sys2Proof.Claims

open Sys2Proof Sys2Proof.Machine

variable {s : State} {a n : Nat}

/-! ### What stops an access of the host -/

theorem ioDown_up (h : up s) : s.ioDown = false := by
  simp [State.ioDown, h.2]

theorem ifPowered_next (h : up s) (t : State) : s.ifPowered t = .next t := by
  obtain ⟨hp, -⟩ := id h
  simp [State.ifPowered, hp, ioDown_up h]

theorem dirtyLine_noStash (h : noStash s) (line : Nat) : s.dirtyLine line = none :=
  List.findSome?_eq_none_iff.2 fun k hk => by simp [h.noLines k hk]

theorem stashPoison_noStash (h : noStash s) (line : Nat) : s.stashPoison line = none := by
  unfold State.stashPoison
  rw [dirtyLine_noStash h]
  split <;> rfl

/-- A line that the host reaches has no hazard. -/
theorem hazards_reachable (hs : noStash s) (h : reachable s a n) {l : Nat} (hl : l ∈ linesOf a n) :
    s.writeHazard (.lunath (128 * l)) = none ∧ s.readHazard (.lunath (128 * l)) 128 = none := by
  obtain ⟨-, hfirst, hlast⟩ := mem_linesOf.1 hl
  obtain ⟨-, hdie, hline, htags⟩ := h.2 l hfirst hlast
  have hpoison : s.linePoisoned (128 * l) = false := by simp [State.linePoisoned, hline]
  constructor
  · simp [State.writeHazard, hdie]
  · simp [State.readHazard, hdie, htags, stashPoison_noStash hs, hpoison]

theorem hostBlocked_reachable (hs : noStash s) (h : reachable s a n) (write : Bool) : s.hostBlocked a n write = false := by
  have hlines : (linesOf a n).any (fun l =>
      (if write then s.writeHazard (.lunath (128 * l)) else s.readHazard (.lunath (128 * l)) 128).isSome) = false :=
    List.any_eq_false.2 fun l hl => by
      obtain ⟨hw, hr⟩ := hazards_reachable hs h hl
      cases write <;> simp [hw, hr]
  unfold State.hostBlocked
  rw [hlines, decide_eq_false (by have := h.1; omega)]
  rfl

theorem hostBreach_reachable (h : reachable s a n) : s.hostBreach a n = false :=
  List.any_eq_false.2 fun l hl => by
    obtain ⟨-, hfirst, hlast⟩ := mem_linesOf.1 hl
    simp [(h.2 l hfirst hlast).1]

theorem hostBlocked_beyond (h : 2 ^ 40 < a + n) (write : Bool) : s.hostBlocked a n write = true := by
  unfold State.hostBlocked
  rw [decide_eq_true h]
  rfl

theorem foldl_recall (hs : noStash s) (isRead : Bool) (ls : List Nat) :
    ls.foldl (fun s l => s.recall l isRead) s = s := by
  induction ls with
  | nil => rfl
  | cons l ls ih => rw [List.foldl_cons, State.recall_noLines hs.noLines, ih]

/-! ### Reads and writes -/

/-- What a read of the host answers. -/
def answeredWith (s : State) (d : Option (List Byte)) : State := { s with outbox := s.outbox ++ [.bar2Completion d] }

/-- A read of the host while the package runs. -/
theorem exec_hostBar2Read (hup : up s) (off n : Nat) : exec (.hostBar2Read off n) s = .next
    (if s.hostBreach (s.apertureAt off) n then answeredWith (s.logRecord (natLe 8 (s.apertureAt off))) none
     else if s.hostBlocked (s.apertureAt off) n false then answeredWith s none
     else
       let s1 := (linesOf (s.apertureAt off) n).foldl (fun s l => s.recall l true) s
       answeredWith s1 (some ((linePieces (s.apertureAt off) n).flatMap (fun q => s1.homeBytes none q.1 q.2)))) := by
  show execHostBar2Read off n s = _
  unfold execHostBar2Read
  rw [ioDown_up hup]
  exact ifUp_next hup _

theorem hostRead_reachable (hup : up s) (hs : noStash s) {off : Nat} (h : reachable s (s.apertureAt off) n) :
    Answers (.hostBar2Read off n) s (answeredWith s (some (Memory.readBytes s.mem (s.apertureAt off) n))) := by
  have hbytes : (linePieces (s.apertureAt off) n).flatMap (fun q => s.homeBytes none q.1 q.2)
      = Memory.readBytes s.mem (s.apertureAt off) n := by
    rw [← flatMap_linePieces]
    exact congrArg (List.flatMap · _) (funext fun q => homeBytes_noRemote hs.2 none q.1 q.2)
  unfold Answers
  rw [exec_hostBar2Read hup, hostBreach_reachable h, hostBlocked_reachable hs h, foldl_recall hs]
  simp only [hbytes]
  rfl

/-- A write of the host to lines that it reaches, outside TDIES. -/
theorem hostWriteAt_wrote (hs : noStash s) (hwf : Memory.wf s.mem = true) {data : List Byte}
    (h : reachable s a data.length) (htdies : ∀ j, j < data.length → s.tdiesAt (a + j) = none) :
    wrote s (s.hostWriteAt a data) a data := by
  have hbytes : (List.range data.length).map (fun i => s.hostByte (a + i) (data.getD i 0)) = data := by
    refine List.ext_getElem (by simp) fun i hi _ => ?_
    have hi : i < data.length := by simpa using hi
    simp [State.hostByte, htdies i hi, hi]
  obtain ⟨haround, hmem⟩ := foldl_lunathWrite (fun q : Nat × Nat => q.1) (fun q => (data.drop (q.1 - a)).take q.2)
    (linePieces a data.length) hs.noLines
  rw [foldl_linePieces] at hmem
  have hafter : s.hostWriteAt a data = (linePieces a data.length).foldl
      (fun s q => s.lunathWrite none q.1 ((data.drop (q.1 - a)).take q.2)) s := by
    unfold State.hostWriteAt
    dsimp only
    rw [hostBreach_reachable h, hostBlocked_reachable hs h, foldl_recall hs, hbytes]
    rfl
  rw [hafter]
  exact wrote_of hwf haround hmem

theorem exec_hostBar2Write (hup : up s) (off : Nat) (data : List Byte) :
    exec (.hostBar2Write off data) s = .next (s.hostWriteAt (s.apertureAt off) data) := ifPowered_next hup _

theorem hostWriteAt_breach {data : List Byte} (h : s.hostBreach a data.length = true) :
    s.hostWriteAt a data = s.logRecord (natLe 8 a) := by
  unfold State.hostWriteAt
  exact if_pos h

theorem hostWriteAt_beyond {data : List Byte} (hb : s.hostBreach a data.length = false) (h : 2 ^ 40 < a + data.length) :
    s.hostWriteAt a data = s := by
  unfold State.hostWriteAt
  dsimp only
  rw [hb, hostBlocked_beyond h]
  rfl

/-! ### The statement -/

theorem apertureAt_unit {off : Nat} (h : Config.bar2Resized = false) (hoff : off < 2 ^ 36) :
    s.apertureAt off = s.window.apbase.toNat % 16 * 2 ^ 36 + off := by
  unfold State.apertureAt
  rw [if_neg (by simp [h]), if_pos hoff]
  simp [bits]

theorem hostMemory : HostMemory := by
  intro s off hup hs hwf a
  refine ⟨fun h => if_pos h, apertureAt_unit, fun n h => hostRead_reachable hup hs h, fun n h => ?_, fun n hb h => ?_,
    fun data => ⟨fun h htdies => ?_, fun h => ?_, fun hb h => ?_⟩⟩
  · unfold Answers
    rw [exec_hostBar2Read hup, if_pos h]
    rfl
  · unfold Answers
    rw [exec_hostBar2Read hup, if_neg (by simp [hb, a]), if_pos (hostBlocked_beyond h false)]
    rfl
  · exact ⟨_, exec_hostBar2Write hup off data, hostWriteAt_wrote hs hwf h htdies⟩
  · exact (exec_hostBar2Write hup off data).trans (congrArg _ (hostWriteAt_breach h))
  · exact (exec_hostBar2Write hup off data).trans (congrArg _ (hostWriteAt_beyond hb h))

/-- Settles O52: requests of peers, responses to the package's own requests, and the host's accesses of Lunath. -/
theorem outsideRequests : Obligations.OutsideRequests := ⟨peerRequests, responsesArrive, hostMemory⟩

end Sys2Proof.Claims
end
